-- ==== Sys2Proof/Word.lean ====
section
/-! DEFINITION. The word type of the links and the journal, and the plainest data of the part: bytes and tables. -/

namespace Sys2Proof

/-- A byte on a link, in a ring slot, in a reply, in a journal slot; also an 8-bit generation (R24: modulo 256). -/
abbrev Byte := BitVec 8

/-- A set of zones 0 to 15 (bit n for zone n), or a notice mask (bit n for notice n). -/
abbrev Mask16 := BitVec 16

/-- A table of records with an index: a list of (index, record), indices strictly rising, and no
record equal to the table's default, which every unlisted index reads as. -/
abbrev Table (α : Type) := List (Nat × α)

/-- The three links (chapter 9). -/
inductive LinkId where
  | desk
  | lock
  | audit
  deriving DecidableEq, Repr

/-- Why a warm start came (R185): main power returned, or RESETn. -/
inductive WarmCause where
  | power
  | pin
  deriving DecidableEq, Repr

end Sys2Proof
end

