-- ==== Sys2Proof/Config.lean ====
section
/-! DEFINITION. What the part fixes (capacities of R182, limits of the rules) and the free values the manual leaves open. -/

namespace Sys2Proof.Config

/-- Rooms of the Room Table (R20). -/
def rooms : Nat := 512
/-- Keys of the Key Table (R42). -/
def keys : Nat := 2048
/-- Places of a room key list (R23). -/
def roomKeys : Nat := 8
/-- Room entries of a guest key (R42). -/
def entriesPerKey : Nat := 4
/-- Doors of the Door Table (R70). -/
def doors : Nat := 768
/-- Zones (R8). -/
def zones : Nat := 16
/-- Staff schedules (R11). -/
def schedules : Nat := 16
/-- Places of the Watch List (R62). -/
def watchEntries : Nat := 256
/-- Item codes (R102). -/
def items : Nat := 32
/-- Places of the Session Pool (R111). -/
def sessions : Nat := 32
/-- Lines of a session (R118). -/
def lines : Nat := 8
/-- Group entries (R126). -/
def groupEntries : Nat := 16
/-- Places of the staging queue (R143). -/
def staging : Nat := 32
/-- Physical journal pages (chapter 7, section 7.3). -/
def pages : Nat := 136
/-- Ring positions when the part leaves the factory (R147). -/
def ringPages : Nat := 128
/-- Slots of a page (chapter 7, section 7.3). -/
def slotsPerPage : Nat := 64
/-- Request ring slots, at most (R186). -/
def ringSlots : Nat := 16
/-- Places of a reply queue (R186). -/
def replyPlaces : Nat := 16

/-- The greatest site minute, and the greatest sequence number (R1, R148). -/
def maxMinute : Nat := 4294967295
/-- The greatest tally and credit limit (R105). -/
def maxTally : Nat := 9999999

/-- FREE VALUE (log entry 8). The content bytes of a journal record beyond its last field: the manual states no value.
Given the record's sequence number and the byte's place; no body, so nothing can be proved of it. -/
opaque recordFill : Nat → Nat → Byte

/-- FREE VALUE (log entry 9). The number of ring positions a recovery scan has read when JOURNAL_HEALTH asks (R164),
before the bound of the ring is applied. Given a counter of State that every draw advances. -/
opaque scanProgress : Nat → Nat

end Sys2Proof.Config
end

