-- ==== Sys2Proof/Syntax.lean ====
section
/-! DEFINITION. The commands of the part: one constructor per row of spec/opcode_table.json. -/

namespace Sys2Proof

/-- One command is one row of the table: one indivisible step of the part (95_what_each_step_holds). The fields of a request
are not operands: they stand in the ring slots and reach the step through the request in progress (R191, R204). Operands are
what the world decides at the step: the link, the bytes a master clocks after a frame code, what the flash array reads. -/
inductive Instr where
  /-- COLD_START, R184. Main power applied with the retained domain lost: every block takes its cold start values, the journal enters RECOVERING and the recovery scan begins. `slotRead`: what the slot whose program the power loss cut reads; `pageRead`: what the page whose erase it cut reads, slot by slot (slots that read erased are left out). -/
  | coldStart (slotRead : List Byte) (pageRead : List (Nat × List Byte))
  /-- WARM_START, R184. Main power returns with the retained domain intact, or RESETn is asserted: operations already taken complete, waiting ones are dropped, and each block makes its warm start changes, ending with a WARM RESTART record. `slotRead`: what the slot whose program was in progress reads (R168). -/
  | warmStart (cause : WarmCause) (slotRead : List Byte)
  /-- SCAN_COMPLETE, R167. The recovery scan completes: the release and discard marks are set, the journal state is chosen, the high test is made and a COLD RESTART record is offered. -/
  | scanComplete
  /-- SECOND_EVENT, R1. The running Site Clock steps S once per crystal second, and the step from 59 to 0 also advances M, with M holding at its maximum. -/
  | secondEvent
  /-- SWEEP_KEY_VISIT, R16. The Credential Manager takes the sweep visit to one key number and expires, lapses or reclaims the key as its state and the current M require. -/
  | sweepKeyVisit
  /-- SWEEP_WATCH_VISIT, R17. The Credential Manager takes the sweep visit to the Watch List and removes every entry whose until-minute is at or before M, with WATCH_CHANGE records. -/
  | sweepWatchVisit
  /-- SWEEP_ALLOWANCE_VISIT, R18. The Credential Manager takes the sweep visit to the emergency allowance, withdraws the allowance if it is past its deadline, and completes the pass. -/
  | sweepAllowanceVisit
  /-- IDLE_TEST, R113. At each second event the Minibar Accounting Unit tests the pool and closes with cause IDLE every session idle for the timeout or longer. -/
  | idleTest
  /-- SET_TIME, R4. A Desk request that sets M and S subject to the backward limit, restarts the second count, raises a minute event if M changed, and makes a TIME_SET record and notice. -/
  | setTime
  /-- TIME_QUERY, R5. Replies with the clock, the calendar quantities and the sweep state. -/
  | timeQuery (l : LinkId)
  /-- ZONE_SET, R9. A Desk request that writes a zone's guest band and guest-allowed flag. -/
  | zoneSet
  /-- ZONE_LOCKDOWN, R10. An Audit request that sets or clears a zone's lockdown flag, with a SECURITY record when the flag changes. -/
  | zoneLockdown
  /-- ZONE_QUERY, R13. Replies with a zone's guest band, guest-allowed flag and lockdown flag. -/
  | zoneQuery (l : LinkId)
  /-- SCHEDULE_SET, R12. A Desk request that writes one band to every weekday flagged in the mask of a schedule. -/
  | scheduleSet
  /-- SCHEDULE_QUERY, R13. Replies with the seven bands of a schedule. -/
  | scheduleQuery (l : LinkId)
  /-- CHECK_IN, R27. The Credential Manager takes a Desk check-in of a room, checks it, and hands the tally-open to the Minibar Accounting Unit. -/
  | checkIn
  /-- TALLY_OPEN, R106. The Minibar Accounting Unit opens the room's tally at 0 with the given limit, and the check-in then sets the stay, makes the room OCCUPIED and offers STAY_OPEN. -/
  | tallyOpen
  /-- CHECK_OUT, R31. The Credential Manager takes a Desk check-out, trims the stay end, and hands the session-close and tally-close of the room to the Minibar Accounting Unit. -/
  | checkOut
  /-- TALLY_CLOSE, R107. The Minibar Accounting Unit closes any session on the room's minibar and then closes the tally, returning the final tally; the handing check-out or check-in then goes on. -/
  | tallyClose
  /-- EXTEND_STAY, R34. A Desk request that replaces the stay end of an OCCUPIED room. -/
  | extendStay
  /-- ROOM_SET_READY, R35. ROOM_SET action READY moves a DEPARTED room to VACANT, removing its stay. -/
  | roomSetReady
  /-- ROOM_SET_OUT, R35. ROOM_SET action OUT moves a VACANT or DEPARTED room to OUT_OF_SERVICE, removing its stay. -/
  | roomSetOut
  /-- ROOM_SET_BACK, R35. ROOM_SET action BACK moves an OUT_OF_SERVICE room to VACANT. -/
  | roomSetBack
  /-- ROOM_SET_LABEL, R36. ROOM_SET action LABEL replaces the room's label, provided no other room holds it. -/
  | roomSetLabel
  /-- ROOM_QUERY, R37. Replies with the stay part or the key-list part of a room record. -/
  | roomQuery (l : LinkId)
  /-- PRIVACY_OPERATION, R38. The Credential Manager takes a privacy operation that sets or clears a room's privacy flag. -/
  | privacyOperation
  /-- ISSUE_KEY, R49. A Desk request, taken by the Credential Manager, that checks and issues a PENDING key of a given kind and returns its card image. -/
  | issueKey
  /-- CONFIRM_ENCODE, R56. A Desk request that binds a card serial to a PENDING key and makes the key LIVE. -/
  | confirmEncode
  /-- CANCEL_KEY, R58. A Desk request that frees a PENDING key or cancels a LIVE key with reason DESK. -/
  | cancelKey
  /-- REPORT_LOST, R59. A Desk request that cancels a key with reason LOST and enters its bound serial on the Watch List. -/
  | reportLost
  /-- KEY_QUERY, R61. Replies with a key record and the counts of keys in each state. -/
  | keyQuery (l : LinkId)
  /-- WATCH_ADD, R65. A Desk request that cancels any LIVE key bound to the serial and enters the serial on the Watch List. -/
  | watchAdd
  /-- WATCH_REMOVE, R66. A Desk request that removes a serial from the Watch List. -/
  | watchRemove
  /-- WATCH_QUERY, R67. Replies with the Watch List length, its earliest until-minute and the status of the given serial. -/
  | watchQuery (l : LinkId)
  /-- EMERGENCY_ALLOW, R68. An Audit request that grants a clamped emergency allowance count with a deadline, with a SECURITY record. -/
  | emergencyAllow
  /-- PRESENT, R77. The Access Evaluator takes a card presentation from the Lock Link and hands a presentation operation to the Credential Manager. -/
  | present
  /-- PRESENTATION_OPERATION, R79. The Credential Manager takes the presentation operation: the checks are made in order and, unless a minibar session-open is needed, the verdict, records and reply are completed. -/
  | presentationOperation
  /-- SESSION_OPEN, R89. The Minibar Accounting Unit answers a session-open as CLOSED, LOCKED, KEPT, OPENED or FULL, after which the Evaluator completes the verdict, records and reply. -/
  | sessionOpen
  /-- DOOR_REPORT_CLOSED, R75. A door report of CLOSED returns a HELD_OPEN or FORCED door to CLOSED with a DOOR_CONDITION record. -/
  | doorReportClosed
  /-- DOOR_REPORT_HELD_OPEN, R75. A door report of HELD_OPEN moves a CLOSED door to HELD_OPEN with a DOOR_CONDITION record. -/
  | doorReportHeldOpen
  /-- DOOR_REPORT_FORCED, R75. A door report of FORCED moves the door to FORCED with a SECURITY record and the DOOR_FORCED notice. -/
  | doorReportForced
  /-- DOOR_REPORT_PRIVACY_ON, R76. A PRIVACY_ON report from an enabled ROOM door hands a privacy operation to the Credential Manager; from any other door it is ignored. -/
  | doorReportPrivacyOn
  /-- DOOR_REPORT_PRIVACY_OFF, R76. A PRIVACY_OFF report from an enabled ROOM door hands a privacy operation to the Credential Manager; from any other door it is ignored. -/
  | doorReportPrivacyOff
  /-- DOOR_SET, R71. A Desk request that checks and writes a door record, handing minibar assignment, release or session-close to the Minibar Accounting Unit as needed. -/
  | doorSet
  /-- MINIBAR_DOOR_ASSIGNMENT, R108. The Minibar Accounting Unit makes the room's tally record name the door as its minibar. -/
  | minibarDoorAssignment
  /-- MINIBAR_RELEASE, R108. The Minibar Accounting Unit removes the door from the room's tally record, or answers BUSY while a session is open on it. -/
  | minibarRelease
  /-- DOOR_SET_SESSION_CLOSE, R108. The Minibar Accounting Unit closes the door's session with cause DOOR_DISABLED. -/
  | doorSetSessionClose
  /-- DOOR_QUERY, R73. Replies with a door record and the counts of enabled, HELD_OPEN and FORCED doors. -/
  | doorQuery (l : LinkId)
  /-- MINIBAR_TAKE, R116. A removal report that is classified as STOCK, SHRINKAGE or a charge on a line, NO_LINE or UNATTENDED. -/
  | minibarTake
  /-- MINIBAR_RETURN, R121. A return report that is counted as STOCK, refunded from a session line, or recorded as UNMATCHED. -/
  | minibarReturn
  /-- MINIBAR_SHUT, R114. A Lock report that the minibar door is shut, closing any session open on it with cause SHUT. -/
  | minibarShut
  /-- PRICE_SET, R103. A Desk request that replaces an item's price unless the tariff lock is on. -/
  | priceSet
  /-- RATE_SET, R103. A Desk request that replaces the service rate, clamped to 250, unless the tariff lock is on. -/
  | rateSet
  /-- TARIFF_LOCK, R104. An Audit request that sets the tariff lock. -/
  | tariffLock
  /-- TARIFF_QUERY, R104. Replies with an item's price, the rate and the tariff lock. -/
  | tariffQuery (l : LinkId)
  /-- CREDIT_SET, R109. A Desk request that replaces the credit limit of an open tally. -/
  | creditSet
  /-- TALLY_QUERY, R123. Replies with a tally record, its session and one session line. -/
  | tallyQuery (l : LinkId)
  /-- GROUP_LOAD, R128. A Desk request that writes a group entry and clears its progress, refused COLLISION at the entry being worked. -/
  | groupLoad
  /-- GROUP_POINT, R129. A Desk request that sets first and last and, during a run, sets the redirect mark. -/
  | groupPoint
  /-- GROUP_START, R130. A Desk request that begins a new group run from IDLE or resumes a STOPPED run. -/
  | groupStart
  /-- GROUP_CHECKIN_STEP, R132. The Credential Manager takes a group check-in step of test and apply phases, after which the entry's checked-in flag is set or the run stops. -/
  | groupCheckinStep
  /-- GROUP_PLACE_HOLD, R133. A run waiting for a Desk reply place holds one when it is freed, clears the waiting flag and hands the issue step. -/
  | groupPlaceHold
  /-- GROUP_ISSUE_STEP, R134. The Credential Manager takes the issue step of one group copy, which places a CARD_IMAGE reply or stops the run. -/
  | groupIssueStep
  /-- ENTRY_BOUNDARY, R135. When the entry at next is complete, done is set and the run ends IDLE, redirects, moves on, halts or stops for an abort. -/
  | entryBoundary
  /-- GROUP_HALT, R137. A Desk request that makes a RUNNING run HALTING. -/
  | groupHalt
  /-- GROUP_ABORT, R137. A Desk request that sets the abort flag, stopping at once a run that waits for a reply place. -/
  | groupAbort
  /-- GROUP_QUERY, R140. Replies with the queue state, the pointers, the stop reason and one entry. -/
  | groupQuery (l : LinkId)
  /-- STAGE_RECORD, R143. The staging input takes an offered record and appends it to the staging queue, or counts it as unstaged when the queue is full. -/
  | stageRecord
  /-- PROGRAM_START, R149. The writer begins programming the head staged record into the write position with sequence number newest + 1. -/
  | programStart
  /-- PROGRAM_COMPLETE, R150. A program completes with read-back: on a pass the record becomes durable and leaves staging, and on a failure the page is retired. `readBack`: the 32 bytes the slot reads back. -/
  | programComplete (readBack : List Byte)
  /-- TURN, R152. With staging non-empty and the write page FULL or retired, the writer takes the next ring page, erasing or discarding it, or waits for a page. -/
  | turn
  /-- ERASE_START, R155. An erase of a page begins once the array is IDLE, and the records on the page stop being readable. -/
  | eraseStart
  /-- ERASE_COMPLETE, R155. An erase completes: the page becomes ERASED or the write page, or on failure is retired. `pageRead`: what the page reads after the erase, slot by slot (slots that read erased are left out). -/
  | eraseComplete (pageRead : List (Nat × List Byte))
  /-- JOURNAL_READ, R161. An Audit request that chooses up to 8 readable records and places the head of its answer. -/
  | journalRead
  /-- JOURNAL_RELEASE, R163. An Audit request that advances released-through, letting retired pages go OUT, making the high test and the erase-ahead test. -/
  | journalRelease
  /-- JOURNAL_HEALTH, R164. Replies with the journal state, marks, page counts and write position. -/
  | journalHealth (l : LinkId)
  /-- SITE_WRITE, R173. A Desk request that writes the site record once and moves UNPROVISIONED to CONFIGURING. -/
  | siteWrite
  /-- COMMISSION, R174. A Desk request that moves CONFIGURING to IN_SERVICE once the clock is set. -/
  | commission
  /-- DECOMMISSION, R175. An Audit request that moves IN_SERVICE to CONFIGURING. -/
  | decommission
  /-- SETTINGS_SET, R177. A Desk request that clamps and stores the flagged settings among grace, encode deadline and session idle timeout. -/
  | settingsSet
  /-- FENCE_DESK, R179. An Audit request that sets the Desk fence, with a SECURITY record, a FENCE_CHANGED notice and a halt of a running group run. -/
  | fenceDesk
  /-- UNFENCE_DESK, R179. An Audit request that clears the Desk fence, with a SECURITY record and a FENCE_CHANGED notice. -/
  | unfenceDesk
  /-- IDENTIFY, R182. Replies with the vendor, part and revision codes, the answering link and the capacities. -/
  | identify (l : LinkId)
  /-- SITE_QUERY, R183. Replies with the service state, site record, settings, fence, tariff lock and clock-set flag. -/
  | siteQuery (l : LinkId)
  /-- WRITE_SLOT, R188. A frame that writes 16 bytes into a ring slot the part does not own. -/
  | writeSlot (l : LinkId) (bytes : List Byte)
  /-- POST, R189. A frame that moves the tail forward to hand slots to the part, halting the ring on a refusal in strict mode. -/
  | post (l : LinkId) (bytes : List Byte)
  /-- FETCH, R196. A frame that returns the reply count, head and oldest reply, and removes that reply. `clocked`: how many bytes the master clocks after the code (18 for a whole frame). -/
  | fetch (l : LinkId) (clocked : Nat)
  /-- STATUS, R197. A frame that returns the link's ring, halt, error, reply and notice state. `clocked`: how many bytes the master clocks after the code (12 for a whole frame). -/
  | status (l : LinkId) (clocked : Nat)
  /-- CLEAR, R198. A frame that clears the notice flags named in its mask. -/
  | clear (l : LinkId) (bytes : List Byte)
  /-- RING, R190. A frame that sets the ring length, strict mode and enable mask and drops the owned slots. -/
  | ring (l : LinkId) (bytes : List Byte)
  /-- RESUME, R193. A frame that restarts a HALTED ring, advancing head past a sequence error. -/
  | resume (l : LinkId) (bytes : List Byte)
  /-- LINK_RESET, R200. A frame that empties the link's ring, reply queue and notices and returns its ring settings to default. -/
  | linkReset (l : LinkId) (bytes : List Byte)
  /-- UNKNOWN_FRAME, R187. A frame whose code is 0 or above 8 sets the LINK_ERROR notice and is otherwise ignored. `code`: the frame code; `bytes`: the bytes clocked after it. -/
  | unknownFrame (l : LinkId) (code : Byte) (bytes : List Byte)
  /-- TAKE_REQUEST, R191. The Link Unit takes the request at head once its slots are owned and a reply place is free, checks it, and hands it to its owning block. -/
  | takeRequest (l : LinkId)
  /-- PLACE_REPLY_RECORD, R205. A later reply record of a multi-record reply or journal read answer is placed once a reply place is free. -/
  | placeReplyRecord (l : LinkId)
  /-- MAIN_POWER_LOSS, R2. Main power is removed while VRET holds: the clock runs on in the retained domain, its second and minute events reach no receiver, and any journal program or erase in progress is cut. -/
  | mainPowerLoss
  deriving DecidableEq, Repr

end Sys2Proof
end

