-- ==== Sys2Proof/WellFormed.lean ====
section
/-! DEFINITION. Which commands are well formed: the bounds of what the world can hand to a step. -/

namespace Sys2Proof

/-- A slot of the flash array is 32 bytes (chapter 7, section 7.3). -/
def slotBytes (bs : List Byte) : Bool := bs.length == 32

/-- A slot reads erased when all its 32 bytes read FFh (R207). -/
def slotErased (bs : List Byte) : Bool := bs == List.replicate 32 0xFF#8

/-- What a page reads: slot numbers below 64, strictly rising from `low` on, each with 32 bytes that do not read erased. -/
def pageReading (low : Nat) : List (Nat × List Byte) → Bool
  | [] => true
  | (n, bs) :: rest => low ≤ n && n < Config.slotsPerPage && slotBytes bs && !slotErased bs && pageReading (n + 1) rest

/-- The links on which the queries of several links are permitted (10, section 10.2): Desk and Audit. -/
def deskOrAudit : LinkId → Bool
  | .desk => true
  | .lock => false
  | .audit => true

/-- Well-formedness of a command, operand by operand. A frame may be cut short (R187), so its bytes have no length to check. -/
def Instr.wellFormed : Instr → Bool
  | .coldStart slotRead pageRead => slotBytes slotRead && pageReading 0 pageRead
  | .warmStart _ slotRead => slotBytes slotRead
  | .programComplete readBack => slotBytes readBack
  | .eraseComplete pageRead => pageReading 0 pageRead
  | .zoneQuery l => deskOrAudit l
  | .scheduleQuery l => deskOrAudit l
  | .roomQuery l => deskOrAudit l
  | .keyQuery l => deskOrAudit l
  | .watchQuery l => deskOrAudit l
  | .doorQuery l => deskOrAudit l
  | .tariffQuery l => deskOrAudit l
  | .tallyQuery l => deskOrAudit l
  | .groupQuery l => deskOrAudit l
  | .journalHealth l => deskOrAudit l
  | .unknownFrame _ code _ => code == 0#8 || 8 < code.toNat
  | .scanComplete | .secondEvent | .sweepKeyVisit | .sweepWatchVisit | .sweepAllowanceVisit | .idleTest | .setTime
  | .timeQuery _ | .zoneSet | .zoneLockdown | .scheduleSet | .checkIn | .tallyOpen | .checkOut | .tallyClose | .extendStay
  | .roomSetReady | .roomSetOut | .roomSetBack | .roomSetLabel | .privacyOperation | .issueKey | .confirmEncode
  | .cancelKey | .reportLost | .watchAdd | .watchRemove | .emergencyAllow | .present | .presentationOperation
  | .sessionOpen | .doorReportClosed | .doorReportHeldOpen | .doorReportForced | .doorReportPrivacyOn
  | .doorReportPrivacyOff | .doorSet | .minibarDoorAssignment | .minibarRelease | .doorSetSessionClose | .minibarTake
  | .minibarReturn | .minibarShut | .priceSet | .rateSet | .tariffLock | .creditSet | .groupLoad | .groupPoint
  | .groupStart | .groupCheckinStep | .groupPlaceHold | .groupIssueStep | .entryBoundary | .groupHalt | .groupAbort
  | .stageRecord | .programStart | .turn | .eraseStart | .journalRead | .journalRelease | .siteWrite | .commission
  | .decommission | .settingsSet | .fenceDesk | .unfenceDesk | .identify _ | .siteQuery _ | .writeSlot _ _ | .post _ _
  | .fetch _ _ | .status _ _ | .clear _ _ | .ring _ _ | .resume _ _ | .linkReset _ _ | .takeRequest _ | .placeReplyRecord _
  | .mainPowerLoss => true

end Sys2Proof
end

