-- ==== Sys2Proof/Decode.lean ====
section
/-! DEFINITION. The command a word spells, and the command an SPI frame spells. -/

namespace Sys2Proof

/-- No row of spec/opcode_table.json gives bits, so no word spells a command. -/
def decodeTableWord (_nbits _w : Nat) : Option Instr := none

/-- The command of a frame on a link, from the bytes between xCSN falling and rising (R187): the frame code first.
A frame cut before its code byte is complete is no command. -/
def frameCommand (l : LinkId) : List Byte → Option Instr
  | [] => none
  | code :: rest =>
    match code.toNat with
    | 1 => some (.writeSlot l rest)
    | 2 => some (.post l rest)
    | 3 => some (.fetch l rest.length)
    | 4 => some (.status l rest.length)
    | 5 => some (.clear l rest)
    | 6 => some (.ring l rest)
    | 7 => some (.resume l rest)
    | 8 => some (.linkReset l rest)
    | _ => some (.unknownFrame l code rest)

end Sys2Proof
end

