-- ==== Sys2Proof/Machine/State.lean ====
section
/-! DEFINITION. The state of the part, block by block, and its value after reset; the faults and refusals of a step. -/

namespace Sys2Proof.Machine

/-! ### Site Settings (chapter 8) -/

/-- Service states, in the order of R171 (the order is their code, R203). -/
inductive Service where
  | unprovisioned
  | configuring
  | inService
  deriving DecidableEq, Repr

/-- The write-once site record (R171). -/
structure SiteRecord where
  number : Nat
  wing : Nat
  /-- 0 = Monday to 6 = Sunday. -/
  epoch : Nat
  deriving DecidableEq, Repr

/-- What Site Settings holds (R171). -/
structure Settings where
  service : Service
  record : Option SiteRecord
  grace : Nat
  encodeDeadline : Nat
  idleTimeout : Nat
  fence : Bool
  deriving DecidableEq, Repr

/-! ### Site Clock (chapter 1) -/

/-- A band [open, close) of minutes of day (R7). -/
structure Band where
  opens : Nat
  closes : Nat
  deriving DecidableEq, Repr

/-- A zone (R8). -/
structure Zone where
  band : Band
  guestAllowed : Bool
  lockdown : Bool
  deriving DecidableEq, Repr

/-- An item a sweep pass visits (R15). -/
inductive SweepItem where
  | key (n : Nat)
  | watch
  | allowance
  deriving DecidableEq, Repr

/-- The sweep (R14): RUNNING exactly while a pass position is present. -/
structure Sweep where
  position : Option SweepItem
  pendingPass : Bool
  passes : Nat
  deriving DecidableEq, Repr

/-- What the Site Clock holds. The run state is RUNNING exactly while the clock-set flag is true (section 1.1).
`schedules` holds the 112 bands of R11, the band of schedule n for weekday w at index 7 × n + w. -/
structure Clock where
  minute : Nat
  second : Nat
  isSet : Bool
  zones : Table Zone
  schedules : Table Band
  sweep : Sweep
  deriving DecidableEq, Repr

/-! ### Credential Manager (chapters 2 and 3) -/

/-- Room states, in the order of R20. -/
inductive RoomState where
  | vacant
  | occupied
  | departed
  | outOfService
  deriving DecidableEq, Repr

/-- A stay (R22). -/
structure Stay where
  checkIn : Nat
  stayEnd : Nat
  deriving DecidableEq, Repr

/-- A room record (R20). -/
structure Room where
  label : Option Nat
  state : RoomState
  cg : Byte
  ig : Byte
  /-- The PENDING and LIVE keys with an entry for the room, oldest first (R23). -/
  keyList : List Nat
  privacy : Bool
  stay : Option Stay
  deriving DecidableEq, Repr

/-- Key kinds, in the order of R42. -/
inductive KeyKind where
  | guest
  | staff
  | service
  | emergency
  deriving DecidableEq, Repr

/-- Cancel reasons (R42). -/
inductive CancelReason where
  | superseded
  | expired
  | lost
  | checkedOut
  | usedUp
  | desk
  deriving DecidableEq, Repr

/-- A room entry of a guest key (R42). -/
structure Entry where
  room : Nat
  gen : Byte
  deriving DecidableEq, Repr

/-- The fields a key carries by its kind (R42, R44). -/
inductive KeyRights where
  | guest (entries : List Entry) (zones : Mask16) (minibar : Bool)
  | staff (zones : Mask16) (schedule : Nat) (restock : Bool)
  | service (zones : Mask16) (uses : Nat)
  | emergency
  deriving DecidableEq, Repr

/-- The state of a key that is not FREE, with the fields that state carries (R42). -/
inductive KeyStatus where
  | pending (deadline : Nat)
  | live (serial : Nat)
  | cancelled (reason : CancelReason) (minute : Nat) (serial : Option Nat)
  deriving DecidableEq, Repr

/-- The record of a key that is not FREE (R42). The issue stamp is `issued` mod 65,536. A FREE key has no record. -/
structure KeyRec where
  status : KeyStatus
  rights : KeyRights
  issued : Nat
  start : Nat
  stop : Nat
  origin : Option Nat
  deriving DecidableEq, Repr

/-- Reasons of a watch entry (R62). -/
inductive WatchReason where
  | lost
  | desk
  deriving DecidableEq, Repr

/-- A Watch List entry (R62). -/
structure WatchEntry where
  serial : Nat
  untilMinute : Nat
  reason : WatchReason
  deriving DecidableEq, Repr

/-- The sources, other than the Access Evaluator, that hand operations to the Credential Manager (R39). -/
inductive CmSource where
  | desk
  | audit
  | group
  | sweep
  deriving DecidableEq, Repr

/-- Who opened a stay (R28, R30). -/
inductive StayOrigin where
  | desk
  | group (entry : Nat)
  deriving DecidableEq, Repr

/-- A check-in in progress at the Credential Manager (R28 to R30): the M and S it read, the rooms of the operation, the rooms
still to be checked in (the first is being worked), whether it waits for that room's tally-close or for its tally-open, and
the final tally of the earlier stay closed. -/
structure CheckInOp where
  origin : StayOrigin
  minute : Nat
  second : Nat
  stayEnd : Nat
  limit : Nat
  rooms : List Nat
  todo : List Nat
  closing : Bool
  earlier : Option Nat
  deriving DecidableEq, Repr

/-- The operation in progress at the Credential Manager. A check-out holds its M, S and the stay end of step 1 of R31. -/
inductive CmOp where
  | checkIn (op : CheckInOp)
  | checkOut (room minute second stayEnd : Nat)
  deriving DecidableEq, Repr

/-- What the Credential Manager holds. A key table entry is absent for a FREE key. -/
structure Credentials where
  rooms : Table Room
  keys : Table (Option KeyRec)
  watch : List WatchEntry
  allowance : Nat
  allowanceDeadline : Nat
  /-- Sources with an operation waiting, in order of arrival (R39). -/
  waiting : List CmSource
  op : Option CmOp
  deriving DecidableEq, Repr

/-! ### Access Evaluator (chapter 4) -/

/-- Deny reasons, in the order of their codes 01h to 18h (10, section 10.4). -/
inductive DenyReason where
  | notInService | doorDisabled | wrongSite | revoked | unknownKey | staleCard | notEncoded | superseded
  | expired | lost | checkedOut | usedUp | desk | notYet | stayEnded | wrongRoom
  | zoneDenied | privacy | offSchedule | lockdown | zoneClosed | noMinibar | minibarLocked | sessionsFull
  deriving DecidableEq, Repr

/-- Kind and room index of a door (R70): the room index is present for ROOM and MINIBAR alone. -/
inductive DoorPlace where
  | room (r : Nat)
  | zone
  | minibar (r : Nat)
  deriving DecidableEq, Repr

/-- Door conditions, in the order of R70. -/
inductive Condition where
  | closed
  | heldOpen
  | forced
  deriving DecidableEq, Repr

/-- A repeat memory (R70, section 4.6). -/
structure RepeatMemory where
  serial : Nat
  reason : DenyReason
  stamp : Nat
  deriving DecidableEq, Repr

/-- A door record (R70). -/
structure Door where
  place : DoorPlace
  zone : Nat
  enabled : Bool
  unlock : Nat
  condition : Condition
  memory : Option RepeatMemory
  repeats : Nat
  deriving DecidableEq, Repr

/-- The fields of a presentation (R77). -/
structure Card where
  door : Nat
  serial : Nat
  site : Nat
  wing : Nat
  key : Nat
  stamp : Nat
  deriving DecidableEq, Repr

/-- Session kinds, in the order of R111. -/
inductive SessionKind where
  | guest
  | restock
  deriving DecidableEq, Repr

/-- The fields of a DOOR_SET that passed its checks, unlock seconds clamped (R71). -/
structure DoorSet where
  door : Nat
  place : DoorPlace
  zone : Nat
  enabled : Bool
  unlock : Nat
  deriving DecidableEq, Repr

/-- The operation in progress at the Access Evaluator. -/
inductive EvalOp where
  /-- A presentation operation waits at the Credential Manager (R77). -/
  | present (c : Card)
  /-- A session-open waits at the Minibar Accounting Unit, with the M and S of the presentation operation (R89). -/
  | sessionOpen (c : Card) (room : Nat) (kind : SessionKind) (minute second : Nat)
  /-- A privacy operation waits at the Credential Manager (R76). -/
  | privacy (door room : Nat) (on : Bool)
  /-- A DOOR_SET waits for its minibar release from the room (R71). -/
  | doorRelease (d : DoorSet) (room : Nat)
  /-- A DOOR_SET waits for its minibar door assignment to the room (R72). -/
  | doorAssign (d : DoorSet) (room : Nat)
  /-- A DOOR_SET waits for the session-close of its door (R72). -/
  | doorClose (d : DoorSet)
  deriving DecidableEq, Repr

/-- What the Access Evaluator holds. -/
structure Evaluator where
  doors : Table Door
  op : Option EvalOp
  deriving DecidableEq, Repr

/-! ### Minibar Accounting Unit (chapter 5) -/

/-- A tally record (R105). -/
structure Tally where
  isOpen : Bool
  limit : Nat
  tally : Nat
  saturated : Bool
  door : Option Nat
  deriving DecidableEq, Repr

/-- A session line (R118). -/
structure Line where
  item : Nat
  count : Nat
  amount : Nat
  deriving DecidableEq, Repr

/-- A minibar session (R111); its door is its index in the pool's table. -/
structure Session where
  kind : SessionKind
  room : Nat
  key : Nat
  opened : Nat
  active : Nat
  lines : List Line
  deriving DecidableEq, Repr

/-- What the Minibar Accounting Unit holds. The pool is a table by door, absent where the door has no session (R111: each
minibar door has at most one). `idleDue` counts the second events whose idle test has not been made (R113). -/
structure Minibar where
  prices : Table Nat
  rate : Nat
  tariffLock : Bool
  tallies : Table Tally
  sessions : Table (Option Session)
  idleDue : Nat
  deriving DecidableEq, Repr

/-! ### Statuses (10, section 10.4), request kinds (section 10.2) -/

/-- Status codes, in the order of their codes 00h to 18h. -/
inductive Status where
  | ok | notPermitted | fenced | notInService | notReady | badField | noSuch | seqError
  | tableFull | roomKeysFull | roomState | genWindow | keyState | serialInUse | serialWatched | watchFull
  | noAllowance | tariffLocked | writeOnce | timeBackward | collision | groupState | doorBusy | doorConflict
  | journalRecovering
  deriving DecidableEq, Repr

/-- The request kinds (10, section 10.2). -/
inductive ReqKind where
  | setTime | timeQuery | zoneSet | zoneLockdown | zoneQuery | scheduleSet | scheduleQuery
  | checkIn | checkOut | extendStay | roomSet | roomQuery
  | issueKey | confirmEncode | cancelKey | reportLost | keyQuery | watchAdd | watchRemove | watchQuery | emergencyAllow
  | present | doorReport | doorSet | doorQuery
  | minibarTake | minibarReturn | minibarShut | priceSet | rateSet | tariffLock | tariffQuery | creditSet | tallyQuery
  | groupLoad | groupPoint | groupStart | groupHalt | groupAbort | groupQuery
  | journalRead | journalRelease | journalHealth
  | siteWrite | commission | decommission | settingsSet | fenceDesk | unfenceDesk | identify | siteQuery
  deriving DecidableEq, Repr

/-! ### Group Issue Queue (chapter 6) -/

/-- A reply record: 16 bytes (10, section 10.3). -/
abbrev Reply := List Byte

/-- Generation modes (R24, R126). -/
inductive GenMode where
  | new
  | copy
  deriving DecidableEq, Repr

/-- Mode of a group entry with the fields read in that mode alone (R126). -/
inductive GroupMode where
  | checkinIssue (stayEnd limit : Nat)
  | issueOnly
  deriving DecidableEq, Repr

/-- The fields written by GROUP_LOAD (R126). -/
structure GroupFields where
  mode : GroupMode
  rooms : List Nat
  copies : Nat
  gen : GenMode
  keyStart : Nat
  keyEnd : Nat
  zones : Mask16
  minibar : Bool
  deriving DecidableEq, Repr

/-- A group entry (R126): the loaded flag is on exactly while fields are present. -/
structure GroupEntry where
  fields : Option GroupFields
  checkedIn : Bool
  issued : Nat
  deriving DecidableEq, Repr

/-- Queue states, in the order of R127. -/
inductive GroupState where
  | idle
  | running
  | halting
  | stopped
  deriving DecidableEq, Repr

/-- Stop reasons (R127): a refusal or failed test with the room it names, HALT, ABORT, WARM_START. -/
inductive StopReason where
  | refusal (st : Status) (room : Option Nat)
  | halt
  | abort
  | warmStart
  deriving DecidableEq, Repr

/-- Where a run stands (R131, R133, R135): `waiting` is the waiting flag of R127; `issueHanded held` has an issue step handed, with
or without its held place in the Desk reply queue (a Desk link reset takes the place away, R138); `imageHeld image` has the step
applied and its CARD_IMAGE reply in the held place, behind a Desk reply whose last reply record is not yet placed (R195, log
entry 37). -/
inductive GroupPhase where
  | rest
  | checkinHanded
  | waiting
  | issueHanded (held : Bool)
  | imageHeld (image : Reply)
  | boundary
  deriving DecidableEq, Repr

/-- What the Group Issue Queue holds (R126, R127). -/
structure Group where
  entries : Table GroupEntry
  state : GroupState
  first : Nat
  last : Nat
  next : Nat
  done : Option Nat
  redirect : Bool
  abort : Bool
  stop : Option StopReason
  startTag : Option Byte
  phase : GroupPhase
  deriving DecidableEq, Repr

/-! ### Journal records (R142) -/

/-- Sources of records, in the order of their codes 1 to 6 (10, section 10.6). -/
inductive Source where
  | siteClock
  | credentialManager
  | accessEvaluator
  | minibarUnit
  | journalUnit
  | siteSettings
  deriving DecidableEq, Repr

/-- The key state a DENY record carries (R93). -/
inductive KeyView where
  | free
  | pending
  | live
  | cancelled
  | notRead
  deriving DecidableEq, Repr

/-- Session outcome of a GRANT (R92). -/
inductive SessionOutcome where
  | opened
  | kept
  deriving DecidableEq, Repr

/-- Causes of closing a session (R115). -/
inductive CloseCause where
  | shut
  | idle
  | checkOut
  | recheckin
  | doorDisabled
  deriving DecidableEq, Repr

/-- Causes of a STAY_CLOSE record (R29, R33), in the order of R107. -/
inductive StayCause where
  | checkOut
  | recheckin
  deriving DecidableEq, Repr

/-- Causes of a SHRINKAGE record (R120). -/
inductive ShrinkCause where
  | tallyClosed
  | stayEnded
  deriving DecidableEq, Repr

/-- Direction of a STOCK record (R120, R121). -/
inductive StockDirection where
  | take
  | giveBack
  deriving DecidableEq, Repr

/-- What a WATCH_CHANGE record says (R17, R63, R64, R66). -/
inductive WatchChange where
  | expired (serial : Nat) (reason : WatchReason)
  | updated (serial oldUntil newUntil : Nat) (reason : WatchReason)
  | added (serial untilMinute : Nat) (reason : WatchReason)
  | evicted (serial : Nat) (reason : WatchReason)
  | removed (serial : Nat) (reason : WatchReason)
  deriving DecidableEq, Repr

/-- What a SECURITY record says (R142). -/
inductive Security where
  | watchHit (door serial key : Nat) (reason : WatchReason) (untilMinute repeats : Nat)
  | forcedDoor (door : Nat) (old new : Condition) (repeats : Nat)
  | lockdownChange (zone : Nat) (value : Bool)
  | allowanceGranted (count deadline : Nat)
  | allowanceLapsed (count : Nat)
  | fenceChange (value : Bool)
  deriving DecidableEq, Repr

/-- Who issued a key (R54, R55). -/
inductive IssueOrigin where
  | desk
  | group (entry copy : Nat)
  deriving DecidableEq, Repr

/-- The fields of a RESTART record (R185): `cause` is absent for a cold start, `scanned` and `staged` for a warm one. -/
structure RestartReport where
  cause : Option WarmCause
  service : Service
  clockSet : Bool
  fenceWasOn : Bool
  lockWasOn : Bool
  sessionsClosed : Nat
  /-- The entry at next of the run the start stopped. -/
  runStopped : Option Nat
  stagingLost : Bool
  inStaging : Nat
  newest : Option Nat
  oldest : Option Nat
  scanned : Option Nat
  staged : Option Nat
  deriving DecidableEq, Repr

/-- The content of a record, by kind (R142): the fields its offering rule names. -/
inductive RecBody where
  | grant (door : Nat) (place : DoorPlace) (key : Nat) (kind : KeyKind) (serial unlock : Nat) (advance : Bool)
      (uses : Option Nat) (outcome : Option SessionOutcome) (repeats : Nat)
  | deny (door serial key stamp : Nat) (reason : DenyReason) (view : KeyView) (repeats : Nat)
  | advance (room key : Nat) (oldCg newCg : Byte) (kept cancelled : Nat)
  | charge (door room item count price rate amount before : Nat) (unattended noLine saturated crossed : Bool) (key : Option Nat)
  | refund (door item reported applied amount lineCount lineAmount before key : Nat)
  | returnUnmatched (door room item count : Nat) (key : Option Nat)
  | shrinkage (door room item count amount : Nat) (cause : ShrinkCause) (key : Option Nat)
  | stock (door room item count : Nat) (direction : StockDirection) (key : Nat)
  | sessionOpen (door room : Nat) (kind : SessionKind) (key stamp : Nat)
  | sessionClose (door room : Nat) (kind : SessionKind) (key opened : Nat) (cause : CloseCause) (lines sum : Nat)
  | stayOpen (room : Nat) (label : Option Nat) (checkIn stayEnd limit : Nat) (origin : StayOrigin)
  | stayClose (room : Nat) (label : Option Nat) (checkIn stayEnd final : Nat) (saturated : Bool) (cancelled kept : Nat) (cause : StayCause)
  | keyIssued (key : Nat) (kind : KeyKind) (start stop : Nat) (origin : IssueOrigin) (reused : Option CancelReason) (allowance : Option Nat)
  | keyIssuedRooms (key : Nat) (entries : List Entry)
  | keyEncoded (key serial : Nat)
  | keyCancelled (key : Nat) (reason : CancelReason) (freed : Bool)
  | keyExpired (key : Nat) (lapsed : Bool)
  | watchChange (w : WatchChange)
  | doorCondition (door : Nat) (old new : Condition) (repeats : Nat)
  | security (e : Security)
  | timeSet (oldMinute newMinute oldSecond newSecond : Nat)
  | gap (count : Nat)
  | restart (r : RestartReport)
  | serviceChange (old new : Service) (kind : ReqKind) (link : LinkId) (site : Option SiteRecord)
  deriving DecidableEq, Repr

/-- A record as it is offered and staged (R142, R207): everything but its sequence number and check value. -/
structure Rec where
  source : Source
  minute : Nat
  second : Nat
  body : RecBody
  deriving DecidableEq, Repr

/-! ### Journal Unit (chapter 7) -/

/-- A ring position with its page; the held count is present when the page is retired and holding (R146, R147). -/
structure RingPos where
  pos : Nat
  page : Nat
  held : Option Nat
  deriving DecidableEq, Repr

/-- The page map (R147): the ring in ring order, the spares in ascending order, the pages that are out. -/
structure PageMap where
  ring : List RingPos
  spares : List Nat
  out : List Nat
  deriving DecidableEq, Repr

/-- The fill of a page that is in the ring and not retired (R146). -/
inductive Fill where
  | erased
  | filling
  | full
  deriving DecidableEq, Repr

/-- A physical page: its slots that do not read erased, its fill, and the slots that hold readable durable records, in write
order (R146, R161). -/
structure Page where
  slots : Table (List Byte)
  fill : Fill
  readable : List Nat
  deriving DecidableEq, Repr

/-- Failure causes (R148). -/
inductive FailCause where
  | ringShort
  | sequenceEnd
  deriving DecidableEq, Repr

/-- Journal states (R148), FAILED with its cause. -/
inductive JournalState where
  | normal
  | recovering
  | failed (cause : FailCause)
  deriving DecidableEq, Repr

/-- Writer activity (R148, R149). An erase knows its page and whether a turn waits for it. -/
inductive Writer where
  | idle
  | programming
  | erasing (page : Nat) (forTurn : Bool)
  | waitingPage
  deriving DecidableEq, Repr

/-- The write position (R146): ring position, page and slot that the next record will take. -/
structure WritePos where
  pos : Nat
  page : Nat
  slot : Nat
  deriving DecidableEq, Repr

/-- What the Journal Unit holds. `offers` are the records offered and not yet taken by the staging input, in order of arrival;
`coldFence` and `coldLock` are the flags the RESTART record of a cold start reports when the scan completes (R185). -/
structure Journal where
  offers : List Rec
  staging : List Rec
  unstaged : Nat
  pages : Table Page
  map : PageMap
  newest : Nat
  released : Nat
  discarded : Nat
  state : JournalState
  writer : Writer
  high : Bool
  write : WritePos
  eraseAhead : Option Nat
  coldFence : Bool
  coldLock : Bool
  deriving DecidableEq, Repr

/-! ### Link Units (chapter 9) -/

/-- How far the request in progress has come: handed to its owning block, taken by it, or with its first reply record placed and
the others waiting for places (R194, R205). -/
inductive ReqPhase where
  | handed
  | taken
  | placing (rest : List Reply)
  deriving DecidableEq, Repr

/-- The request in progress (R191): its tag, kind, the bytes of its field area (R204), how far it has come, and whether a link
reset has taken its place away, so that its reply is discarded (R200). -/
structure Request where
  tag : Byte
  kind : ReqKind
  fields : List Byte
  phase : ReqPhase
  discard : Bool
  deriving DecidableEq, Repr

/-- Halt causes, in the order of their codes 1 to 4 (R197). -/
inductive HaltCause where
  | tailRange
  | tailBack
  | noLead
  | missingExt
  deriving DecidableEq, Repr

/-- Ring errors, in the order of their codes 1 to 5 (R197). -/
inductive RingError where
  | slotOwned
  | slotRange
  | tailRange
  | tailBack
  | lengthRange
  deriving DecidableEq, Repr

/-- A Link Unit (R186). The ring is HALTED exactly while `halt` is present, with its cause and halt slot. `sdo` is what the last
frame drove on xSDO after its code byte, the model's own view of that pin. -/
structure Link where
  len : Nat
  slots : Table (List Byte)
  head : Nat
  tail : Nat
  strict : Bool
  halt : Option (HaltCause × Nat)
  lastError : Option RingError
  inProgress : Option Request
  replies : List Reply
  notices : Mask16
  enables : Mask16
  sdo : List Byte
  deriving DecidableEq, Repr

/-! ### The part -/

/-- The state of the part. `pending` is the queue of the commands that are waiting, first in first out; `powered` says that main
power is present; `fresh` counts the free values drawn. -/
structure State where
  pending : List Instr
  powered : Bool
  fresh : Nat
  settings : Settings
  clock : Clock
  cred : Credentials
  eval : Evaluator
  mini : Minibar
  group : Group
  journal : Journal
  desk : Link
  lock : Link
  audit : Link
  deriving DecidableEq, Repr

/-- A step of this part never ends in a fault: the spec answers every failure with a reply, a denial or a state. -/
inductive Fault where
  deriving DecidableEq, Repr

/-- Refusals of a step. -/
inductive Refusal where
  /-- Raised by the dispatch alone, for a command that has no meaning yet; safe, since nothing is claimed of it. -/
  | notModelled (mnemonic : String)
  deriving DecidableEq, Repr

/-! ### Reset: a cold start of a part as it leaves the factory (log entry 3) -/

/-- R171. -/
def Settings.initial : Settings :=
  { service := .unprovisioned, record := none, grace := 30, encodeDeadline := 10, idleTimeout := 300, fence := false }

/-- R2, R8, R11, R14. -/
def Clock.initial : Clock :=
  { minute := 0, second := 0, isSet := false, zones := [], schedules := [],
    sweep := { position := none, pendingPass := false, passes := 0 } }

/-- R20, R42, R62, R68; the deadline of no allowance is 0 (log entry 32). -/
def Credentials.initial : Credentials :=
  { rooms := [], keys := [], watch := [], allowance := 0, allowanceDeadline := 0, waiting := [], op := none }

/-- R70. -/
def Evaluator.initial : Evaluator := { doors := [], op := none }

/-- R102, R104, R105, R111. -/
def Minibar.initial : Minibar :=
  { prices := [], rate := 0, tariffLock := false, tallies := [], sessions := [], idleDue := 0 }

/-- R126, R127. -/
def Group.initial : Group :=
  { entries := [], state := .idle, first := 0, last := 0, next := 0, done := none, redirect := false, abort := false,
    stop := none, startTag := none, phase := .rest }

/-- The page map as the part leaves the factory (R147). -/
def PageMap.factory : PageMap :=
  { ring := (List.range Config.ringPages).map fun p => { pos := p, page := p, held := none },
    spares := (List.range 8).map fun n => Config.ringPages + n, out := [] }

/-- R147, R165; marks and write position are 0 until the scan completes (log entry 32). -/
def Journal.initial : Journal :=
  { offers := [], staging := [], unstaged := 0, pages := [], map := PageMap.factory, newest := 0, released := 0, discarded := 0,
    state := .recovering, writer := .idle, high := false, write := { pos := 0, page := 0, slot := 0 }, eraseAhead := none,
    coldFence := false, coldLock := false }

/-- The enables of a link's notices, all on (R186, R198): notices 0 to 9 on the Desk Link, 0 to 3 on the Lock Link, 0 to 11 on
the Audit Link. -/
def noticeMask : LinkId → Mask16
  | .desk => 0x03FF#16
  | .lock => 0x000F#16
  | .audit => 0x0FFF#16

/-- A Link Unit after any start (R186, R201): RESTARTED set. -/
def Link.started (l : LinkId) : Link :=
  { len := 16, slots := [], head := 0, tail := 0, strict := false, halt := none, lastError := none, inProgress := none,
    replies := [], notices := 1#16, enables := noticeMask l, sdo := [] }

/-- The part right after reset. -/
def State.reset : State :=
  { pending := [], powered := true, fresh := 0, settings := .initial, clock := .initial, cred := .initial, eval := .initial,
    mini := .initial, group := .initial, journal := .initial, desk := .started .desk, lock := .started .lock,
    audit := .started .audit }

end Sys2Proof.Machine
end

