-- ==== Sys2Proof/Machine/Operands.lean ====
section
/-! DEFINITION. How fields are coded and placed (chapter 10), the request kinds, the card image, the record bytes. -/

namespace Sys2Proof.Machine

/-! ### Bytes and fields (R203) -/

/-- A number in `w` bytes, most significant byte first. -/
def bigEndian : Nat → Nat → List Byte
  | 0, _ => []
  | w + 1, v => BitVec.ofNat 8 (v / 256 ^ w) :: bigEndian w v

/-- The number that bytes spell, most significant byte first. -/
def numberOf (bs : List Byte) : Nat := bs.foldl (fun n b => 256 * n + b.toNat) 0

/-- The `w`-byte number at offset `o` of a field area (R204). -/
def fieldAt (bs : List Byte) (o w : Nat) : Nat := numberOf ((bs.drop o).take w)

/-- One field of a reply or a record (R203): a number in so many bytes, a two-valued field, or bytes placed as they are. -/
inductive Field where
  | num (width value : Nat)
  | flag (b : Bool)
  | raw (bs : List Byte)
  deriving DecidableEq, Repr

/-- A field that may be absent: absence is the field filled with FFh (R203). -/
def optField (w : Nat) : Option Nat → Field
  | some v => .num w v
  | none => .raw (List.replicate w 0xFF#8)

/-- The two-valued fields of a list, in order. -/
def flagsOf : List Field → List Bool
  | [] => []
  | .flag b :: fs => b :: flagsOf fs
  | .num _ _ :: fs => flagsOf fs
  | .raw _ :: fs => flagsOf fs

/-- A flag byte: bit 0 upward in list order (R203). -/
def flagByte (bs : List Bool) : Byte := BitVec.ofNat 8 (bs.foldr (fun b n => b.toNat + 2 * n) 0)

/-- Places fields, `k` two-valued fields having gone before: each group of eight shares the byte where its first stands. -/
def placeFields (flags : List Bool) (k : Nat) : List Field → List Byte
  | [] => []
  | .num w v :: fs => bigEndian w v ++ placeFields flags k fs
  | .raw bs :: fs => bs ++ placeFields flags k fs
  | .flag _ :: fs =>
    (if k % 8 = 0 then [flagByte ((flags.drop k).take 8)] else []) ++ placeFields flags (k + 1) fs

/-- The bytes of a list of fields (R203). -/
def fieldBytes (fs : List Field) : List Byte := placeFields (flagsOf fs) 0 fs

/-- `bs` cut or filled with 00h to `n` bytes. -/
def fitBytes (n : Nat) (bs : List Byte) : List Byte := bs.take n ++ List.replicate (n - bs.length) 0#8

/-- A list of up to `n` entries of `w` bytes: its count, the entries, 00h for the entries beyond the count (R203). -/
def listField (n w : Nat) (entries : List (List Byte)) : Field :=
  .raw (bigEndian 1 entries.length ++ fitBytes (n * w) entries.flatten)

/-- The members below 16 of a zone set or mask. -/
def maskHas (m : Mask16) (n : Nat) : Bool := m.getLsbD n

/-! ### Codes of enumerated fields -/

/-- R171. -/
def serviceCode : Service → Nat
  | .unprovisioned => 0
  | .configuring => 1
  | .inService => 2

/-- R20. -/
def roomStateCode : RoomState → Nat
  | .vacant => 0
  | .occupied => 1
  | .departed => 2
  | .outOfService => 3

/-- R42. -/
def keyKindCode : KeyKind → Nat
  | .guest => 0
  | .staff => 1
  | .service => 2
  | .emergency => 3

/-- The kind of a key by its rights (R44). -/
def kindOfRights : KeyRights → KeyKind
  | .guest _ _ _ => .guest
  | .staff _ _ _ => .staff
  | .service _ _ => .service
  | .emergency => .emergency

/-- Key states of R42 as a presentation reads them (R93); "not read" comes last. -/
def keyViewCode : KeyView → Nat
  | .free => 0
  | .pending => 1
  | .live => 2
  | .cancelled => 3
  | .notRead => 4

/-- The state of a key record (R42). -/
def keyView : Option KeyRec → KeyView
  | none => .free
  | some k =>
    match k.status with
    | .pending _ => .pending
    | .live _ => .live
    | .cancelled _ _ _ => .cancelled

/-- Deny reason codes (10, section 10.4). -/
def denyCode : DenyReason → Nat
  | .notInService => 0x01 | .doorDisabled => 0x02 | .wrongSite => 0x03 | .revoked => 0x04
  | .unknownKey => 0x05 | .staleCard => 0x06 | .notEncoded => 0x07 | .superseded => 0x08
  | .expired => 0x09 | .lost => 0x0A | .checkedOut => 0x0B | .usedUp => 0x0C
  | .desk => 0x0D | .notYet => 0x0E | .stayEnded => 0x0F | .wrongRoom => 0x10
  | .zoneDenied => 0x11 | .privacy => 0x12 | .offSchedule => 0x13 | .lockdown => 0x14
  | .zoneClosed => 0x15 | .noMinibar => 0x16 | .minibarLocked => 0x17 | .sessionsFull => 0x18

/-- The deny reason of the same name as a cancel reason (R83). -/
def cancelDeny : CancelReason → DenyReason
  | .superseded => .superseded
  | .expired => .expired
  | .lost => .lost
  | .checkedOut => .checkedOut
  | .usedUp => .usedUp
  | .desk => .desk

/-- A cancel reason takes the code of the deny reason of its name (R203). -/
def cancelCode (r : CancelReason) : Nat := denyCode (cancelDeny r)

/-- R62. -/
def watchReasonCode : WatchReason → Nat
  | .lost => 0
  | .desk => 1

/-- R70: ROOM, ZONE, MINIBAR. -/
def doorKindCode : DoorPlace → Nat
  | .room _ => 0
  | .zone => 1
  | .minibar _ => 2

/-- The room index of a door, absent for ZONE (R70). -/
def doorRoom : DoorPlace → Option Nat
  | .room r => some r
  | .zone => none
  | .minibar r => some r

/-- R70. -/
def conditionCode : Condition → Nat
  | .closed => 0
  | .heldOpen => 1
  | .forced => 2

/-- R111. -/
def sessionKindCode : SessionKind → Nat
  | .guest => 0
  | .restock => 1

/-- R92: OPENED, KEPT. -/
def outcomeCode : SessionOutcome → Nat
  | .opened => 0
  | .kept => 1

/-- R115. -/
def closeCauseCode : CloseCause → Nat
  | .shut => 0
  | .idle => 1
  | .checkOut => 2
  | .recheckin => 3
  | .doorDisabled => 4

/-- The model's own: CHECK_OUT, RECHECKIN in the order in which R107 names the causes at a tally-close, since no rule lists the
causes of STAY_CLOSE (log entry 12). -/
def stayCauseCode : StayCause → Nat
  | .checkOut => 0
  | .recheckin => 1

/-- R120. -/
def shrinkCode : ShrinkCause → Nat
  | .tallyClosed => 0
  | .stayEnded => 1

/-- TAKE, RETURN (R120, R121). -/
def directionCode : StockDirection → Nat
  | .take => 0
  | .giveBack => 1

/-- R24. -/
def genModeCode : GenMode → Nat
  | .new => 0
  | .copy => 1

/-- R126. -/
def groupModeCode : GroupMode → Nat
  | .checkinIssue _ _ => 0
  | .issueOnly => 1

/-- R127. -/
def groupStateCode : GroupState → Nat
  | .idle => 0
  | .running => 1
  | .halting => 2
  | .stopped => 3

/-- R148. -/
def journalStateCode : JournalState → Nat
  | .normal => 0
  | .recovering => 1
  | .failed _ => 2

/-- R148. -/
def failCauseCode : FailCause → Nat
  | .ringShort => 0
  | .sequenceEnd => 1

/-- R148. -/
def writerCode : Writer → Nat
  | .idle => 0
  | .programming => 1
  | .erasing _ _ => 2
  | .waitingPage => 3

/-- POWER, PIN (R185). -/
def warmCauseCode : WarmCause → Nat
  | .power => 0
  | .pin => 1

/-- Desk, Lock, Audit in the order of chapter 9 (log entry 12). -/
def linkCode : LinkId → Nat
  | .desk => 0
  | .lock => 1
  | .audit => 2

/-- 10, section 10.7. -/
def identityLinkCode (l : LinkId) : Nat := linkCode l + 1

/-- Status codes (10, section 10.4). -/
def statusCode : Status → Nat
  | .ok => 0x00 | .notPermitted => 0x01 | .fenced => 0x02 | .notInService => 0x03
  | .notReady => 0x04 | .badField => 0x05 | .noSuch => 0x06 | .seqError => 0x07
  | .tableFull => 0x08 | .roomKeysFull => 0x09 | .roomState => 0x0A | .genWindow => 0x0B
  | .keyState => 0x0C | .serialInUse => 0x0D | .serialWatched => 0x0E | .watchFull => 0x0F
  | .noAllowance => 0x10 | .tariffLocked => 0x11 | .writeOnce => 0x12 | .timeBackward => 0x13
  | .collision => 0x14 | .groupState => 0x15 | .doorBusy => 0x16 | .doorConflict => 0x17
  | .journalRecovering => 0x18

/-- Group stop reasons (10, section 10.4). -/
def stopCode : StopReason → Nat
  | .refusal st _ => statusCode st
  | .halt => 0x80
  | .abort => 0x81
  | .warmStart => 0x82

/-- The room a stop reason names (R127). -/
def stopRoom : StopReason → Option Nat
  | .refusal _ r => r
  | .halt => none
  | .abort => none
  | .warmStart => none

/-- Ring halt causes (R197). -/
def haltCode : HaltCause → Nat
  | .tailRange => 1
  | .tailBack => 2
  | .noLead => 3
  | .missingExt => 4

/-- Ring errors (R197). -/
def ringErrorCode : RingError → Nat
  | .slotOwned => 1
  | .slotRange => 2
  | .tailRange => 3
  | .tailBack => 4
  | .lengthRange => 5

/-- Record sources (10, section 10.6). -/
def sourceCode : Source → Nat
  | .siteClock => 1
  | .credentialManager => 2
  | .accessEvaluator => 3
  | .minibarUnit => 4
  | .journalUnit => 5
  | .siteSettings => 6

/-! ### Request kinds (10, section 10.2) -/

/-- The code of a request kind. -/
def kindCode : ReqKind → Nat
  | .setTime => 0x01 | .timeQuery => 0x02 | .zoneSet => 0x03 | .zoneLockdown => 0x04
  | .zoneQuery => 0x05 | .scheduleSet => 0x06 | .scheduleQuery => 0x07
  | .checkIn => 0x10 | .checkOut => 0x11 | .extendStay => 0x12 | .roomSet => 0x13 | .roomQuery => 0x14
  | .issueKey => 0x18 | .confirmEncode => 0x19 | .cancelKey => 0x1A | .reportLost => 0x1B
  | .keyQuery => 0x1C | .watchAdd => 0x1D | .watchRemove => 0x1E | .watchQuery => 0x1F | .emergencyAllow => 0x20
  | .present => 0x28 | .doorReport => 0x29 | .doorSet => 0x2A | .doorQuery => 0x2B
  | .minibarTake => 0x30 | .minibarReturn => 0x31 | .minibarShut => 0x32 | .priceSet => 0x33
  | .rateSet => 0x34 | .tariffLock => 0x35 | .tariffQuery => 0x36 | .creditSet => 0x37 | .tallyQuery => 0x38
  | .groupLoad => 0x40 | .groupPoint => 0x41 | .groupStart => 0x42 | .groupHalt => 0x43
  | .groupAbort => 0x44 | .groupQuery => 0x45
  | .journalRead => 0x50 | .journalRelease => 0x51 | .journalHealth => 0x52
  | .siteWrite => 0x58 | .commission => 0x59 | .decommission => 0x5A | .settingsSet => 0x5B
  | .fenceDesk => 0x5C | .unfenceDesk => 0x5D | .identify => 0x5E | .siteQuery => 0x5F

/-- Every request kind, in the order of the codes. -/
def allKinds : List ReqKind :=
  [.setTime, .timeQuery, .zoneSet, .zoneLockdown, .zoneQuery, .scheduleSet, .scheduleQuery,
   .checkIn, .checkOut, .extendStay, .roomSet, .roomQuery, .issueKey, .confirmEncode, .cancelKey, .reportLost,
   .keyQuery, .watchAdd, .watchRemove, .watchQuery, .emergencyAllow, .present, .doorReport, .doorSet, .doorQuery,
   .minibarTake, .minibarReturn, .minibarShut, .priceSet, .rateSet, .tariffLock, .tariffQuery, .creditSet, .tallyQuery,
   .groupLoad, .groupPoint, .groupStart, .groupHalt, .groupAbort, .groupQuery,
   .journalRead, .journalRelease, .journalHealth,
   .siteWrite, .commission, .decommission, .settingsSet, .fenceDesk, .unfenceDesk, .identify, .siteQuery]

/-- The request kind a code names, if any (R204). -/
def kindOfCode (c : Nat) : Option ReqKind := allKinds.find? fun k => kindCode k == c

/-- Reply kind of a CARD_IMAGE reply (10, section 10.2). -/
def cardImageCode : Nat := 0x4F

/-- The links on which a kind is permitted (10, section 10.2). -/
def permitted : ReqKind → LinkId → Bool
  | .timeQuery, _ | .identify, _ | .siteQuery, _ => true
  | .present, l | .doorReport, l | .minibarTake, l | .minibarReturn, l | .minibarShut, l => l == .lock
  | .zoneLockdown, l | .emergencyAllow, l | .tariffLock, l | .journalRead, l | .journalRelease, l
  | .decommission, l | .fenceDesk, l | .unfenceDesk, l => l == .audit
  | .zoneQuery, l | .scheduleQuery, l | .roomQuery, l | .keyQuery, l | .watchQuery, l | .doorQuery, l
  | .tariffQuery, l | .tallyQuery, l | .groupQuery, l | .journalHealth, l => deskOrAudit l
  | .setTime, l | .zoneSet, l | .scheduleSet, l | .checkIn, l | .checkOut, l | .extendStay, l | .roomSet, l
  | .issueKey, l | .confirmEncode, l | .cancelKey, l | .reportLost, l | .watchAdd, l | .watchRemove, l
  | .doorSet, l | .priceSet, l | .rateSet, l | .creditSet, l | .groupLoad, l | .groupPoint, l | .groupStart, l
  | .groupHalt, l | .groupAbort, l | .siteWrite, l | .commission, l | .settingsSet, l => l == .desk

/-- The slot count of a kind (10, section 10.2). -/
def slotCount : ReqKind → Nat
  | .issueKey => 2
  | .groupLoad => 3
  | _ => 1

/-- The kinds whose owning block is the Credential Manager (chapters 2 and 3). -/
def credentialKind : ReqKind → Bool
  | .checkIn | .checkOut | .extendStay | .roomSet | .roomQuery | .issueKey | .confirmEncode | .cancelKey
  | .reportLost | .keyQuery | .watchAdd | .watchRemove | .watchQuery | .emergencyAllow => true
  | _ => false

/-- What byte 0 of a slot marks it as (R204). -/
inductive SlotMark where
  | lead (extensions : Nat)
  | ext
  | unmarked
  deriving DecidableEq, Repr

/-- R204. -/
def slotMark (b : Byte) : SlotMark :=
  if 0x80 ≤ b.toNat ∧ b.toNat ≤ 0x83 then .lead (b.toNat - 0x80)
  else if b.toNat = 0x40 then .ext
  else .unmarked

/-! ### Calendar and bands (R6, R7) -/

/-- The minute of day (R6). -/
def minuteOfDay (m : Nat) : Nat := m % 1440

/-- The day (R6). -/
def dayOf (m : Nat) : Nat := m / 1440

/-- The weekday, the epoch weekday being 0 while no site record is written (R6). -/
def weekdayOf (site : Option SiteRecord) (m : Nat) : Nat :=
  (dayOf m + (match site with | some r => r.epoch | none => 0)) % 7

/-- Membership of a minute of day in a band (R7). -/
def Band.holds (b : Band) (t : Nat) : Bool :=
  if b.opens < b.closes then b.opens ≤ t && t < b.closes
  else if b.closes < b.opens then b.opens ≤ t || t < b.closes
  else false

/-- The stamp (section 1.1). -/
def stampOf (minute second : Nat) : Nat := minute * 60 + second

/-! ### Card image (R48, R206) -/

/-- The 8 bytes of a card image: site number, wing, key number, issue stamp, image check. -/
def cardImage (site wing key stamp : Nat) : List Byte :=
  let bs := bigEndian 2 site ++ bigEndian 1 wing ++ bigEndian 2 key ++ bigEndian 2 stamp
  bs ++ [BitVec.ofNat 8 (255 - (bs.foldl (fun n b => n + b.toNat) 0) % 256)]

/-- The issue stamp of a key (R42). -/
def issueStamp (k : KeyRec) : Nat := k.issued % 65536

/-! ### Reply records (R205) -/

/-- One reply record: tag, status code, reply kind, content filled with 00h to 13 bytes. -/
def replyRecord (tag : Byte) (st : Status) (kind : Nat) (content : List Byte) : Reply :=
  [tag, BitVec.ofNat 8 (statusCode st), BitVec.ofNat 8 kind] ++ fitBytes 13 content

/-- The parts of a content longer than 13 bytes, from part number `n` on: `fuel` bounds the number of parts. -/
def replyParts (tag : Byte) (st : Status) (kind : Nat) : Nat → Nat → List Byte → List Reply
  | 0, _, _ => []
  | fuel + 1, n, content =>
    if content.length ≤ 12 then [replyRecord tag st kind (BitVec.ofNat 8 (0x80 + n) :: content)]
    else replyRecord tag st kind (BitVec.ofNat 8 n :: content.take 12) :: replyParts tag st kind fuel (n + 1) (content.drop 12)

/-- The reply records of a reply (R205): one, or a series of parts when the content needs more than 13 bytes. -/
def replySeries (tag : Byte) (st : Status) (kind : Nat) (content : List Byte) : List Reply :=
  if content.length ≤ 13 then [replyRecord tag st kind content] else replyParts tag st kind content.length 1 content

/-! ### Journal records (10, section 10.6) -/

/-- Record kind codes (10, section 10.6). -/
def recordKind : RecBody → Nat
  | .grant .. => 0x01 | .deny .. => 0x02 | .advance .. => 0x03 | .charge .. => 0x04
  | .refund .. => 0x05 | .returnUnmatched .. => 0x06 | .shrinkage .. => 0x07 | .stock .. => 0x08
  | .sessionOpen .. => 0x09 | .sessionClose .. => 0x0A | .stayOpen .. => 0x0B | .stayClose .. => 0x0C
  | .keyIssued .. => 0x0D | .keyIssuedRooms .. => 0x0D | .keyEncoded .. => 0x0E | .keyCancelled .. => 0x0F
  | .keyExpired .. => 0x10 | .watchChange .. => 0x11 | .doorCondition .. => 0x12 | .security .. => 0x13
  | .timeSet .. => 0x14 | .gap .. => 0x15 | .restart .. => 0x16 | .serviceChange .. => 0x17

/-- A room entry of a key: room index and generation (R42). -/
def entryBytes (e : Entry) : List Byte := bigEndian 2 e.room ++ [e.gen]

/-- Content of a WATCH_CHANGE record; causes EXPIRED, UPDATED, ADDED, EVICTED, REMOVED in order of appearance (log entry 12).
The model's own, since R63 and R64 list no fields: ADDED carries the serial, the until-minute and the reason, EVICTED the serial
and the evicted entry's reason (log entry 13). -/
def watchFields : WatchChange → List Field
  | .expired s r => [.num 4 s, .num 1 (watchReasonCode r), .num 1 0]
  | .updated s o n r => [.num 1 1, .num 4 s, .num 4 o, .num 4 n, .num 1 (watchReasonCode r)]
  | .added s u r => [.num 1 2, .num 4 s, .num 4 u, .num 1 (watchReasonCode r)]
  | .evicted s r => [.num 1 3, .num 4 s, .num 1 (watchReasonCode r)]
  | .removed s r => [.num 1 4, .num 4 s, .num 1 (watchReasonCode r)]

/-- Content of a SECURITY record; conditions in the order of the table of R142 (log entry 12). The model's own:
the condition of a forced door stands first, where R75 gives it no place, and the prior repeats of a watch hit (R96) stand last,
where R82 does not list them (log entry 13). -/
def securityFields : Security → List Field
  | .watchHit door serial key reason u repeats =>
    [.num 1 0, .num 2 door, .num 4 serial, .num 2 key, .num 1 (watchReasonCode reason), .num 4 u, .num 1 repeats]
  | .forcedDoor door old new repeats =>
    [.num 1 1, .num 2 door, .num 1 (conditionCode old), .num 1 (conditionCode new), .num 1 repeats]
  | .lockdownChange zone value => [.num 1 zone, .num 1 2, .flag value]
  | .allowanceGranted count deadline => [.num 1 3, .num 1 count, .num 4 deadline]
  | .allowanceLapsed count => [.num 1 4, .num 1 count]
  | .fenceChange value => [.num 1 5, .flag value]

/-- Content of a RESTART record, in the order of the table of R185; the entry at next stands only where a run was stopped
(R203). -/
def restartFields (r : RestartReport) : List Field :=
  [.num 1 (if r.cause.isSome then 1 else 0), optField 1 (r.cause.map warmCauseCode), .num 1 (serviceCode r.service),
   .flag r.clockSet, .flag r.fenceWasOn, .flag r.lockWasOn, .num 1 r.sessionsClosed, .flag r.runStopped.isSome] ++
    (match r.runStopped with | some n => [.num 1 n] | none => []) ++
    [.flag r.stagingLost, .num 1 r.inStaging, optField 4 r.newest, optField 4 r.oldest, optField 1 r.scanned,
     optField 1 r.staged]

/-- Origin of a stay: DESK, or GROUP with the entry index (R28, R30). -/
def stayOriginFields : StayOrigin → List Field
  | .desk => [.num 1 0]
  | .group e => [.num 1 1, .num 1 e]

/-- Origin of a key: DESK, or GROUP with the entry index and copy number (R54, R55). -/
def issueOriginFields : IssueOrigin → List Field
  | .desk => [.num 1 0]
  | .group e c => [.num 1 1, .num 1 e, .num 1 c]

/-- The fields of a record's content, as its offering rule lists them (R207). -/
def recordFields : RecBody → List Field
  | .grant door place key kind serial unlock advance uses outcome repeats =>
    [.num 2 door, .num 1 (doorKindCode place), .num 2 key, .num 1 (keyKindCode kind), .num 4 serial, .num 1 unlock,
     .flag advance, optField 1 uses, optField 1 (outcome.map outcomeCode), .num 1 repeats]
  | .deny door serial key stamp reason view repeats =>
    [.num 2 door, .num 4 serial, .num 2 key, .num 2 stamp, .num 1 (denyCode reason), .num 1 (keyViewCode view), .num 1 repeats]
  | .advance room key oldCg newCg kept cancelled =>
    [.num 2 room, .num 2 key, .raw [oldCg], .raw [newCg], .num 1 kept, .num 1 cancelled]
  | .charge door room item count price rate amount before unattended noLine saturated crossed key =>
    [.num 2 door, .num 2 room, .num 1 item, .num 1 count, .num 2 price, .num 1 rate, .num 3 amount, .num 3 before,
     .flag unattended, .flag noLine, .flag saturated, .flag crossed, optField 2 key]
  | .refund door item reported applied amount lineCount lineAmount before key =>
    [.num 2 door, .num 1 item, .num 1 reported, .num 1 applied, .num 4 amount, .num 1 lineCount, .num 4 lineAmount,
     .num 3 before, .num 2 key]
  | .returnUnmatched door room item count key => [.num 2 door, .num 2 room, .num 1 item, .num 1 count, optField 2 key]
  | .shrinkage door room item count amount cause key =>
    [.num 2 door, .num 2 room, .num 1 item, .num 1 count, .num 3 amount, .num 1 (shrinkCode cause)] ++
      (match key with | some k => [.num 2 k] | none => [])
  | .stock door room item count direction key =>
    [.num 2 door, .num 2 room, .num 1 item, .num 1 count, .num 1 (directionCode direction), .num 2 key]
  | .sessionOpen door room kind key stamp =>
    [.num 2 door, .num 2 room, .num 1 (sessionKindCode kind), .num 2 key, .num 5 stamp]
  | .sessionClose door room kind key opened cause lines sum =>
    [.num 2 door, .num 2 room, .num 1 (sessionKindCode kind), .num 2 key, .num 5 opened, .num 1 (closeCauseCode cause),
     .num 1 lines, .num 4 sum]
  | .stayOpen room label checkIn stayEnd limit origin =>
    [.num 2 room, optField 2 label, .num 4 checkIn, .num 4 stayEnd, .num 3 limit] ++ stayOriginFields origin
  | .stayClose room label checkIn stayEnd final saturated cancelled kept cause =>
    [.num 2 room, optField 2 label, .num 4 checkIn, .num 4 stayEnd, .num 3 final, .flag saturated, .num 1 cancelled,
     .num 1 kept, .num 1 (stayCauseCode cause)]
  | .keyIssued key kind start stop origin reused allowance =>
    [.num 1 1, .num 2 key, .num 1 (keyKindCode kind), .num 4 start, .num 4 stop] ++ issueOriginFields origin ++
      [.flag reused.isSome] ++ (match reused with | some r => [.num 1 (cancelCode r)] | none => []) ++
      (match allowance with | some n => [.num 1 n] | none => [])
  | .keyIssuedRooms key entries => [.num 1 2, .num 2 key, listField Config.entriesPerKey 3 (entries.map entryBytes)]
  | .keyEncoded key serial => [.num 2 key, .num 4 serial]
  | .keyCancelled key reason freed => [.num 2 key, .num 1 (cancelCode reason), .flag freed]
  | .keyExpired key lapsed => [.num 2 key, .flag lapsed]
  | .watchChange w => watchFields w
  | .doorCondition door old new repeats =>
    [.num 2 door, .num 1 (conditionCode old), .num 1 (conditionCode new), .num 1 repeats]
  | .security e => securityFields e
  | .timeSet oldMinute newMinute oldSecond newSecond => [.num 4 oldMinute, .num 4 newMinute, .num 1 oldSecond, .num 1 newSecond]
  | .gap count => [.num 2 count]
  | .restart r => restartFields r
  | .serviceChange old new kind link site =>
    [.num 1 (serviceCode old), .num 1 (serviceCode new), .num 1 (kindCode kind), .num 1 (linkCode link)] ++
      (match site with | some r => [.num 2 r.number, .num 1 r.wing, .num 1 r.epoch] | none => [])

/-- The free bytes of a record's content from place `i` to 18 (log entry 8). -/
def fillFrom (seq i : Nat) : List Byte := (List.range (19 - i)).map fun k => Config.recordFill seq (i + k)

/-- One step of the cyclic check: generator x^16 + x^12 + x^5 + 1 (R207). -/
def crcBit (c : BitVec 16) (b : Bool) : BitVec 16 := if (c.msb != b) then (c <<< 1) ^^^ 0x1021#16 else c <<< 1

/-- A byte of the cyclic check, most significant bit first (R207). -/
def crcByte (c : BitVec 16) (b : Byte) : BitVec 16 := [7, 6, 5, 4, 3, 2, 1, 0].foldl (fun c i => crcBit c (b.getLsbD i)) c

/-- The check value of bytes, the register starting at FFFFh (R207). -/
def checkValue (bs : List Byte) : BitVec 16 := bs.foldl crcByte 0xFFFF#16

/-- Bytes 0 to 29 of a record with its sequence number (10, section 10.6). -/
def recordBody (seq : Nat) (r : Rec) : List Byte :=
  let content := fieldBytes (recordFields r.body)
  bigEndian 4 seq ++ bigEndian 1 (recordKind r.body) ++ bigEndian 1 (sourceCode r.source) ++ bigEndian 4 r.minute ++
    bigEndian 1 r.second ++ content ++ fillFrom seq content.length

/-- The 32 bytes that the writer programs (R207). -/
def recordImage (seq : Nat) (r : Rec) : List Byte :=
  recordBody seq r ++ bigEndian 2 (checkValue (recordBody seq r)).toNat

/-- A slot is a record when it is not erased and its check value agrees with bytes 0 to 29 (R207). -/
def slotIsRecord (bs : List Byte) : Bool :=
  bs.length == 32 && !slotErased bs && bs.drop 30 == bigEndian 2 (checkValue (bs.take 30)).toNat

/-- The sequence number of a record's bytes. -/
def slotSequence (bs : List Byte) : Nat := numberOf (bs.take 4)

end Sys2Proof.Machine
end

