-- ==== Sys2Proof/Machine/Flags.lean ====
section
/-! DEFINITION. The notice flags and the attention line of the links (R198, R199), and the flag byte of STATUS (R197). -/

namespace Sys2Proof.Machine

/-- The notices (R198). -/
inductive Notice where
  | linkError (l : LinkId)
  | ringError (l : LinkId)
  | encodeLapsed
  | creditReached
  | groupDone
  | groupStopped
  | groupHalted
  | groupCollision
  | fenceChanged
  | serviceChanged
  | timeSet
  | watchHit
  | doorForced
  | emergencyIssued
  | journalDiscard
  | pageRetired
  | sparesOut
  | journalHigh
  | journalFailed
  deriving DecidableEq, Repr

/-- The link that carries a notice (R198). -/
def noticeLink : Notice → LinkId
  | .linkError l => l
  | .ringError l => l
  | .encodeLapsed | .creditReached | .groupDone | .groupStopped | .groupHalted | .groupCollision | .fenceChanged => .desk
  | .serviceChanged => .lock
  | .timeSet | .watchHit | .doorForced | .emergencyIssued | .journalDiscard | .pageRetired | .sparesOut | .journalHigh
  | .journalFailed => .audit

/-- The number of a notice in the masks of its link (R198). -/
def noticeNumber : Notice → Nat
  | .linkError _ => 1
  | .ringError _ => 2
  | .encodeLapsed => 3 | .creditReached => 4 | .groupDone => 5 | .groupStopped => 6 | .groupHalted => 7
  | .groupCollision => 8 | .fenceChanged => 9
  | .serviceChanged => 3
  | .timeSet => 3 | .watchHit => 4 | .doorForced => 5 | .emergencyIssued => 6 | .journalDiscard => 7 | .pageRetired => 8
  | .sparesOut => 9 | .journalHigh => 10 | .journalFailed => 11

/-- Bit `n` of a mask: the value 2 to the power n (R187). -/
def maskBit (n : Nat) : Mask16 := BitVec.ofNat 16 (2 ^ n)

/-- A link with a notice flag set; a flag already set stays set (R198). -/
def Link.withNotice (k : Link) (n : Nat) : Link := { k with notices := k.notices ||| maskBit n }

/-- A link with the flags of a mask cleared (R198). -/
def Link.clearNotices (k : Link) (m : Mask16) : Link := { k with notices := k.notices &&& ~~~m }

/-- xATTN is asserted (R199). -/
def Link.attention (k : Link) : Bool := !k.replies.isEmpty || (k.notices &&& k.enables) != 0#16

/-- The flags byte of STATUS, byte 4: strict mode, ring HALTED, request in progress, group place held (R197). -/
def Link.statusFlags (k : Link) (held : Bool) : Byte := flagByte [k.strict, k.halt.isSome, k.inProgress.isSome, held]

/-- The twelve bytes of STATUS (R197). -/
def Link.statusBytes (k : Link) (held : Bool) : List Byte :=
  bigEndian 1 k.head ++ bigEndian 1 k.tail ++ bigEndian 1 k.len ++ [k.statusFlags held] ++
    (match k.halt with
      | some (c, slot) => bigEndian 1 (haltCode c) ++ bigEndian 1 slot
      | none => [0#8, 0#8]) ++
    bigEndian 1 (match k.lastError with | some e => ringErrorCode e | none => 0) ++ bigEndian 1 k.replies.length ++
    bigEndian 2 k.notices.toNat ++ bigEndian 2 k.enables.toNat

end Sys2Proof.Machine
end

