-- ==== Sys2Proof/Machine/Ops.lean ====
section
/-! DEFINITION. The named operations over tables, links, records and requests that every block shares. -/

namespace Sys2Proof.Machine

/-- What a command answers. -/
abbrev Result := Host.Outcome State Fault Refusal

/-! ### Sparse tables -/

/-- The record at an index; an unlisted index reads as the default. -/
def tableLook {α : Type} (d : α) : Table α → Nat → α
  | [], _ => d
  | (j, a) :: rest, k => if j = k then a else tableLook d rest k

/-- The table without an index. -/
def tableErase {α : Type} : Table α → Nat → Table α
  | [], _ => []
  | (j, a) :: rest, k => if j = k then rest else (j, a) :: tableErase rest k

/-- The table with a record at an index, indices kept rising. -/
def tableInsert {α : Type} : Table α → Nat → α → Table α
  | [], k, a => [(k, a)]
  | (j, b) :: rest, k, a =>
    if k < j then (k, a) :: (j, b) :: rest
    else if j = k then (k, a) :: rest
    else (j, b) :: tableInsert rest k a

/-- Writes a record; writing the default removes the entry, so that equal tables are equal data. -/
def tablePut {α : Type} [DecidableEq α] (d : α) (t : Table α) (k : Nat) (a : α) : Table α :=
  if a = d then tableErase t k else tableInsert t k a

/-- The canonical form: every index above `low`'s bound, rising, and no record equal to the default. -/
def tableWfFrom {α : Type} [DecidableEq α] (d : α) : Nat → Table α → Bool
  | _, [] => true
  | low, (j, a) :: rest => decide (low ≤ j) && decide (a ≠ d) && tableWfFrom d (j + 1) rest

/-- The canonical form of a table. -/
def tableWf {α : Type} [DecidableEq α] (d : α) (t : Table α) : Bool := tableWfFrom d 0 t

/-! ### Records of the tables, each with its cold-start value -/

/-- R20. -/
def Room.blank : Room :=
  { label := none, state := .vacant, cg := 0#8, ig := 0#8, keyList := [], privacy := false, stay := none }

/-- R70. -/
def Door.blank : Door :=
  { place := .zone, zone := 0, enabled := false, unlock := 0, condition := .closed, memory := none, repeats := 0 }

/-- R105. -/
def Tally.blank : Tally := { isOpen := false, limit := 0, tally := 0, saturated := false, door := none }

/-- R7. -/
def Band.blank : Band := { opens := 0, closes := 0 }

/-- R8. -/
def Zone.blank : Zone := { band := Band.blank, guestAllowed := false, lockdown := false }

/-- R126. -/
def GroupEntry.blank : GroupEntry := { fields := none, checkedIn := false, issued := 0 }

/-- A page with every slot erased and no readable record (R147). -/
def Page.blank : Page := { slots := [], fill := .erased, readable := [] }

/-- R186. -/
def blankSlot : List Byte := List.replicate 16 0#8

/-- The room record of a room index. -/
def State.room (s : State) (n : Nat) : Room := tableLook Room.blank s.cred.rooms n

/-- The state with a room record written. -/
def State.setRoom (s : State) (n : Nat) (r : Room) : State :=
  { s with cred := { s.cred with rooms := tablePut Room.blank s.cred.rooms n r } }

/-- The key record of a key number, absent for a FREE key. -/
def State.key (s : State) (n : Nat) : Option KeyRec := tableLook none s.cred.keys n

/-- The state with a key record written, or freed. -/
def State.setKey (s : State) (n : Nat) (k : Option KeyRec) : State :=
  { s with cred := { s.cred with keys := tablePut none s.cred.keys n k } }

/-- The door record of a door number. -/
def State.door (s : State) (n : Nat) : Door := tableLook Door.blank s.eval.doors n

/-- The state with a door record written. -/
def State.setDoor (s : State) (n : Nat) (d : Door) : State :=
  { s with eval := { s.eval with doors := tablePut Door.blank s.eval.doors n d } }

/-- The tally record of a room. -/
def State.tally (s : State) (n : Nat) : Tally := tableLook Tally.blank s.mini.tallies n

/-- The state with a tally record written. -/
def State.setTally (s : State) (n : Nat) (t : Tally) : State :=
  { s with mini := { s.mini with tallies := tablePut Tally.blank s.mini.tallies n t } }

/-- The session of a minibar door, if one is open. -/
def State.session (s : State) (n : Nat) : Option Session := tableLook none s.mini.sessions n

/-- The state with a door's session written, or removed from the pool. -/
def State.setSession (s : State) (n : Nat) (x : Option Session) : State :=
  { s with mini := { s.mini with sessions := tablePut none s.mini.sessions n x } }

/-- The price of an item (R102). -/
def State.price (s : State) (n : Nat) : Nat := tableLook 0 s.mini.prices n

/-- The zone record of a zone (R8). -/
def State.zone (s : State) (n : Nat) : Zone := tableLook Zone.blank s.clock.zones n

/-- The state with a zone record written. -/
def State.setZone (s : State) (n : Nat) (z : Zone) : State :=
  { s with clock := { s.clock with zones := tablePut Zone.blank s.clock.zones n z } }

/-- The band of a schedule for a weekday (R11). -/
def State.band (s : State) (schedule weekday : Nat) : Band := tableLook Band.blank s.clock.schedules (7 * schedule + weekday)

/-- The state with a band of a schedule written. -/
def State.setBand (s : State) (schedule weekday : Nat) (b : Band) : State :=
  { s with clock := { s.clock with schedules := tablePut Band.blank s.clock.schedules (7 * schedule + weekday) b } }

/-- A group entry (R126). -/
def State.entry (s : State) (n : Nat) : GroupEntry := tableLook GroupEntry.blank s.group.entries n

/-- The state with a group entry written. -/
def State.setEntry (s : State) (n : Nat) (e : GroupEntry) : State :=
  { s with group := { s.group with entries := tablePut GroupEntry.blank s.group.entries n e } }

/-! ### Links, notices, records offered -/

/-- A Link Unit of the part. -/
def State.link (s : State) : LinkId → Link
  | .desk => s.desk
  | .lock => s.lock
  | .audit => s.audit

/-- The state with a Link Unit written. -/
def State.setLink (s : State) (l : LinkId) (k : Link) : State :=
  match l with
  | .desk => { s with desk := k }
  | .lock => { s with lock := k }
  | .audit => { s with audit := k }

/-- Raises a notice on its link (R198). -/
def State.raise (s : State) (n : Notice) : State :=
  s.setLink (noticeLink n) ((s.link (noticeLink n)).withNotice (noticeNumber n))

/-- Offers a record to the staging input (R143). -/
def State.offer (s : State) (r : Rec) : State :=
  { s with journal := { s.journal with offers := s.journal.offers ++ [r] } }

/-- Offers a record that carries the M and S an operation read when it was taken (R142, log entry 5). -/
def State.offerAt (s : State) (src : Source) (minute second : Nat) (b : RecBody) : State :=
  s.offer { source := src, minute := minute, second := second, body := b }

/-- Offers a record of an operation taken at this step, with M and S as the clock stands. -/
def State.offerNow (s : State) (src : Source) (b : RecBody) : State :=
  s.offerAt src s.clock.minute s.clock.second b

/-! ### Requests and replies -/

/-- The request has had its first reply record placed (R205). -/
def Request.answered (r : Request) : Bool :=
  match r.phase with
  | .placing _ => true
  | .handed => false
  | .taken => false

/-- Places a reply: the first reply record in the place held for the request, the others waiting (R205); after a link reset the
reply is discarded (R200). -/
def Link.answerWith (k : Link) (rs : List Reply) : Link :=
  match k.inProgress, rs with
  | none, _ => k
  | some _, [] => { k with inProgress := none }
  | some r, a :: rest =>
    if r.answered then k
    else if r.discard then { k with inProgress := none }
    else
      { k with
        replies := k.replies ++ [a]
        inProgress := if rest.isEmpty then none else some { r with phase := .placing rest } }

/-- Replies to the request in progress on a link (R194, R205). -/
def State.answer (s : State) (l : LinkId) (st : Status) (fs : List Field) : State :=
  match (s.link l).inProgress with
  | none => s
  | some r => s.setLink l ((s.link l).answerWith (replySeries r.tag st (kindCode r.kind) (fieldBytes fs)))

/-- Marks the request in progress on a link as taken by its owning block. -/
def State.markTaken (s : State) (l : LinkId) : State :=
  match (s.link l).inProgress with
  | none => s
  | some r => s.setLink l { s.link l with inProgress := some { r with phase := .taken } }

/-- The field area of the request of kind `k` that link `l` has handed to its owning block and that is not yet taken. -/
def State.serving (s : State) (l : LinkId) (k : ReqKind) : Option (List Byte) :=
  match (s.link l).inProgress with
  | none => none
  | some r => if s.powered && r.phase == .handed && r.kind == k then some r.fields else none

/-- The fence stands against requests of this link (R181). -/
def State.fenced (s : State) (l : LinkId) : Bool := l == .desk && s.settings.fence

/-- The state of a room as a reply gives it, FFh for a room above 511 (R27, log entry 14). -/
def State.roomStateField (s : State) (room : Nat) : Field :=
  optField 1 (if room < Config.rooms then some (roomStateCode (s.room room).state) else none)

/-- The fields that the owning rule gives every refusal of a request of kind `k` with field area `fs`, whoever refuses it: the
current M and S of a refused SET_TIME (R3), the room's state of a refused CHECK_IN (R27), the service state and the clock-set flag
of a refused COMMISSION (R174). The model's own: a refusal by the Link Unit or by the fence is one of them (log entry 15). -/
def State.refusalFields (s : State) (k : ReqKind) (fs : List Byte) : List Field :=
  if k = .setTime then [.num 4 s.clock.minute, .num 1 s.clock.second]
  else if k = .checkIn then [s.roomStateField (fieldAt fs 0 2)]
  else if k = .commission then [.num 1 (serviceCode s.settings.service), .flag s.clock.isSet]
  else []

/-- An owning block takes a request of kind `k` from link `l`, if one is handed and the block is `ready`: a fenced Desk request
is answered FENCED (R181), any other is served by `body`, which gets its fields. `s'` is the state as the block takes it. -/
def State.serveFrom (s : State) (l : LinkId) (k : ReqKind) (ready : Bool) (s' : State) (body : List Byte → State → State) : State :=
  match s.serving l k with
  | none => s
  | some fs => if !ready then s else if s'.fenced l then s'.answer l .fenced (s'.refusalFields k fs) else body fs s'

/-- A request of a block that completes each request in the step that takes it. -/
def State.serve (s : State) (l : LinkId) (k : ReqKind) (body : List Byte → State → State) : State :=
  s.serveFrom l k true s body

/-- A Desk request has been taken by its owning block and is not complete: a check-in, a check-out or a DOOR_SET between two of
its steps (R39, R72). -/
def State.deskTaken (s : State) : Bool := s.desk.inProgress.any fun r => r.phase == .taken

/-- The request in progress holds a reply place: until its first reply record is placed, and not after a link reset (R191, R200). -/
def Request.holdsPlace (r : Request) : Bool :=
  !r.discard && !r.answered

/-- A run at this phase holds a place in the Desk reply queue (R133, R195). -/
def GroupPhase.holds (p : GroupPhase) : Bool :=
  match p with
  | .issueHanded held => held
  | .imageHeld _ => true
  | .rest => false
  | .checkinHanded => false
  | .waiting => false
  | .boundary => false

/-- The group run holds a place in the Desk reply queue (R133). -/
def State.groupHolds (s : State) : Bool := s.group.phase.holds

/-- The places of a reply queue that are taken (R191). -/
def State.placesTaken (s : State) (l : LinkId) : Nat :=
  (s.link l).replies.length + ((s.link l).inProgress.elim false Request.holdsPlace).toNat + (l == .desk && s.groupHolds).toNat

/-- A place of a reply queue is free (R191). -/
def State.placeFree (s : State) (l : LinkId) : Bool := decide (s.placesTaken l < Config.replyPlaces)

/-! ### Arbitration in the Credential Manager (R39) -/

/-- The source of a link's requests (R39). -/
def sourceOf : LinkId → CmSource
  | .desk => .desk
  | .lock => .desk
  | .audit => .audit

/-- The Access Evaluator has an operation waiting at the Credential Manager. -/
def Evaluator.atCredentials (e : Evaluator) : Bool :=
  match e.op with
  | some (.present _) => true
  | some (.privacy _ _ _) => true
  | _ => false

/-- The Credential Manager, free, takes this source's operation next: the evaluator's comes first, the others in order of
arrival (R39). -/
def State.cmTakes (s : State) (c : CmSource) : Bool :=
  s.powered && s.cred.op.isNone && !s.eval.atCredentials && s.cred.waiting.head? == some c

/-- A source hands over an operation (R39). -/
def State.cmHand (s : State) (c : CmSource) : State := { s with cred := { s.cred with waiting := s.cred.waiting ++ [c] } }

/-- The Credential Manager takes the operation that arrived first. -/
def State.cmPop (s : State) : State := { s with cred := { s.cred with waiting := s.cred.waiting.tail } }

/-- A request owned by the Credential Manager. -/
def State.serveCm (s : State) (l : LinkId) (k : ReqKind) (body : List Byte → State → State) : State :=
  s.serveFrom l k (s.cmTakes (sourceOf l)) s.cmPop body

/-- A minute event reaches the sweep: it starts a pass, or marks one pending (R14). -/
def State.minuteEvent (s : State) : State :=
  match s.clock.sweep.position with
  | none => { s with clock := { s.clock with sweep := { s.clock.sweep with position := some (.key 0) } } }.cmHand .sweep
  | some _ => { s with clock := { s.clock with sweep := { s.clock.sweep with pendingPass := true } } }

/-- A request owned by the Access Evaluator, which performs one operation at a time (R70). -/
def State.serveEval (s : State) (l : LinkId) (k : ReqKind) (body : List Byte → State → State) : State :=
  s.serveFrom l k s.eval.op.isNone s body

end Sys2Proof.Machine
end

