-- ==== Sys2Proof/Machine/CredOps.lean ====
section
/-! DEFINITION. Shared operations of the Credential Manager: lists and generations, cancelling, issuing, the Watch List, check-in. -/

namespace Sys2Proof.Machine

/-! ### Lists and generations (R23 to R26) -/

/-- The room entries of a key; only GUEST keys carry them (R42). -/
def KeyRec.entries (k : KeyRec) : List Entry :=
  match k.rights with
  | .guest es _ _ => es
  | _ => []

/-- The key with other room entries. -/
def KeyRec.withEntries (k : KeyRec) (es : List Entry) : KeyRec :=
  match k.rights with
  | .guest _ zs m => { k with rights := .guest es zs m }
  | _ => k

/-- The generation of a key for a room, if an entry names the room (R23). -/
def KeyRec.genFor (k : KeyRec) (room : Nat) : Option Byte :=
  (k.entries.find? fun e => e.room == room).map Entry.gen

/-- The generation of a listed key for a room (R25). -/
def State.listedGen (s : State) (room key : Nat) : Byte :=
  match s.key key with
  | some k => (k.genFor room).getD 0#8
  | none => 0#8

/-- The forward distance (a - b) mod 256 of R24. -/
def genDistance (a b : Byte) : Nat := (a - b).toNat

/-- The recompute of ig over the room's list (R25). -/
def State.recompute (s : State) (room : Nat) : State :=
  let r := s.room room
  let g := r.keyList.foldl (fun g k => max g (genDistance (s.listedGen room k) r.cg)) 0
  s.setRoom room { r with ig := r.cg + BitVec.ofNat 8 g }

/-- A key leaves a room's list; the keys behind it keep their order (R23). -/
def State.unlist (s : State) (key room : Nat) : State :=
  s.setRoom room { s.room room with keyList := (s.room room).keyList.filter fun k => k != key }

/-- A key leaves the list of every room it names, and each room's ig is recomputed once (R23, R25). -/
def State.leaveLists (s : State) (key : Nat) (k : KeyRec) : State :=
  k.entries.foldl (fun s e => (s.unlist key e.room).recompute e.room) s

/-- The bound serial of a LIVE key (R42). -/
def KeyRec.serial (k : KeyRec) : Option Nat :=
  match k.status with
  | .live n => some n
  | _ => none

/-- The record of a key moved to CANCELLED: it keeps every other field, its bound serial too (R43). The model's own: a PENDING
key's encode deadline, a field of the state PENDING alone (R42), is not kept (log entry 35). -/
def KeyRec.cancelled (k : KeyRec) (reason : CancelReason) (minute : Nat) : KeyRec :=
  { k with status := .cancelled reason minute k.serial }

/-- A PENDING or LIVE key becomes CANCELLED at the current M and leaves its lists (R43, R23). -/
def State.cancelKey (s : State) (n : Nat) (k : KeyRec) (reason : CancelReason) : State :=
  (s.leaveLists n k).setKey n (some (k.cancelled reason s.clock.minute))

/-- A PENDING key becomes FREE and leaves its lists (R43, R23). -/
def State.freeKey (s : State) (n : Nat) (k : KeyRec) : State := (s.leaveLists n k).setKey n none

/-- Offers a record of the Credential Manager at the current M and S. -/
def State.credOffer (s : State) (b : RecBody) : State := s.offerNow .credentialManager b

/-- The advance's visit to one listed key (step 2 of R26): counts of the keys that stayed valid and of the keys cancelled. -/
def advanceVisit (room presenting : Nat) (g : Byte) (a : State × Nat × List Nat) (n : Nat) : State × Nat × List Nat :=
  let (s, kept, dead) := a
  match s.key n with
  | none => a
  | some k =>
    if n ≠ presenting ∧ 127 < genDistance ((k.genFor room).getD 0#8) g then
      if 1 < k.entries.length then
        ((s.unlist n room).setKey n (some (k.withEntries (k.entries.filter fun e => e.room != room))), kept + 1, dead)
      else ((s.unlist n room).setKey n (some (k.cancelled .superseded s.clock.minute)), kept, dead ++ [n])
    else a

/-- The advance of a room to the presenting key's generation, with its records (R26). -/
def State.advance (s : State) (room key : Nat) (g : Byte) : State :=
  let r := s.room room
  let (s1, kept, dead) := r.keyList.foldl (advanceVisit room key g) (s.setRoom room { r with cg := g }, 0, [])
  let s2 := (s1.recompute room).credOffer (.advance room key r.cg g kept dead.length)
  dead.foldl (fun s n => s.credOffer (.keyCancelled n .superseded false)) s2

/-- The use decrement of a granted SERVICE key (R60): the state and the uses left. -/
def State.useKey (s : State) (n : Nat) (k : KeyRec) (zones : Mask16) (uses : Nat) : State × Nat :=
  let k1 := { k with rights := .service zones (uses - 1) }
  if uses - 1 = 0 then
    ((s.setKey n (some (k1.cancelled .usedUp s.clock.minute))).credOffer (.keyCancelled n .usedUp false), 0)
  else (s.setKey n (some k1), uses - 1)

/-! ### Check-out (R32) -/

/-- The check-out's visit to one listed key: the counts of the keys cancelled and of the keys that lost this entry only. -/
def checkOutVisit (room minute second : Nat) (a : State × Nat × Nat) (n : Nat) : State × Nat × Nat :=
  let (s, dead, kept) := a
  match s.key n with
  | none => a
  | some k =>
    if 1 < k.entries.length then
      (s.setKey n (some (k.withEntries (k.entries.filter fun e => e.room != room))), dead, kept + 1)
    else
      ((s.setKey n (some (k.cancelled .checkedOut minute))).offerAt .credentialManager minute second
        (.keyCancelled n .checkedOut false), dead + 1, kept)

/-! ### The Watch List (R62 to R64) -/

/-- The entry of a serial, with its position from the front. -/
def watchFind (serial : Nat) : Nat → List WatchEntry → Option (Nat × WatchEntry)
  | _, [] => none
  | i, e :: es => if e.serial = serial then some (i, e) else watchFind serial (i + 1) es

/-- The serial is on the Watch List. -/
def State.watched (s : State) (serial : Nat) : Option WatchEntry := (watchFind serial 0 s.cred.watch).map Prod.snd

/-- The entry with the earliest until-minute, the one nearest the front of several (R64). -/
def watchEarliest : List WatchEntry → Option WatchEntry
  | [] => none
  | e :: es =>
    match watchEarliest es with
    | none => some e
    | some f => if f.untilMinute < e.untilMinute then some f else some e

/-- The state with another Watch List. -/
def State.setWatch (s : State) (w : List WatchEntry) : State := { s with cred := { s.cred with watch := w } }

/-- Outcomes of the add procedure (R59, R65). -/
inductive WatchOutcome where
  | added
  | updated
  | evicting (serial : Nat)
  | full
  deriving DecidableEq, Repr

/-- What the add procedure would do for a serial with an until-minute (R63, R64). -/
def State.watchPlan (s : State) (serial u : Nat) : WatchOutcome :=
  match s.watched serial with
  | some _ => .updated
  | none =>
    if s.cred.watch.length < Config.watchEntries then .added
    else
      match watchEarliest s.cred.watch with
      | some e => if e.untilMinute < u then .evicting e.serial else .full
      | none => .full

/-- The add procedure (R63, R64). -/
def State.watchAdd (s : State) (serial u : Nat) (reason : WatchReason) : State :=
  let e : WatchEntry := { serial := serial, untilMinute := u, reason := reason }
  match s.watchPlan serial u with
  | .updated =>
    let old := (s.watched serial).elim 0 WatchEntry.untilMinute
    (s.setWatch (s.cred.watch.map fun x => if x.serial = serial then e else x)).credOffer
      (.watchChange (.updated serial old u reason))
  | .added => (s.setWatch (s.cred.watch ++ [e])).credOffer (.watchChange (.added serial u reason))
  | .evicting old =>
    let oldReason := (s.watched old).elim .lost WatchEntry.reason
    ((s.setWatch ((s.cred.watch.filter fun x => x.serial != old) ++ [e])).credOffer
      (.watchChange (.evicted old oldReason))).credOffer (.watchChange (.added serial u reason))
  | .full => s

/-- The evicted serial that a reply carries with its outcome, where one was evicted (R59, R65, R203). -/
def evictedFields : WatchOutcome → List Field
  | .evicting n => [.num 4 n]
  | _ => []

/-- The outcome a WATCH_ADD reply carries: ADDED, UPDATED (R65). -/
def addOutcomeCode : WatchOutcome → Nat
  | .updated => 1
  | _ => 0

/-- The outcome a REPORT_LOST reply carries: ADDED, FULL, or NONE for a PENDING key (R59). -/
def lostOutcomeCode : Option WatchOutcome → Nat
  | none => 2
  | some .full => 1
  | some _ => 0

/-- The number of the LIVE key bound to a serial; there is at most one (R56). -/
def State.liveKeyOf (s : State) (serial : Nat) : Option (Nat × KeyRec) :=
  s.cred.keys.findSome? fun p => p.2.bind fun k => if k.serial = some serial then some (p.1, k) else none

/-! ### Issuing (R45 to R55) -/

/-- What an issue asks for, by kind (R49, R55). -/
inductive IssueRights where
  | guest (mode : GenMode) (rooms : List Nat) (zones : Mask16) (minibar : Bool)
  | staff (zones : Mask16) (schedule : Nat) (restock : Bool)
  | service (zones : Mask16) (uses : Nat)
  | emergency
  deriving DecidableEq, Repr

/-- An issue whose fields passed checks 2 and 3 of R49. -/
structure IssueOrder where
  rights : IssueRights
  start : Nat
  stop : Nat
  origin : IssueOrigin
  deriving DecidableEq, Repr

/-- The listed rooms of an issue. -/
def IssueOrder.rooms (o : IssueOrder) : List Nat :=
  match o.rights with
  | .guest _ rooms _ _ => rooms
  | _ => []

/-- The generation an issue takes for a room (R50). -/
def issueGen (mode : GenMode) (r : Room) : Byte :=
  match mode with
  | .new => r.ig + 1#8
  | .copy => r.ig

/-- The first key of the table that is FREE, from `n` on, in a table of `fuel` more keys (R45). -/
def freeKeyFrom (s : State) : Nat → Nat → Option Nat
  | 0, _ => none
  | fuel + 1, n => if (s.key n).isNone then some n else freeKeyFrom s fuel (n + 1)

/-- The cancel minute and reason of a CANCELLED key. -/
def KeyRec.cancelInfo (k : KeyRec) : Option (Nat × CancelReason) :=
  match k.status with
  | .cancelled reason minute _ => some (minute, reason)
  | _ => none

/-- The CANCELLED key with the earliest cancel minute, the lowest-numbered of several (R45). -/
def earliestCancelled : Table (Option KeyRec) → Option (Nat × Nat × CancelReason)
  | [] => none
  | (n, k) :: rest =>
    match k.bind KeyRec.cancelInfo, earliestCancelled rest with
    | none, best => best
    | some (m, r), none => some (n, m, r)
    | some (m, r), some (n', m', r') => if m' < m then some (n', m', r') else some (n, m, r)

/-- The allocation of a key number, with the cancel reason of the key whose number it reuses (R45). -/
def State.allocate (s : State) : Option (Nat × Option CancelReason) :=
  match freeKeyFrom s Config.keys 0 with
  | some n => some (n, none)
  | none => (earliestCancelled s.cred.keys).map fun c => (c.1, some c.2.2)

/-- The window of an issue after defaults, or none when it is refused (R51). -/
def issueWindow (s : State) (o : IssueOrder) : Option (Nat × Nat) :=
  let m := s.clock.minute
  let start := if o.start = 0 then m else o.start
  let stop : Option Nat :=
    match o.rights with
    | .guest _ rooms _ _ =>
      if o.stop = 0 then (rooms.filterMap fun r => (s.room r).stay.map Stay.stayEnd).min? else some o.stop
    | .staff _ _ _ => if o.stop = 0 then none else some o.stop
    | .service _ _ => if o.stop = 0 then none else some o.stop
    | .emergency =>
      if Config.maxMinute - 1440 < start then none
      else if o.stop = 0 then some (start + 1440)
      else some (min o.stop (start + 1440))
  match stop with
  | none => none
  | some e => if e ≤ start ∨ e ≤ m then none else some (start, e)

/-- Outcome of the checks of an issue: the refusal with the room it names, or the key number, its record, and the cancel reason
of a reused number. -/
inductive IssueOutcome where
  | refused (st : Status) (room : Option Nat)
  | accepted (key : Nat) (rec : KeyRec) (reused : Option CancelReason)
  deriving DecidableEq, Repr

/-- The rights of the new key, with the generation of each room (R50, R54). -/
def issueRights (s : State) : IssueRights → KeyRights
  | .guest mode rooms zones minibar =>
    .guest (rooms.map fun r => { room := r, gen := issueGen mode (s.room r) }) zones minibar
  | .staff zones schedule restock => .staff zones schedule restock
  | .service zones uses => .service zones uses
  | .emergency => .emergency

/-- Check 4 of R49: a listed room not OCCUPIED. -/
def State.notOccupiedRoom (s : State) (rooms : List Nat) : Option Nat :=
  rooms.find? fun r => (s.room r).state != .occupied

/-- Check 5 of R49: a listed room whose key list holds 8 keys. -/
def State.fullListRoom (s : State) (rooms : List Nat) : Option Nat :=
  rooms.find? fun r => decide (Config.roomKeys ≤ (s.room r).keyList.length)

/-- Check 6 of R49: under mode NEW, a listed room that fails the generation window (R50). -/
def State.genWindowRoom (s : State) : IssueRights → Option Nat
  | .guest .new rooms _ _ => rooms.find? fun r => decide (127 < genDistance ((s.room r).ig + 1#8) (s.room r).cg)
  | _ => none

/-- The record of R54 step 1. -/
def State.newKey (s : State) (o : IssueOrder) (start stop : Nat) : KeyRec :=
  { status := .pending (min (s.clock.minute + s.settings.encodeDeadline) Config.maxMinute)
    rights := issueRights s o.rights
    issued := s.clock.minute
    start := start
    stop := stop
    origin := match o.origin with | .desk => none | .group e _ => some e }

/-- Checks 7 to 9 of R49. -/
def State.issueCheckWindow (s : State) (o : IssueOrder) : IssueOutcome :=
  match issueWindow s o with
  | none => .refused .badField none
  | some (start, stop) =>
    if o.rights = .emergency ∧ s.cred.allowance = 0 then .refused .noAllowance none
    else
      match s.allocate with
      | none => .refused .tableFull none
      | some (n, reused) => .accepted n (s.newKey o start stop) reused

/-- Checks 4 to 9 of R49, each applied to every listed room before the next. -/
def State.issueCheck (s : State) (o : IssueOrder) : IssueOutcome :=
  match s.notOccupiedRoom o.rooms, s.fullListRoom o.rooms, s.genWindowRoom o.rights with
  | some r, _, _ => .refused .roomState (some r)
  | none, some r, _ => .refused .roomKeysFull (some r)
  | none, none, some r => .refused .genWindow (some r)
  | none, none, none => s.issueCheckWindow o

/-- A key joins the list of a room with a generation, and ig is raised where R24 requires. -/
def State.joinList (s : State) (key : Nat) (e : Entry) : State :=
  let r := s.room e.room
  s.setRoom e.room
    { r with
      keyList := r.keyList ++ [key]
      ig := if genDistance r.ig r.cg < genDistance e.gen r.cg then e.gen else r.ig }

/-- An accepted issue is applied (R54). -/
def State.issueApply (s : State) (o : IssueOrder) (n : Nat) (k : KeyRec) (reused : Option CancelReason) : State :=
  let s1 := k.entries.foldl (fun s e => s.joinList n e) (s.setKey n (some k))
  match o.rights with
  | .emergency =>
    let left := s.cred.allowance - 1
    ({ s1 with cred := { s1.cred with allowance := left } }.raise .emergencyIssued).credOffer
      (.keyIssued n .emergency k.start k.stop o.origin reused (some left))
  | .guest _ _ _ _ =>
    (s1.credOffer (.keyIssued n .guest k.start k.stop o.origin reused none)).credOffer (.keyIssuedRooms n k.entries)
  | .staff _ _ _ => s1.credOffer (.keyIssued n .staff k.start k.stop o.origin reused none)
  | .service _ _ => s1.credOffer (.keyIssued n .service k.start k.stop o.origin reused none)

/-- The card image of a key, with the site record as it stands (R48). -/
def State.imageOf (s : State) (n : Nat) (k : KeyRec) : List Byte :=
  match s.settings.record with
  | some r => cardImage r.number r.wing n (issueStamp k)
  | none => cardImage 0 0 n (issueStamp k)

/-! ### Check-in (R27 to R30) -/

/-- The stay of a room is running (R22). -/
def Room.running (r : Room) (m : Nat) : Bool :=
  r.state == .occupied && (match r.stay with | some x => decide (m < x.stayEnd) | none => false)

/-- The refusals of R27 after the service state check. -/
def State.checkInRefusal (s : State) (room stayEnd : Nat) : Option Status :=
  if Config.rooms ≤ room then some .badField
  else if stayEnd ≤ s.clock.minute then some .badField
  else if (s.room room).running s.clock.minute then some .roomState
  else if (s.room room).state = .outOfService then some .roomState
  else none

/-- The check-in operation as the Credential Manager takes it: the first room is OCCUPIED with an ended stay when a tally-close
comes first (R29). -/
def State.beginCheckIn (s : State) (origin : StayOrigin) (rooms : List Nat) (stayEnd limit : Nat) : State :=
  { s with
    cred := { s.cred with
      op := some (.checkIn
        { origin := origin, minute := s.clock.minute, second := s.clock.second, stayEnd := stayEnd, limit := limit,
          rooms := rooms, todo := rooms,
          closing := (rooms.head?.map fun r => (s.room r).state == .occupied).getD false,
          earlier := none }) } }

/-- A room checked in (steps 2 to 4 of R28). The model's own: the check-in minute is the M of the operation's first step (log
entry 5). -/
def State.occupy (s : State) (minute stayEnd room : Nat) : State :=
  s.setRoom room
    { s.room room with state := .occupied, privacy := false, stay := some { checkIn := minute, stayEnd := stayEnd } }

end Sys2Proof.Machine
end

