-- ==== Sys2Proof/Machine/Clock.lean ====
section
/-! DEFINITION. Meanings of the commands of the Site Clock: time, zones, schedules, the expiry sweep (chapter 1). -/

namespace Sys2Proof.Machine

/-- The clock a second on, M holding at its maximum (R1). -/
def Clock.tick (c : Clock) : Clock :=
  if c.second < 59 then { c with second := c.second + 1 }
  else { c with second := 0, minute := min (c.minute + 1) Config.maxMinute }

/-- SECOND_EVENT (R1, R2): without main power the clock runs on and its events reach no receiver. -/
def execSecondEvent (s : State) : Result :=
  .next
    (if s.clock.isSet then
      let s1 := { s with clock := s.clock.tick }
      if s.powered then
        let s2 := { s1 with mini := { s1.mini with idleDue := s1.mini.idleDue + 1 } }
        if s.clock.second < 59 then s2 else s2.minuteEvent
      else s1
    else s)

/-- The clock after an accepted SET_TIME (steps 1 to 3 of R4). -/
def Clock.setTo (c : Clock) (minute second : Nat) : Clock := { c with minute := minute, second := second, isSet := true }

/-- The refusal of a SET_TIME (R3). -/
def State.setTimeRefusal (s : State) (minute second : Nat) : Option Status :=
  if 59 < second then some .badField
  else if s.settings.service = .inService ∧ stampOf minute second + 900 < stampOf s.clock.minute s.clock.second then
    some .timeBackward
  else none

/-- SET_TIME (R3, R4). -/
def execSetTime (s : State) : Result :=
  .next (s.serve .desk .setTime fun fs s =>
    let minute := fieldAt fs 0 4
    let second := fieldAt fs 4 1
    match s.setTimeRefusal minute second with
    | some st => s.answer .desk st (s.refusalFields .setTime fs)
    | none =>
      let s1 := { s with clock := s.clock.setTo minute second }
      let s2 := if minute = s.clock.minute then s1 else s1.minuteEvent
      ((s2.offerNow .siteClock (.timeSet s.clock.minute minute s.clock.second second)).raise .timeSet).answer .desk .ok
        [.num 4 s.clock.minute, .num 4 minute, .num 1 s.clock.second, .num 1 second])

/-- TIME_QUERY (R5). -/
def execTimeQuery (l : LinkId) (s : State) : Result :=
  .next (s.serve l .timeQuery fun _ s =>
    let c := s.clock
    s.answer l .ok
      [.num 4 c.minute, .num 1 c.second, .flag c.isSet, .num 3 (dayOf c.minute), .num 2 (minuteOfDay c.minute),
       .num 1 (weekdayOf s.settings.record c.minute), .num 1 (if c.sweep.position.isSome then 1 else 0),
       .flag c.sweep.pendingPass, .num 2 c.sweep.passes])

/-- The refusal of a ZONE_SET (R9). The model's own: BAD_FIELD before NOT_READY, since R9 gives no order (log entry 33). -/
def State.zoneSetRefusal (s : State) (zone opens closes allowed : Nat) : Option Status :=
  if 15 < zone ∨ 1439 < opens ∨ 1440 < closes ∨ 1 < allowed then some .badField
  else if s.settings.service = .unprovisioned then some .notReady
  else none

/-- ZONE_SET (R9). -/
def execZoneSet (s : State) : Result :=
  .next (s.serve .desk .zoneSet fun fs s =>
    let zone := fieldAt fs 0 1
    let opens := fieldAt fs 1 2
    let closes := fieldAt fs 3 2
    let allowed := fieldAt fs 5 1
    match s.zoneSetRefusal zone opens closes allowed with
    | some st => s.answer .desk st []
    | none =>
      (s.setZone zone
        { s.zone zone with band := { opens := opens, closes := closes }, guestAllowed := allowed == 1 }).answer .desk .ok
        [.num 2 opens, .num 2 closes, .flag (allowed == 1)])

/-- The refusal of a ZONE_LOCKDOWN (R10). The model's own: BAD_FIELD before NOT_READY, since R10 gives no order (log entry 33). -/
def State.lockdownRefusal (s : State) (zone value : Nat) : Option Status :=
  if 15 < zone ∨ 1 < value then some .badField
  else if s.settings.service = .unprovisioned then some .notReady
  else none

/-- ZONE_LOCKDOWN (R10). -/
def execZoneLockdown (s : State) : Result :=
  .next (s.serve .audit .zoneLockdown fun fs s =>
    let zone := fieldAt fs 0 1
    let value := fieldAt fs 1 1
    match s.lockdownRefusal zone value with
    | some st => s.answer .audit st []
    | none =>
      let on := value == 1
      let s1 :=
        if (s.zone zone).lockdown = on then s
        else (s.setZone zone { s.zone zone with lockdown := on }).offerNow .siteClock (.security (.lockdownChange zone on))
      s1.answer .audit .ok [.flag on])

/-- ZONE_QUERY (R13). -/
def execZoneQuery (l : LinkId) (s : State) : Result :=
  .next (s.serve l .zoneQuery fun fs s =>
    let zone := fieldAt fs 0 1
    if 15 < zone then s.answer l .badField []
    else
      let z := s.zone zone
      s.answer l .ok [.num 2 z.band.opens, .num 2 z.band.closes, .flag z.guestAllowed, .flag z.lockdown])

/-- The seven bands of a schedule in weekday order (R12, R13). -/
def State.scheduleFields (s : State) (schedule : Nat) : List Field :=
  (List.range 7).flatMap fun w => [.num 2 (s.band schedule w).opens, .num 2 (s.band schedule w).closes]

/-- The refusal of a SCHEDULE_SET (R12). The model's own: BAD_FIELD before NOT_READY, since R12 gives no order (log entry 33). -/
def State.scheduleRefusal (s : State) (schedule mask opens closes : Nat) : Option Status :=
  if 15 < schedule ∨ mask = 0 ∨ 127 < mask ∨ 1439 < opens ∨ 1440 < closes then some .badField
  else if s.settings.service = .unprovisioned then some .notReady
  else none

/-- The band written to each weekday flagged in a mask (R12). -/
def State.writeSchedule (s : State) (schedule mask : Nat) (b : Band) : State :=
  (List.range 7).foldl (fun s w => if mask.testBit w then s.setBand schedule w b else s) s

/-- SCHEDULE_SET (R12). -/
def execScheduleSet (s : State) : Result :=
  .next (s.serve .desk .scheduleSet fun fs s =>
    let schedule := fieldAt fs 0 1
    let mask := fieldAt fs 1 1
    let opens := fieldAt fs 2 2
    let closes := fieldAt fs 4 2
    match s.scheduleRefusal schedule mask opens closes with
    | some st => s.answer .desk st []
    | none =>
      let s1 := s.writeSchedule schedule mask { opens := opens, closes := closes }
      s1.answer .desk .ok (s1.scheduleFields schedule))

/-- SCHEDULE_QUERY (R13). -/
def execScheduleQuery (l : LinkId) (s : State) : Result :=
  .next (s.serve l .scheduleQuery fun fs s =>
    let schedule := fieldAt fs 0 1
    if 15 < schedule then s.answer l .badField [] else s.answer l .ok (s.scheduleFields schedule))

/-- The minute at which the sweep cancels a LIVE key (R16). -/
def State.keyDue (s : State) (k : KeyRec) : Nat :=
  if kindOfRights k.rights = .guest then k.stop + s.settings.grace else k.stop

/-- The sweep's visit to a key number (R16). -/
def State.sweepKey (s : State) (n : Nat) : State :=
  match s.key n with
  | none => s
  | some k =>
    match k.status with
    | .live _ =>
      if s.keyDue k ≤ s.clock.minute then (s.cancelKey n k .expired).credOffer (.keyExpired n false) else s
    | .pending deadline =>
      if deadline ≤ s.clock.minute then ((s.freeKey n k).credOffer (.keyExpired n true)).raise .encodeLapsed else s
    | .cancelled _ minute _ => if minute + 1440 ≤ s.clock.minute then s.setKey n none else s

/-- The sweep goes on to its next visit, and hands it over (R15). -/
def State.sweepNext (s : State) (p : SweepItem) : State :=
  { s with clock := { s.clock with sweep := { s.clock.sweep with position := some p } } }.cmHand .sweep

/-- SWEEP_KEY_VISIT (R15, R16). -/
def execSweepKeyVisit (s : State) : Result :=
  .next (match s.clock.sweep.position with
    | some (.key n) =>
      if s.cmTakes .sweep then
        (s.cmPop.sweepKey n).sweepNext (if n + 1 < Config.keys then .key (n + 1) else .watch)
      else s
    | _ => s)

/-- The sweep's visit to the Watch List (R17). -/
def State.sweepWatch (s : State) : State :=
  let due := s.cred.watch.filter fun e => decide (e.untilMinute ≤ s.clock.minute)
  let s1 := s.setWatch (s.cred.watch.filter fun e => !decide (e.untilMinute ≤ s.clock.minute))
  due.foldl (fun s e => s.credOffer (.watchChange (.expired e.serial e.reason))) s1

/-- SWEEP_WATCH_VISIT (R15, R17). -/
def execSweepWatchVisit (s : State) : Result :=
  .next (match s.clock.sweep.position with
    | some .watch => if s.cmTakes .sweep then s.cmPop.sweepWatch.sweepNext .allowance else s
    | _ => s)

/-- The sweep's visit to the emergency allowance (R18). -/
def State.sweepAllowance (s : State) : State :=
  if 0 < s.cred.allowance ∧ s.cred.allowanceDeadline ≤ s.clock.minute then
    { s with cred := { s.cred with allowance := 0 } }.credOffer (.security (.allowanceLapsed s.cred.allowance))
  else s

/-- A pass is complete (R14). -/
def State.passComplete (s : State) : State :=
  let w := s.clock.sweep
  let passes := (w.passes + 1) % 65536
  if w.pendingPass then
    { s with clock := { s.clock with sweep := { position := none, pendingPass := false, passes := passes } } }.sweepNext (.key 0)
  else { s with clock := { s.clock with sweep := { position := none, pendingPass := false, passes := passes } } }

/-- SWEEP_ALLOWANCE_VISIT (R14, R15, R18). -/
def execSweepAllowanceVisit (s : State) : Result :=
  .next (match s.clock.sweep.position with
    | some .allowance => if s.cmTakes .sweep then s.cmPop.sweepAllowance.passComplete else s
    | _ => s)

end Sys2Proof.Machine
end

