-- ==== Sys2Proof/Machine/MiniOps.lean ====
section
/-! DEFINITION. Shared operations of the Minibar Accounting Unit: charges, lines, sessions, the tally-open and tally-close. -/

namespace Sys2Proof.Machine

/-- Offers a record of the Minibar Accounting Unit at the current M and S. -/
def State.miniOffer (s : State) (b : RecBody) : State := s.offerNow .minibarUnit b

/-- The room whose tally record names a door (R108). -/
def State.roomOfDoor (s : State) (door : Nat) : Option Nat :=
  (s.mini.tallies.find? fun p => p.2.door == some door).map Prod.fst

/-- The line amount L (R117). -/
def lineAmount (price count : Nat) : Nat := price * count

/-- The surcharge Sc, rounded half up (R117). -/
def surcharge (amount rate : Nat) : Nat := (amount * rate + 500) / 1000

/-- The charge C (R117). -/
def chargeOf (price count rate : Nat) : Nat := lineAmount price count + surcharge (lineAmount price count) rate

/-- The tally is at its limit (R110). -/
def Tally.atLimit (t : Tally) : Bool := decide (t.limit ≤ t.tally)

/-- A tally after a charge, held at 9,999,999 with the saturated flag (R110, R117). -/
def Tally.charged (t : Tally) (c : Nat) : Tally :=
  { t with tally := min (t.tally + c) Config.maxTally, saturated := t.saturated || decide (Config.maxTally < t.tally + c) }

/-- A charge of `c` is a crossing of the limit (R110). -/
def Tally.crosses (t : Tally) (c : Nat) : Bool := decide (t.tally < t.limit) && decide (t.limit ≤ (t.charged c).tally)

/-- The line of an item. -/
def lineOf (item : Nat) (ls : List Line) : Option Line := ls.find? fun x => x.item == item

/-- The lines with a charged take placed on them, or none for NO_LINE (R118). -/
def placeOnLines (item count amount : Nat) (ls : List Line) : Option (List Line) :=
  match lineOf item ls with
  | some x =>
    if x.count + count ≤ 255 then
      some (ls.map fun y => if y.item = item then { y with count := y.count + count, amount := y.amount + amount } else y)
    else none
  | none => if ls.length < Config.lines then some (ls ++ [{ item := item, count := count, amount := amount }]) else none

/-- The refund of a line for a reported count (R122). -/
def refundOf (x : Line) (count : Nat) : Nat := x.amount * (min count x.count) / x.count

/-- The line after a refund (R122). -/
def Line.refunded (x : Line) (count : Nat) : Line :=
  { x with count := x.count - min count x.count, amount := x.amount - refundOf x count }

/-- The lines after a refund of an item; a line whose count reaches 0 is removed (R122). -/
def refundLines (item count : Nat) (ls : List Line) : List Line :=
  (ls.map fun y => if y.item = item then y.refunded count else y).filter fun y => y.item != item || y.count != 0

/-- Sets a session's last-activity stamp (R112). -/
def State.touch (s : State) (door stamp : Nat) : State :=
  match s.session door with
  | none => s
  | some x => s.setSession door (some { x with active := stamp })

/-- Closes the session of a door, if one is open, with its SESSION_CLOSE record (R115). -/
def State.closeSession (s : State) (door : Nat) (cause : CloseCause) : State :=
  match s.session door with
  | none => s
  | some x =>
    (s.setSession door none).miniOffer
      (.sessionClose door x.room x.kind x.key x.opened cause x.lines.length (x.lines.foldl (fun n y => n + y.amount) 0))

/-- The tally-open of a room (R106). -/
def State.openTally (s : State) (room limit : Nat) : State :=
  s.setTally room { s.tally room with isOpen := true, limit := limit, tally := 0, saturated := false }

/-- The session-close and tally-close of a room, one operation of the unit (R107). -/
def State.closeTally (s : State) (room : Nat) (cause : CloseCause) : State :=
  let s1 := match (s.tally room).door with
    | none => s
    | some d => s.closeSession d cause
  s1.setTally room { s1.tally room with isOpen := false }

/-! ### The check-in and check-out at the hand-over to the Minibar Accounting Unit -/

/-- The last room of a check-in has its tally: every room of the operation is written, the first in entry order first (R28, R30).
For a group step, the entry's checked-in flag is set in the same step (R132). -/
def State.commitCheckIn (s : State) (op : CheckInOp) : State :=
  let s1 := op.rooms.foldl (fun s r => s.occupy op.minute op.stayEnd r) { s with cred := { s.cred with op := none } }
  match op.origin with
  | .desk => s1
  | .group e => (s1.setEntry e { s1.entry e with checkedIn := true })

/-- The tally-open of the check-in in progress is taken: the tally opens, STAY_OPEN is offered (R28), and the operation goes on to
its next room or is complete. -/
def State.checkInOpen (s : State) (op : CheckInOp) : State :=
  match op.todo with
  | [] => s
  | r :: rest =>
    let s1 := (s.openTally r op.limit).offerAt .credentialManager op.minute op.second
      (.stayOpen r (s.room r).label op.minute op.stayEnd op.limit op.origin)
    match rest with
    | [] => s1.commitCheckIn op
    | r' :: _ =>
      { s1 with
        cred := { s1.cred with op := some (.checkIn { op with todo := rest, closing := (s.room r').state == .occupied }) } }

/-- The tally-close of the check-in in progress is taken, over an ended stay (R29). -/
def State.checkInClose (s : State) (op : CheckInOp) : State :=
  match op.todo with
  | [] => s
  | r :: _ =>
    let s1 := s.closeTally r .recheckin
    let t := s1.tally r
    let x := s.room r
    let s2 := s1.offerAt .credentialManager op.minute op.second
      (.stayClose r x.label (x.stay.elim 0 Stay.checkIn) (x.stay.elim 0 Stay.stayEnd) t.tally t.saturated 0 x.keyList.length
        .recheckin)
    { s2 with cred := { s2.cred with op := some (.checkIn { op with closing := false, earlier := some t.tally }) } }

/-- The check-out goes on after the tally-close: R32, steps 4 and 5 of R31, and R33. The result carries the final tally, the
saturated flag and the two key counts for the reply. The model's own: the cancel minute of a CHECKED_OUT key is the M of step 1
(log entry 5). -/
def State.checkOutClose (s : State) (room minute second stayEnd : Nat) : State × Nat × Bool × Nat × Nat :=
  let s1 := s.closeTally room .checkOut
  let t := s1.tally room
  let (s2, dead, kept) := (s1.room room).keyList.foldl (checkOutVisit room minute second) (s1, 0, 0)
  let r := s2.room room
  let checkIn := r.stay.elim 0 Stay.checkIn
  let s3 := s2.setRoom room
    { r with
      state := .departed, cg := r.ig, keyList := [], privacy := false
      stay := some { checkIn := checkIn, stayEnd := stayEnd } }
  let s4 := s3.offerAt .credentialManager minute second
    (.stayClose room r.label checkIn stayEnd t.tally t.saturated dead kept .checkOut)
  ({ s4 with cred := { s4.cred with op := none } }, t.tally, t.saturated, dead, kept)

end Sys2Proof.Machine
end

