-- ==== Sys2Proof/Machine/Doors.lean ====
section
/-! DEFINITION. Meanings of the commands of the Access Evaluator: presentations, door reports, door records (chapter 4). -/

namespace Sys2Proof.Machine

/-! ### The checks of a presentation (R79 to R88) -/

/-- What the checks made within a presentation operation come to. -/
inductive Decision where
  | deny (reason : DenyReason) (view : KeyView)
  | grant (k : KeyRec)
  | session (room : Nat) (kind : SessionKind)
  deriving DecidableEq, Repr

/-- The site number and wing of a card are those of the site record (R81). -/
def State.siteMatches (s : State) (c : Card) : Bool :=
  match s.settings.record with
  | some r => r.number == c.site && r.wing == c.wing
  | none => false

/-- Check 5 for a key that is not FREE: the first row of R83 that applies. -/
def keyCheck (k : KeyRec) (c : Card) : Option DenyReason :=
  if issueStamp k ≠ c.stamp then some .staleCard
  else
    match k.status with
    | .pending _ => some .notEncoded
    | .cancelled r _ _ => some (cancelDeny r)
    | .live n => if n ≠ c.serial then some .staleCard else none

/-- The key's end bounded by the stay end of a room it names (R84). -/
def State.boundedEnd (s : State) (k : KeyRec) (room : Nat) : Nat :=
  match k.genFor room, (s.room room).stay with
  | some _, some x => min k.stop x.stayEnd
  | _, _ => k.stop

/-- The effective end of a key at a door (R84). -/
def State.effectiveEnd (s : State) (k : KeyRec) (d : Door) : Nat :=
  match kindOfRights k.rights, d.place with
  | .guest, .room r => s.boundedEnd k r + s.settings.grace
  | .guest, .minibar r => s.boundedEnd k r
  | _, _ => k.stop

/-- The deny reason at the effective end (R84). The model's own: for a GUEST key past its end at a MINIBAR door R19 names EXPIRED
and R84 STAY_ENDED, and R84 is followed (log entry 34). -/
def endReason (k : KeyRec) (d : Door) : DenyReason :=
  match kindOfRights k.rights, d.place with
  | .guest, .minibar _ => .stayEnded
  | _, _ => .expired

/-- Check 6 (R84). -/
def State.windowCheck (s : State) (k : KeyRec) (d : Door) : Option DenyReason :=
  if s.clock.minute < k.start then some .notYet
  else if s.effectiveEnd k d ≤ s.clock.minute then some (endReason k d)
  else none

/-- A staff schedule admits at the current weekday and minute of day (R7, R11). -/
def State.onSchedule (s : State) (schedule : Nat) : Bool :=
  (s.band schedule (weekdayOf s.settings.record s.clock.minute)).holds (minuteOfDay s.clock.minute)

/-- Check 7 at a ROOM door (R85, R86). -/
def State.roomDoorCheck (s : State) (k : KeyRec) (d : Door) (room : Nat) : Option DenyReason :=
  match k.rights with
  | .guest _ _ _ => if (k.genFor room).isNone then some .wrongRoom else none
  | .staff zones schedule _ =>
    if !maskHas zones d.zone then some .zoneDenied
    else if (s.room room).privacy then some .privacy
    else if !s.onSchedule schedule then some .offSchedule
    else none
  | .service zones _ =>
    if !maskHas zones d.zone then some .zoneDenied
    else if (s.room room).privacy then some .privacy
    else none
  | .emergency => none

/-- Check 7 at a ZONE door (R87). -/
def State.zoneDoorCheck (s : State) (k : KeyRec) (d : Door) : Option DenyReason :=
  let z := s.zone d.zone
  match k.rights with
  | .guest _ zones _ =>
    if z.lockdown then some .lockdown
    else if !maskHas zones d.zone then some .zoneDenied
    else if !(z.guestAllowed && z.band.holds (minuteOfDay s.clock.minute)) then some .zoneClosed
    else none
  | .staff zones schedule _ =>
    if z.lockdown then some .lockdown
    else if !maskHas zones d.zone then some .zoneDenied
    else if !s.onSchedule schedule then some .offSchedule
    else none
  | .service zones _ =>
    if z.lockdown then some .lockdown
    else if !maskHas zones d.zone then some .zoneDenied
    else none
  | .emergency => none

/-- Check 7 at a MINIBAR door, up to the session-open (R88): a denial, or the kind of session to open. -/
def State.minibarDoorCheck (s : State) (k : KeyRec) (d : Door) (room : Nat) : Except DenyReason SessionKind :=
  match k.rights with
  | .guest _ _ minibar =>
    if (k.genFor room).isNone then .error .wrongRoom
    else if !minibar then .error .noMinibar
    else .ok .guest
  | .staff zones schedule restock =>
    if !restock then .error .noMinibar
    else if !maskHas zones d.zone then .error .zoneDenied
    else if !s.onSchedule schedule then .error .offSchedule
    else .ok .restock
  | .service _ _ => .error .noMinibar
  | .emergency => .error .noMinibar

/-- Check 7 (R85 to R88). -/
def State.doorCheck (s : State) (k : KeyRec) (d : Door) : Decision :=
  match d.place with
  | .room r =>
    match s.roomDoorCheck k d r with
    | some reason => .deny reason (keyView (some k))
    | none => .grant k
  | .zone =>
    match s.zoneDoorCheck k d with
    | some reason => .deny reason (keyView (some k))
    | none => .grant k
  | .minibar r =>
    match s.minibarDoorCheck k d r with
    | .error reason => .deny reason (keyView (some k))
    | .ok kind => .session r kind

/-- Checks 5 to 7 (R83 to R88). -/
def State.keyDecision (s : State) (c : Card) : Decision :=
  if Config.keys ≤ c.key then .deny .unknownKey .notRead
  else
    match s.key c.key with
    | none => .deny .unknownKey .free
    | some k =>
      match keyCheck k c with
      | some reason => .deny reason (keyView (some k))
      | none =>
        match s.windowCheck k (s.door c.door) with
        | some reason => .deny reason (keyView (some k))
        | none => s.doorCheck k (s.door c.door)

/-- The checks of R79 made within the presentation operation. -/
def State.decision (s : State) (c : Card) : Decision :=
  if s.settings.service ≠ .inService then .deny .notInService .notRead
  else if Config.doors ≤ c.door ∨ (s.door c.door).enabled = false then .deny .doorDisabled .notRead
  else if !s.siteMatches c then .deny .wrongSite .notRead
  else if (s.watched c.serial).isSome then .deny .revoked .notRead
  else s.keyDecision c

/-! ### Verdicts (R90 to R96) -/

/-- The evaluator is free again. -/
def State.evalDone (s : State) : State := { s with eval := { s.eval with op := none } }

/-- Offers a record of the Access Evaluator with the M and S of its operation. -/
def State.evalOffer (s : State) (minute second : Nat) (b : RecBody) : State := s.offerAt .accessEvaluator minute second b

/-- The reply fields of a DENY (R92); 00h stands for no unlock, FFh for an absent field. -/
def denyFields (c : Card) (reason : DenyReason) (coalesced : Bool) : List Field :=
  [.num 2 c.door, .num 1 1, .num 1 (denyCode reason), .num 1 0, .num 2 c.key, .flag false, optField 1 none, optField 1 none,
   .flag coalesced]

/-- A denial is coalesced (R94). -/
def Door.coalesces (d : Door) (serial stamp : Nat) (reason : DenyReason) : Bool :=
  match d.memory with
  | none => false
  | some m =>
    reason != .revoked && m.serial == serial && m.reason == reason && decide (m.stamp ≤ stamp) && decide (stamp ≤ m.stamp + 3)

/-- The records of a denial that is not coalesced, with the watch hit of a REVOKED one (R82, R93). -/
def State.denyRecords (s : State) (c : Card) (minute second : Nat) (reason : DenyReason) (view : KeyView) (repeats : Nat) : State :=
  let s1 := s.evalOffer minute second (.deny c.door c.serial c.key c.stamp reason view repeats)
  if reason = .revoked then
    match s.watched c.serial with
    | some e => (s1.evalOffer minute second (.security (.watchHit c.door c.serial c.key e.reason e.untilMinute 0))).raise .watchHit
    | none => s1
  else s1

/-- The repeat memory a denial leaves (R95). -/
def Card.memoryOf (c : Card) (stamp : Nat) (reason : DenyReason) : RepeatMemory :=
  { serial := c.serial, reason := reason, stamp := stamp }

/-- A DENY verdict: coalescing, records, reply (R80, R92 to R96). -/
def State.deny (s : State) (c : Card) (minute second : Nat) (reason : DenyReason) (view : KeyView) : State :=
  let stamp := stampOf minute second
  let d := s.door c.door
  if Config.doors ≤ c.door then
    ((s.denyRecords c minute second reason view 0).evalDone).answer .lock .ok (denyFields c reason false)
  else if d.coalesces c.serial stamp reason then
    ((s.setDoor c.door
      { d with memory := some (c.memoryOf stamp reason), repeats := min (d.repeats + 1) 255 }).evalDone).answer .lock .ok
      (denyFields c reason true)
  else
    (((s.setDoor c.door { d with memory := some (c.memoryOf stamp reason), repeats := 0 }).denyRecords c minute second reason
      view d.repeats).evalDone).answer .lock .ok (denyFields c reason false)

/-- The unlock seconds of a GRANT (R91). -/
def Door.unlockSeconds (d : Door) : Nat := if d.unlock = 0 then 5 else d.unlock

/-- A GRANT verdict, its effect made before (R90): record and reply (R92, R93, R95, R96). -/
def State.grant (s : State) (c : Card) (minute second : Nat) (kind : KeyKind) (advance : Bool) (uses : Option Nat)
    (outcome : Option SessionOutcome) : State :=
  let d := s.door c.door
  let s1 := (s.setDoor c.door { d with memory := none, repeats := 0 }).evalOffer minute second
    (.grant c.door d.place c.key kind c.serial d.unlockSeconds advance uses outcome d.repeats)
  s1.evalDone.answer .lock .ok
    [.num 2 c.door, .num 1 0, .num 1 0, .num 1 d.unlockSeconds, .num 2 c.key, .flag advance,
     optField 1 (outcome.map outcomeCode), optField 1 uses, .flag false]

/-- The grant of a presentation decided within its operation, with its effect on the key and the room (R86, R90). -/
def State.grantKey (s : State) (c : Card) (k : KeyRec) : State :=
  let m := s.clock.minute
  let x := s.clock.second
  match k.rights, (s.door c.door).place with
  | .guest _ _ _, .room r =>
    let g := (k.genFor r).getD 0#8
    let d := genDistance g (s.room r).cg
    if 1 ≤ d ∧ d ≤ 127 then (s.advance r c.key g).grant c m x .guest true none none
    else s.grant c m x .guest false none none
  | .service zones uses, _ =>
    let (s1, left) := s.useKey c.key k zones uses
    s1.grant c m x .service false (some left) none
  | rights, _ => s.grant c m x (kindOfRights rights) false none none

/-- The fields of a PRESENT (R77): door, serial, site number, wing, key number, issue stamp. -/
def cardOf (fs : List Byte) : Card :=
  { door := fieldAt fs 0 2, serial := fieldAt fs 2 4, site := fieldAt fs 6 2, wing := fieldAt fs 8 1, key := fieldAt fs 9 2,
    stamp := fieldAt fs 11 2 }

/-- PRESENT (R77, step 1). -/
def execPresent (s : State) : Result :=
  .next (s.serveEval .lock .present fun fs s =>
    { s with eval := { s.eval with op := some (.present (cardOf fs)) } }.markTaken .lock)

/-- The presentation operation as the Credential Manager takes it (R78, R79). -/
def State.present (s : State) (c : Card) : State :=
  match s.decision c with
  | .deny reason view => s.deny c s.clock.minute s.clock.second reason view
  | .grant k => s.grantKey c k
  | .session room kind =>
    { s with eval := { s.eval with op := some (.sessionOpen c room kind s.clock.minute s.clock.second) } }

/-- PRESENTATION_OPERATION (R39, R78 to R96). -/
def execPresentationOperation (s : State) : Result :=
  .next (match s.eval.op with
    | some (.present c) => if s.powered && s.cred.op.isNone then s.present c else s
    | _ => s)

/-- Answers to a session-open (R89). -/
inductive SessionAnswer where
  | closed
  | locked
  | kept
  | opened
  | full
  deriving DecidableEq, Repr

/-- The answer to a session-open: the first case of R89 that applies. -/
def State.sessionAnswer (s : State) (door room : Nat) (kind : SessionKind) : SessionAnswer :=
  let t := s.tally room
  if !t.isOpen then .closed
  else if kind == .guest && t.atLimit then .locked
  else if (s.session door).isSome then .kept
  else if s.mini.sessions.length < Config.sessions then .opened
  else .full

/-- The key kind that a session-open stands for (R88). -/
def keyKindOf : SessionKind → KeyKind
  | .guest => .guest
  | .restock => .staff

/-- The session-open is answered and the verdict completed (R89, R90). -/
def State.openSession (s : State) (c : Card) (room : Nat) (kind : SessionKind) (minute second : Nat) : State :=
  let stamp := stampOf minute second
  match s.sessionAnswer c.door room kind with
  | .closed => s.deny c minute second .stayEnded .live
  | .locked => s.deny c minute second .minibarLocked .live
  | .kept => (s.touch c.door stamp).grant c minute second (keyKindOf kind) false none (some .kept)
  | .opened =>
    ((s.setSession c.door
      (some { kind := kind, room := room, key := c.key, opened := stamp, active := stamp, lines := [] })).offerAt .minibarUnit
        minute second (.sessionOpen c.door room kind c.key stamp)).grant c minute second (keyKindOf kind) false none
          (some .opened)
  | .full => s.deny c minute second .sessionsFull .live

/-- SESSION_OPEN (R89). -/
def execSessionOpen (s : State) : Result :=
  .next (match s.eval.op with
    | some (.sessionOpen c room kind minute second) => if s.powered then s.openSession c room kind minute second else s
    | _ => s)

/-! ### Door reports (R74 to R76) -/

/-- A DOOR_REPORT whose code is `a`, or is no report code at all (R74, log entry 17). -/
def State.serveDoorReport (s : State) (a : Nat) (body : Nat → State → State) : State :=
  let code := fieldAt ((s.serving .lock .doorReport).getD []) 2 1
  s.serveFrom .lock .doorReport (s.eval.op.isNone && (code == a || decide (4 < code))) s fun fs s =>
    let door := fieldAt fs 0 2
    if Config.doors ≤ door ∨ 4 < fieldAt fs 2 1 then s.answer .lock .badField []
    else body door s

/-- The reply to a condition report: the door's condition after it (R74). -/
def State.answerCondition (s : State) (door : Nat) : State :=
  s.answer .lock .ok [.num 1 (conditionCode (s.door door).condition)]

/-- A condition report that moves the condition with a DOOR_CONDITION record (R75, R96). -/
def State.moveCondition (s : State) (door : Nat) (new : Condition) : State :=
  let d := s.door door
  (s.setDoor door { d with condition := new, repeats := 0 }).evalOffer s.clock.minute s.clock.second
    (.doorCondition door d.condition new d.repeats)

/-- A FORCED report that moves the condition (R75, R96). -/
def State.forceDoor (s : State) (door : Nat) : State :=
  let d := s.door door
  ((s.setDoor door { d with condition := .forced, repeats := 0 }).evalOffer s.clock.minute s.clock.second
    (.security (.forcedDoor door d.condition .forced d.repeats))).raise .doorForced

/-- DOOR_REPORT CLOSED (R75). -/
def execDoorReportClosed (s : State) : Result :=
  .next (s.serveDoorReport 0 fun door s =>
    (if (s.door door).condition = .closed then s else s.moveCondition door .closed).answerCondition door)

/-- DOOR_REPORT HELD_OPEN (R75). -/
def execDoorReportHeldOpen (s : State) : Result :=
  .next (s.serveDoorReport 1 fun door s =>
    (if (s.door door).condition = .closed then s.moveCondition door .heldOpen else s).answerCondition door)

/-- DOOR_REPORT FORCED (R75). -/
def execDoorReportForced (s : State) : Result :=
  .next (s.serveDoorReport 2 fun door s =>
    (if (s.door door).condition = .forced then s else s.forceDoor door).answerCondition door)

/-- A privacy report: handed to the Credential Manager from an enabled ROOM door, ignored from any other (R76). -/
def State.reportPrivacy (s : State) (door : Nat) (on : Bool) : State :=
  match (s.door door).place, (s.door door).enabled with
  | .room r, true => { s with eval := { s.eval with op := some (.privacy door r on) } }.markTaken .lock
  | _, _ => s.answer .lock .ok [.num 1 (conditionCode (s.door door).condition), .flag true]

/-- DOOR_REPORT PRIVACY_ON (R76). -/
def execDoorReportPrivacyOn (s : State) : Result := .next (s.serveDoorReport 3 fun door s => s.reportPrivacy door true)

/-- DOOR_REPORT PRIVACY_OFF (R76). -/
def execDoorReportPrivacyOff (s : State) : Result := .next (s.serveDoorReport 4 fun door s => s.reportPrivacy door false)

/-! ### Door records (R71 to R73) -/

/-- The door kind and room index that a DOOR_SET names; none for a kind that R71 refuses. -/
def placeOf (kind room : Nat) : Option DoorPlace :=
  match kind with
  | 0 => some (.room room)
  | 1 => some .zone
  | 2 => some (.minibar room)
  | _ => none

/-- Another door is of kind MINIBAR for a room (check 7 of R71). -/
def State.minibarElsewhere (s : State) (door room : Nat) : Bool :=
  s.eval.doors.any fun p => p.1 != door && p.2.place == .minibar room

/-- Checks 1 to 7 of R71: the refusal, or the fields with the unlock seconds clamped. The fields are door, kind, room index,
zone, enabled, unlock seconds. -/
def State.doorSetCheck (s : State) (fs : List Byte) : Except Status DoorSet :=
  let door := fieldAt fs 0 2
  let room := fieldAt fs 3 2
  let zone := fieldAt fs 5 1
  let enabled := fieldAt fs 6 1
  if s.settings.service = .unprovisioned then .error .notReady
  else if Config.doors ≤ door then .error .badField
  else
    match placeOf (fieldAt fs 2 1) room with
    | none => .error .badField
    | some place =>
      if place ≠ .zone ∧ Config.rooms ≤ room then .error .badField
      else if 15 < zone then .error .badField
      else if 1 < enabled then .error .badField
      else if place = .minibar room ∧ s.minibarElsewhere door room = true then .error .doorConflict
      else .ok { door := door, place := place, zone := zone, enabled := enabled == 1, unlock := min (fieldAt fs 7 1) 30 }

/-- An accepted DOOR_SET writes the door record; condition, repeat memory and counter stay (R72). -/
def State.writeDoor (s : State) (d : DoorSet) : State :=
  s.setDoor d.door { s.door d.door with place := d.place, zone := d.zone, enabled := d.enabled, unlock := d.unlock }

/-- A DOOR_SET is complete: its reply (R72). The model's own: the stored fields of the door are the five that the request writes,
without condition, repeat memory and repeat counter (log entry 14). -/
def State.doorSetDone (s : State) (d : DoorSet) (closed : Bool) : State :=
  s.evalDone.answer .desk .ok
    [.num 1 (doorKindCode d.place), optField 2 (doorRoom d.place), .num 1 d.zone, .flag d.enabled, .num 1 d.unlock, .flag closed]

/-- The evaluator goes on with an operation. -/
def State.evalGo (s : State) (o : EvalOp) : State := { s with eval := { s.eval with op := some o } }

/-- A DOOR_SET that passed checks 1 to 7 is begun: what it hands to the Minibar Accounting Unit (R71, R72). -/
def State.beginDoorSet (s : State) (d : DoorSet) : State :=
  match (s.door d.door).place, d.place with
  | .minibar r, place =>
    if place = .minibar r then
      if !d.enabled && (s.session d.door).isSome then ((s.writeDoor d).evalGo (.doorClose d)).markTaken .desk
      else (s.writeDoor d).doorSetDone d false
    else (s.evalGo (.doorRelease d r)).markTaken .desk
  | _, .minibar r => ((s.writeDoor d).evalGo (.doorAssign d r)).markTaken .desk
  | _, _ => (s.writeDoor d).doorSetDone d false

/-- DOOR_SET (R71, R72). -/
def execDoorSet (s : State) : Result :=
  .next (s.serveEval .desk .doorSet fun fs s =>
    match s.doorSetCheck fs with
    | .error st => s.answer .desk st []
    | .ok d => s.beginDoorSet d)

/-- The minibar door assignment of a DOOR_SET (R108). -/
def State.assignDoor (s : State) (d : DoorSet) (room : Nat) : State :=
  (s.setTally room { s.tally room with door := some d.door }).doorSetDone d false

/-- MINIBAR_DOOR_ASSIGNMENT (R108). -/
def execMinibarDoorAssignment (s : State) : Result :=
  .next (match s.eval.op with
    | some (.doorAssign d room) => if s.powered then s.assignDoor d room else s
    | _ => s)

/-- The minibar release of a DOOR_SET: BUSY while a session is open on the door, else done, and the DOOR_SET goes on (R108, R71,
R72). -/
def State.releaseDoor (s : State) (d : DoorSet) (room : Nat) : State :=
  if (s.session d.door).isSome then s.evalDone.answer .desk .doorBusy []
  else
    let s1 := (s.setTally room { s.tally room with door := none }).writeDoor d
    match d.place with
    | .minibar r => s1.evalGo (.doorAssign d r)
    | _ => s1.doorSetDone d false

/-- MINIBAR_RELEASE (R108). -/
def execMinibarRelease (s : State) : Result :=
  .next (match s.eval.op with
    | some (.doorRelease d room) => if s.powered then s.releaseDoor d room else s
    | _ => s)

/-- The session-close of a DOOR_SET (R108). -/
def State.closeDoorSession (s : State) (d : DoorSet) : State :=
  (s.closeSession d.door .doorDisabled).doorSetDone d (s.session d.door).isSome

/-- DOOR_SET_SESSION_CLOSE (R108). -/
def execDoorSetSessionClose (s : State) : Result :=
  .next (match s.eval.op with
    | some (.doorClose d) => if s.powered then s.closeDoorSession d else s
    | _ => s)

/-- The number of doors with a property; a door of the cold start has none of those of R73. -/
def State.countDoors (s : State) (f : Door → Bool) : Nat := (s.eval.doors.filter fun p => f p.2).length

/-- The fields of a DOOR_QUERY reply (R73). -/
def State.doorFields (s : State) (n : Nat) : List Field :=
  let d := s.door n
  [.num 1 (doorKindCode d.place), optField 2 (doorRoom d.place), .num 1 d.zone, .flag d.enabled, .num 1 d.unlock,
   .num 1 (conditionCode d.condition), optField 4 (d.memory.map RepeatMemory.serial),
   optField 1 (d.memory.map fun m => denyCode m.reason), optField 5 (d.memory.map RepeatMemory.stamp), .num 1 d.repeats,
   .num 2 (s.countDoors Door.enabled), .num 2 (s.countDoors fun d => d.condition == .heldOpen),
   .num 2 (s.countDoors fun d => d.condition == .forced)]

/-- DOOR_QUERY (R73). -/
def execDoorQuery (l : LinkId) (s : State) : Result :=
  .next (s.serveEval l .doorQuery fun fs s =>
    let door := fieldAt fs 0 2
    if Config.doors ≤ door then s.answer l .badField [] else s.answer l .ok (s.doorFields door))

end Sys2Proof.Machine
end

