-- ==== Sys2Proof/Machine/GroupOps.lean ====
section
/-! DEFINITION. Shared operations of the Group Issue Queue: the run's tests, its steps, its stops (chapter 6). -/

namespace Sys2Proof.Machine

/-- The copy count of an entry: 8 for a copies field of 0 (R126). -/
def GroupFields.copyCount (f : GroupFields) : Nat := if f.copies = 0 then 8 else f.copies

/-- The entry is checked in before its copies are issued (R126). -/
def GroupFields.checksIn (f : GroupFields) : Bool :=
  match f.mode with
  | .checkinIssue _ _ => true
  | .issueOnly => false

/-- An entry is complete (R126). -/
def GroupEntry.complete (e : GroupEntry) : Bool :=
  match e.fields with
  | none => false
  | some f => (e.checkedIn || !f.checksIn) && e.issued == f.copyCount

/-- The entry with no progress (R128, R130). -/
def GroupEntry.fresh (e : GroupEntry) : GroupEntry := { e with checkedIn := false, issued := 0 }

/-- The run is RUNNING or HALTING (section 6.5). -/
def Group.active (g : Group) : Bool := g.state == .running || g.state == .halting

/-- The state with the run at a phase. -/
def State.groupPhase (s : State) (p : GroupPhase) : State := { s with group := { s.group with phase := p } }

/-- A failed test or a refused step stops the run at next (R136). -/
def State.groupStop (s : State) (st : Status) (room : Option Nat) : State :=
  { s with group := { s.group with state := .stopped, stop := some (.refusal st room), abort := false, phase := .rest } }.raise
    .groupStopped

/-- The run stops at next for HALT or ABORT, with GROUP_HALTED (R135, R137). -/
def State.groupHalted (s : State) (r : StopReason) : State :=
  { s with group := { s.group with state := .stopped, stop := some r, phase := .rest } }.raise .groupHalted

/-- The run asks for the issue of a copy: it holds a reply place and hands the step, or waits (R133). -/
def State.groupAskPlace (s : State) : State :=
  if s.placeFree .desk then (s.groupPhase (.issueHanded true)).cmHand .group else s.groupPhase .waiting

/-- The tests of R131 and the choice of the next outstanding work. -/
def State.groupRun (s : State) : State :=
  let e := s.entry s.group.next
  if s.settings.service ≠ .inService then s.groupStop .notInService none
  else
    match e.fields with
    | none => s.groupStop .noSuch none
    | some f =>
      if f.checksIn && !e.checkedIn then (s.groupPhase .checkinHanded).cmHand .group
      else if e.issued < f.copyCount then s.groupAskPlace
      else s.groupPhase .boundary

/-- A run that waits for a reply place holds one that is free: it clears the waiting flag and makes its tests (R133, R131). -/
def State.groupHoldPlace (s : State) : State :=
  if s.group.phase = .waiting ∧ s.placeFree .desk = true then s.groupRun else s

/-- What follows an applied step: the boundary of a complete entry, a stop for a set abort flag, or the next work (R135, R137). -/
def State.groupAfterStep (s : State) : State :=
  if (s.entry s.group.next).complete then s.groupPhase .boundary
  else if s.group.abort then s.groupHalted .abort
  else s.groupRun

/-- A Desk fence, a Desk link reset and GROUP_HALT make a RUNNING run HALTING (R137, R138). -/
def State.groupHaltRun (s : State) : State :=
  if s.group.state = .running then { s with group := { s.group with state := .halting } } else s

/-- The issue that a copy of an entry asks for (R134). -/
def copyOrder (entry : Nat) (e : GroupEntry) (f : GroupFields) : IssueOrder :=
  { rights := .guest (if f.gen = .new ∧ e.issued = 0 then .new else .copy) f.rooms f.zones f.minibar
    start := f.keyStart
    stop := f.keyEnd
    origin := .group entry (e.issued + 1) }

/-- The CARD_IMAGE reply of a copy (R133, R205). -/
def cardImageReply (tag : Option Byte) (entry copy : Nat) (image : List Byte) : Reply :=
  replyRecord (tag.getD 0#8) .ok cardImageCode (bigEndian 1 entry ++ bigEndian 1 copy ++ image)

/-- The Desk request in progress has its first reply record placed and others to place (R205). -/
def State.deskPlacing (s : State) : Bool := s.desk.inProgress.elim false Request.answered

/-- A CARD_IMAGE reply takes the run's held place, at the end of the Desk reply queue, and the run goes on (R133, R135). -/
def State.placeImage (s : State) (image : Reply) : State :=
  { s.groupPhase .rest with desk := { s.desk with replies := s.desk.replies ++ [image] } }.groupAfterStep

/-- The issue step of a copy is applied or refused (R134, R133). The model's own reading of R133 beside R195: while a Desk reply
of several reply records is being placed, the CARD_IMAGE stays in the held place, so that the records of one reply stand
together, and the run goes on once it is queued (log entry 37). -/
def State.groupIssue (s : State) (held : Bool) : State :=
  let n := s.group.next
  let e := s.entry n
  match e.fields with
  | none => s.groupStop .noSuch none
  | some f =>
    match s.issueCheck (copyOrder n e f) with
    | .refused st room => s.groupStop st room
    | .accepted key k reused =>
      let s1 := s.issueApply (copyOrder n e f) key k reused
      let s2 := s1.setEntry n { e with issued := e.issued + 1 }
      let image := cardImageReply s.group.startTag n (e.issued + 1) (s1.imageOf key k)
      if !held then (s2.groupPhase .rest).groupAfterStep
      else if s2.deskPlacing then s2.groupPhase (.imageHeld image)
      else s2.placeImage image

/-- The test phase of a group check-in step: the first room that fails, with its refusal (R30). -/
def State.checkInTest (s : State) (stayEnd : Nat) : List Nat → Option (Status × Nat)
  | [] => none
  | r :: rest =>
    match s.checkInRefusal r stayEnd with
    | some st => some (st, r)
    | none => s.checkInTest stayEnd rest

/-- The check-in step is taken: refused in its test phase, or in progress (R132, R30). -/
def State.groupCheckIn (s : State) : State :=
  let n := s.group.next
  match (s.entry n).fields with
  | none => s.groupStop .noSuch none
  | some f =>
    match f.mode with
    | .issueOnly => s
    | .checkinIssue stayEnd limit =>
      match s.checkInTest stayEnd f.rooms with
      | some (st, r) => s.groupStop st (some r)
      | none => s.beginCheckIn (.group n) f.rooms stayEnd limit

/-- The entry boundary (R135). -/
def State.groupBoundary (s : State) : State :=
  let g := s.group
  let g1 := { g with done := some g.next, phase := .rest }
  if g.next = g.last then
    { s with group := { g1 with state := .idle, redirect := false, abort := false } }.raise .groupDone
  else
    let g2 := if g.redirect then { g1 with next := g.first, redirect := false } else { g1 with next := (g.next + 1) % 16 }
    let s1 := { s with group := g2 }
    if g.abort then s1.groupHalted .abort
    else if g.state = .halting then s1.groupHalted .halt
    else s1.groupRun

end Sys2Proof.Machine
end

