-- ==== Sys2Proof/Machine/Keys.lean ====
section
/-! DEFINITION. Meanings of the commands on keys, the Watch List and the emergency allowance (chapter 3). -/

namespace Sys2Proof.Machine

/-- The `n` two-byte room indices at an offset of a field area. -/
def roomsAt (fs : List Byte) (o n : Nat) : List Nat := (List.range n).map fun i => fieldAt fs (o + 2 * i) 2

/-- A room count and list that R50 and R128 refuse: none or above 4, an index above 511, or an index twice. -/
def badRoomList (count : Nat) (rooms : List Nat) : Bool :=
  count == 0 || decide (4 < count) || rooms.any (fun r => decide (Config.rooms ≤ r)) || decide (¬ rooms.Nodup)

/-- The generation mode a code names (R50). -/
def genModeOf : Nat → Option GenMode
  | 0 => some .new
  | 1 => some .copy
  | _ => none

/-- Checks 2 and 3 of R49: the order that the fields of an ISSUE_KEY make, or none when they are refused BAD_FIELD. The fields
are kind, mode, room count, four rooms, start, end, zone set, schedule, uses, minibar right, restock right. -/
def issueOrderOf (fs : List Byte) : Option IssueOrder :=
  let count := fieldAt fs 2 1
  let rooms := roomsAt fs 3 (min count 4)
  let start := fieldAt fs 11 4
  let stop := fieldAt fs 15 4
  let zones := BitVec.ofNat 16 (fieldAt fs 19 2)
  let schedule := fieldAt fs 21 1
  let uses := fieldAt fs 22 1
  let minibar := fieldAt fs 23 1
  let restock := fieldAt fs 24 1
  let order := fun (r : IssueRights) => some ({ rights := r, start := start, stop := stop, origin := .desk } : IssueOrder)
  match fieldAt fs 0 1 with
  | 0 =>
    match genModeOf (fieldAt fs 1 1) with
    | none => none
    | some mode => if badRoomList count rooms || decide (1 < minibar) then none else order (.guest mode rooms zones (minibar == 1))
  | 1 => if count ≠ 0 ∨ 15 < schedule ∨ 1 < restock then none else order (.staff zones schedule (restock == 1))
  | 2 => if count ≠ 0 ∨ uses = 0 then none else order (.service zones uses)
  | 3 => if count ≠ 0 then none else order .emergency
  | _ => none

/-- The fields of an OK reply to ISSUE_KEY (R54). -/
def issueFields (n : Nat) (k : KeyRec) (image : List Byte) : List Field :=
  [.num 2 n, .raw image, .num 4 (match k.status with | .pending d => d | _ => 0), .num 4 k.start, .num 4 k.stop] ++
    (match k.rights with
      | .guest es _ _ => [listField Config.entriesPerKey 3 (es.map entryBytes)]
      | _ => [])

/-- ISSUE_KEY (R49 to R54). -/
def execIssueKey (s : State) : Result :=
  .next (s.serveCm .desk .issueKey fun fs s =>
    if s.settings.service ≠ .inService then s.answer .desk .notInService []
    else
      match issueOrderOf fs with
      | none => s.answer .desk .badField []
      | some o =>
        match s.issueCheck o with
        | .refused st room => s.answer .desk st (match room with | some r => [.num 2 r] | none => [])
        | .accepted n k reused =>
          let s1 := s.issueApply o n k reused
          s1.answer .desk .ok (issueFields n k (s1.imageOf n k)))

/-- Checks 1 and 2 of a request that names a key: the service state and the key number (R56, R58, R59). -/
def State.keyRefusal (s : State) (n : Nat) : Option Status :=
  if s.settings.service = .unprovisioned then some .notReady
  else if Config.keys ≤ n then some .badField
  else none

/-- A key that is PENDING. -/
def State.pendingKey (s : State) (n : Nat) : Option KeyRec :=
  (s.key n).bind fun k => match k.status with | .pending _ => some k | _ => none

/-- A key that is PENDING or LIVE. -/
def State.activeKey (s : State) (n : Nat) : Option KeyRec :=
  (s.key n).bind fun k => match k.status with | .cancelled _ _ _ => none | _ => some k

/-- The refusals of a CONFIRM_ENCODE of a PENDING key (R56). -/
def State.confirmRefusal (s : State) (serial : Nat) : Option Status :=
  if serial = 0 then some .badField
  else if (s.liveKeyOf serial).isSome then some .serialInUse
  else if (s.watched serial).isSome then some .serialWatched
  else none

/-- CONFIRM_ENCODE (R56). -/
def execConfirmEncode (s : State) : Result :=
  .next (s.serveCm .desk .confirmEncode fun fs s =>
    let n := fieldAt fs 0 2
    let serial := fieldAt fs 2 4
    match s.keyRefusal n with
    | some st => s.answer .desk st []
    | none =>
      match s.pendingKey n with
      | none => s.answer .desk .keyState []
      | some k =>
        match s.confirmRefusal serial with
        | some st => s.answer .desk st []
        | none =>
          ((s.setKey n (some { k with status := .live serial })).credOffer (.keyEncoded n serial)).answer .desk .ok
            [.num 2 n, .num 4 serial, .num 4 k.start, .num 4 k.stop])

/-- CANCEL_KEY (R58). -/
def execCancelKey (s : State) : Result :=
  .next (s.serveCm .desk .cancelKey fun fs s =>
    let n := fieldAt fs 0 2
    match s.keyRefusal n with
    | some st => s.answer .desk st []
    | none =>
      match s.activeKey n with
      | none => s.answer .desk .keyState []
      | some k =>
        if k.serial.isSome then
          ((s.cancelKey n k .desk).credOffer (.keyCancelled n .desk false)).answer .desk .ok [.num 1 (keyViewCode .cancelled)]
        else ((s.freeKey n k).credOffer (.keyCancelled n .desk true)).answer .desk .ok [.num 1 (keyViewCode .free)])

/-- The watch until-minute of a lost card (R59). -/
def lostUntil (k : KeyRec) : Nat := min (k.stop + 10080) Config.maxMinute

/-- REPORT_LOST (R59). -/
def execReportLost (s : State) : Result :=
  .next (s.serveCm .desk .reportLost fun fs s =>
    let n := fieldAt fs 0 2
    match s.keyRefusal n with
    | some st => s.answer .desk st []
    | none =>
      match s.activeKey n with
      | none => s.answer .desk .keyState []
      | some k =>
        let s1 := (s.cancelKey n k .lost).credOffer (.keyCancelled n .lost false)
        let plan := k.serial.map fun x => s1.watchPlan x (lostUntil k)
        let s2 := match k.serial with
          | some x => s1.watchAdd x (lostUntil k) .lost
          | none => s1
        s2.answer .desk .ok
          ([.num 1 (keyViewCode .cancelled), .flag k.serial.isSome, .num 1 (lostOutcomeCode plan)] ++
            (plan.map evictedFields).getD []))

/-- The number of keys of the table in each state (R61). -/
def State.countKeys (s : State) (v : KeyView) : Nat :=
  if v = .free then Config.keys - s.cred.keys.length else (s.cred.keys.filter fun p => keyView p.2 == v).length

/-- The four counts of a KEY_QUERY reply (R61). -/
def State.keyCounts (s : State) : List Field :=
  [.num 2 (s.countKeys .free), .num 2 (s.countKeys .pending), .num 2 (s.countKeys .live), .num 2 (s.countKeys .cancelled)]

/-- The fields of a key's rights, in the order of R42; for each room entry, whether the key is on that room's list (R61). -/
def State.rightsFields (s : State) (n : Nat) : KeyRights → List Field
  | .guest es zones minibar =>
    [listField Config.entriesPerKey 3 (es.map entryBytes), .num 2 zones.toNat, .flag minibar] ++
      es.map fun e => .flag ((s.room e.room).keyList.contains n)
  | .staff zones schedule restock => [.num 2 zones.toNat, .num 1 schedule, .flag restock]
  | .service zones uses => [.num 2 zones.toNat, .num 1 uses]
  | .emergency => []

/-- The fields that a key's state carries, in the order of R42. The model's own: a CANCELLED key that was never LIVE keeps the
place of its bound serial, filled with FFh (log entry 14). -/
def statusFields : KeyStatus → List Field
  | .pending deadline => [.num 4 deadline]
  | .live serial => [.num 4 serial]
  | .cancelled reason minute serial => [optField 4 serial, .num 1 (cancelCode reason), .num 4 minute]

/-- The four fields of a key's card image: site number, wing, key number, issue stamp (R48, R206). -/
def State.imageFields (s : State) (n : Nat) (k : KeyRec) : List Field :=
  [optField 2 (s.settings.record.map SiteRecord.number), optField 1 (s.settings.record.map SiteRecord.wing), .num 2 n,
   .num 2 (issueStamp k)]

/-- The fields of a KEY_QUERY reply (R61, R48). The model's own: the four fields of the card image stand together, in the order
of R48, at the place of the issue stamp, and a key without a group origin keeps that field's place, FFh (log entry 14). -/
def State.keyFields (s : State) (n : Nat) : List Field :=
  match s.key n with
  | none => .num 1 (keyViewCode .free) :: s.keyCounts
  | some k =>
    [.num 1 (keyViewCode (keyView (some k))), .num 1 (keyKindCode (kindOfRights k.rights)), .num 4 k.issued] ++
      s.imageFields n k ++ [.num 4 k.start, .num 4 k.stop] ++ s.rightsFields n k.rights ++ statusFields k.status ++
      [optField 1 k.origin] ++ s.keyCounts

/-- KEY_QUERY (R61). -/
def execKeyQuery (l : LinkId) (s : State) : Result :=
  .next (s.serveCm l .keyQuery fun fs s =>
    let n := fieldAt fs 0 2
    if Config.keys ≤ n then s.answer l .badField [] else s.answer l .ok (s.keyFields n))

/-- The refusal of a WATCH_ADD (R65). -/
def State.watchAddRefusal (s : State) (serial u : Nat) : Option Status :=
  if s.settings.service = .unprovisioned then some .notReady
  else if serial = 0 then some .badField
  else if u ≤ s.clock.minute then some .badField
  else if s.watchPlan serial u = .full then some .watchFull
  else none

/-- WATCH_ADD (R65). -/
def execWatchAdd (s : State) : Result :=
  .next (s.serveCm .desk .watchAdd fun fs s =>
    let serial := fieldAt fs 0 4
    let u := fieldAt fs 4 4
    match s.watchAddRefusal serial u with
    | some st => s.answer .desk st []
    | none =>
      let live := s.liveKeyOf serial
      let s1 := match live with
        | some (n, k) => (s.cancelKey n k .lost).credOffer (.keyCancelled n .lost false)
        | none => s
      let reason : WatchReason := if live.isSome then .lost else .desk
      let plan := s.watchPlan serial u
      (s1.watchAdd serial u reason).answer .desk .ok
        ([.num 1 (addOutcomeCode plan)] ++ evictedFields plan ++
          [.num 4 u, .num 1 (watchReasonCode reason), optField 2 (live.map Prod.fst)]))

/-- WATCH_REMOVE (R66). -/
def execWatchRemove (s : State) : Result :=
  .next (s.serveCm .desk .watchRemove fun fs s =>
    let serial := fieldAt fs 0 4
    if s.settings.service = .unprovisioned then s.answer .desk .notReady []
    else if serial = 0 then s.answer .desk .badField []
    else
      match s.watched serial with
      | none => s.answer .desk .noSuch []
      | some e =>
        ((s.setWatch (s.cred.watch.filter fun x => x.serial != serial)).credOffer
          (.watchChange (.removed serial e.reason))).answer .desk .ok [.num 4 e.untilMinute, .num 1 (watchReasonCode e.reason)])

/-- WATCH_QUERY (R67). -/
def execWatchQuery (l : LinkId) (s : State) : Result :=
  .next (s.serveCm l .watchQuery fun fs s =>
    let serial := fieldAt fs 0 4
    s.answer l .ok
      ([.num 2 s.cred.watch.length, optField 4 ((watchEarliest s.cred.watch).map WatchEntry.untilMinute)] ++
        (match watchFind serial 0 s.cred.watch with
          | none => [.flag false]
          | some (i, e) => [.flag true, .num 1 i, .num 4 e.untilMinute, .num 1 (watchReasonCode e.reason)])))

/-- A value clamped to a range. -/
def clampTo (low high n : Nat) : Nat := max low (min n high)

/-- EMERGENCY_ALLOW (R68). -/
def execEmergencyAllow (s : State) : Result :=
  .next (s.serveCm .audit .emergencyAllow fun fs s =>
    if s.settings.service = .unprovisioned then s.answer .audit .notReady []
    else
      let count := clampTo 1 4 (fieldAt fs 0 1)
      let deadline := min (s.clock.minute + clampTo 1 60 (fieldAt fs 1 1)) Config.maxMinute
      ({ s with cred := { s.cred with allowance := count, allowanceDeadline := deadline } }.credOffer
        (.security (.allowanceGranted count deadline))).answer .audit .ok [.num 1 count, .num 4 deadline])

end Sys2Proof.Machine
end

