-- ==== Sys2Proof/Machine/GroupQueue.lean ====
section
/-! DEFINITION. Meanings of the commands of the Group Issue Queue (chapter 6). -/

namespace Sys2Proof.Machine

/-- The fields that a GROUP_LOAD writes (R126, R128), or none when checks 3 to 6 refuse them. After the entry index stand mode,
room count, four rooms, stay end, credit limit, copies, generation mode, key start, key end, zone set, minibar right. -/
def groupFieldsOf (fs : List Byte) : Option GroupFields :=
  let count := fieldAt fs 2 1
  let rooms := roomsAt fs 3 (min count 4)
  let stayEnd := fieldAt fs 11 4
  let mode : Option GroupMode :=
    match fieldAt fs 1 1 with
    | 0 => if stayEnd = 0 then none else some (.checkinIssue stayEnd (min (fieldAt fs 15 3) Config.maxTally))
    | 1 => some .issueOnly
    | _ => none
  match mode, genModeOf (fieldAt fs 19 1) with
  | some mode, some gen =>
    if badRoomList count rooms || decide (7 < fieldAt fs 18 1) || decide (1 < fieldAt fs 30 1) then none
    else
      some
        { mode := mode, rooms := rooms, copies := fieldAt fs 18 1, gen := gen, keyStart := fieldAt fs 20 4,
          keyEnd := fieldAt fs 24 4, zones := BitVec.ofNat 16 (fieldAt fs 28 2), minibar := fieldAt fs 30 1 == 1 }
  | _, _ => none

/-- The credit limit of an entry, read in CHECKIN_ISSUE only (R126). -/
def groupLimit : GroupMode → Option Nat
  | .checkinIssue _ limit => some limit
  | .issueOnly => none

/-- GROUP_LOAD (R128). -/
def execGroupLoad (s : State) : Result :=
  .next (s.serve .desk .groupLoad fun fs s =>
    let entry := fieldAt fs 0 1
    if s.settings.service = .unprovisioned then s.answer .desk .notReady []
    else if 15 < entry then s.answer .desk .badField []
    else
      match groupFieldsOf fs with
      | none => s.answer .desk .badField []
      | some f =>
        if s.group.active && entry == s.group.next then (s.raise .groupCollision).answer .desk .collision []
        else
          (s.setEntry entry { fields := some f, checkedIn := false, issued := 0 }).answer .desk .ok
            [.num 1 entry, optField 3 (groupLimit f.mode)])

/-- GROUP_POINT (R129). -/
def execGroupPoint (s : State) : Result :=
  .next (s.serve .desk .groupPoint fun fs s =>
    let first := fieldAt fs 0 1
    let last := fieldAt fs 1 1
    if s.settings.service = .unprovisioned then s.answer .desk .notReady []
    else if 15 < first ∨ 15 < last then s.answer .desk .badField []
    else
      let g := { s.group with first := first, last := last, redirect := s.group.redirect || s.group.state != .idle }
      { s with group := g }.answer .desk .ok
        [.num 1 g.first, .num 1 g.last, .num 1 g.next, .num 1 (groupStateCode g.state), .flag g.redirect])

/-- Every entry's progress is cleared (R130). -/
def State.clearProgress (s : State) : State :=
  (List.range Config.groupEntries).foldl (fun s n => s.setEntry n (s.entry n).fresh) s

/-- The tag of the Desk request in progress. -/
def State.deskTag (s : State) : Option Byte := s.desk.inProgress.map Request.tag

/-- The reply fields of GROUP_START (R130). -/
def State.startFields (s : State) (resumed : Bool) : List Field :=
  [.num 1 s.group.next, .num 1 s.group.first, .num 1 s.group.last, .flag resumed]

/-- GROUP_START of a new run (R130). -/
def State.startNew (s : State) : State :=
  let s1 := s.clearProgress
  let s2 :=
    { s1 with
      group :=
        { s1.group with
          state := .running, next := s1.group.first, redirect := false, abort := false, stop := none, startTag := s.deskTag
          phase := .rest } }
  (s2.answer .desk .ok (s2.startFields false)).groupRun

/-- GROUP_START that resumes a STOPPED run (R130). -/
def State.startResumed (s : State) : State :=
  let s1 :=
    { s with
      group := { s.group with state := .running, abort := false, stop := none, startTag := s.deskTag, phase := .rest } }
  (s1.answer .desk .ok (s1.startFields true)).groupRun

/-- GROUP_START (R130). -/
def execGroupStart (s : State) : Result :=
  .next (s.serve .desk .groupStart fun _ s =>
    if s.settings.service ≠ .inService then s.answer .desk .notInService []
    else
      match s.group.state with
      | .running => s.answer .desk .groupState []
      | .halting => s.answer .desk .groupState []
      | .idle => s.startNew
      | .stopped => s.startResumed)

/-- GROUP_CHECKIN_STEP (R132, R30): taken; its tally-opens and tally-closes complete it. -/
def execGroupCheckinStep (s : State) : Result :=
  .next (if s.group.phase == .checkinHanded && s.cmTakes .group then s.cmPop.groupCheckIn else s)

/-- GROUP_PLACE_HOLD (R133, R131). -/
def execGroupPlaceHold (s : State) : Result :=
  .next (if s.powered then s.groupHoldPlace else s)

/-- GROUP_ISSUE_STEP (R134, R55). -/
def execGroupIssueStep (s : State) : Result :=
  .next (match s.group.phase with
    | .issueHanded held => if s.cmTakes .group then s.cmPop.groupIssue held else s
    | _ => s)

/-- ENTRY_BOUNDARY (R135). -/
def execEntryBoundary (s : State) : Result :=
  .next (if s.powered && s.group.phase == .boundary then s.groupBoundary else s)

/-- GROUP_HALT (R137). -/
def execGroupHalt (s : State) : Result :=
  .next (s.serve .desk .groupHalt fun _ s =>
    if s.settings.service = .unprovisioned then s.answer .desk .notReady []
    else if !s.group.active then s.answer .desk .groupState []
    else
      let s1 := s.groupHaltRun
      s1.answer .desk .ok [.num 1 (groupStateCode s1.group.state)])

/-- The abort flag is set; a run that waits for a reply place stops at once (R137). -/
def State.groupAbort (s : State) : State :=
  let s1 := { s with group := { s.group with abort := true } }
  if s.group.phase = .waiting then s1.groupHalted .abort else s1

/-- GROUP_ABORT (R137). A FETCH taken before it has freed a place for a waiting copy: the run holds that place and hands the
copy's step first, and the abort stops the run after that step (R141). The model's own: any place that is free when the abort is
taken is held so (log entry 42). -/
def execGroupAbort (s : State) : Result :=
  .next (s.serve .desk .groupAbort fun _ s =>
    if s.settings.service = .unprovisioned then s.answer .desk .notReady []
    else
      let s0 := s.groupHoldPlace
      if !s0.group.active then s0.answer .desk .groupState []
      else
        let s1 := s0.groupAbort
        s1.answer .desk .ok [.num 1 (groupStateCode s1.group.state)])

/-- The fields of an entry in a GROUP_QUERY reply (R140). -/
def entryFields (e : GroupEntry) : List Field :=
  [.flag e.fields.isSome, optField 1 (e.fields.map fun f => groupModeCode f.mode)] ++
    (match e.fields with
      | some f => [listField 4 2 (f.rooms.map (bigEndian 2))]
      | none => [optField 9 none]) ++
    [optField 1 (e.fields.map GroupFields.copyCount), optField 1 (e.fields.map fun f => genModeCode f.gen),
     .flag e.checkedIn, .num 1 e.issued]

/-- GROUP_QUERY (R140). -/
def execGroupQuery (l : LinkId) (s : State) : Result :=
  .next (s.serve l .groupQuery fun fs s =>
    let entry := fieldAt fs 0 1
    if 15 < entry then s.answer l .badField []
    else
      let g := s.group
      s.answer l .ok
        ([.num 1 (groupStateCode g.state), .num 1 g.first, .num 1 g.last, .num 1 g.next, optField 1 g.done, .flag g.redirect,
          .flag g.abort, .flag (g.phase == .waiting), optField 1 (g.startTag.map BitVec.toNat),
          optField 1 (g.stop.map stopCode), optField 2 (g.stop.bind stopRoom)] ++ entryFields (s.entry entry)))

end Sys2Proof.Machine
end

