-- ==== Sys2Proof/Machine/JournalOps.lean ====
section
/-! DEFINITION. Shared operations of the Journal Unit: pages, marks, retirement, the ring, the recovery scan (chapter 7). -/

namespace Sys2Proof.Machine

/-! ### Pages -/

/-- 32 bytes of FFh: what an erased slot reads (R207). -/
def erasedSlot : List Byte := List.replicate 32 0xFF#8

/-- 32 bytes as the array reads them. -/
def asSlot (bs : List Byte) : List Byte := (bs ++ erasedSlot).take 32

/-- A physical page. -/
def State.page (s : State) (p : Nat) : Page := tableLook Page.blank s.journal.pages p

/-- The state with a page written. -/
def State.setPage (s : State) (p : Nat) (x : Page) : State :=
  { s with journal := { s.journal with pages := tablePut Page.blank s.journal.pages p x } }

/-- The contents of a slot. -/
def Page.slot (p : Page) (n : Nat) : List Byte := tableLook erasedSlot p.slots n

/-- The page with a slot's contents written. -/
def Page.setSlot (p : Page) (n : Nat) (bs : List Byte) : Page := { p with slots := tablePut erasedSlot p.slots n bs }

/-- What a page reads, from the slots that do not read erased. -/
def slotsOf (reads : List (Nat × List Byte)) : Table (List Byte) :=
  (reads.filter fun r => decide (r.1 < Config.slotsPerPage)).foldl (fun t r => tablePut erasedSlot t r.1 (asSlot r.2)) []

/-- The sequence numbers of the readable records of a page, in write order. -/
def Page.sequences (p : Page) : List Nat := p.readable.map fun n => slotSequence (p.slot n)

/-- Every readable record of the page is at or below a mark. -/
def Page.within (p : Page) (mark : Nat) : Bool := p.sequences.all fun n => decide (n ≤ mark)

/-- The ring position that holds a page. -/
def PageMap.posOf (m : PageMap) (p : Nat) : Option RingPos := m.ring.find? fun e => e.page == p

/-- Usable ring pages (R146). -/
def Journal.usable (j : Journal) : Nat := j.map.ring.length

/-- Pages retired since the part left the factory, as the page map counts them (R148). -/
def Journal.retired (j : Journal) : Nat := j.map.out.length + (j.map.ring.filter fun e => e.held.isSome).length

/-- The unreleased count (R148). -/
def Journal.unreleased (j : Journal) : Nat := j.newest - j.released

/-- The write page is FILLING (R146). -/
def State.writeFilling (s : State) : Bool :=
  (match s.journal.map.posOf s.journal.write.page with
    | some e => e.held.isNone
    | none => false) && (s.page s.journal.write.page).fill == .filling

/-! ### Marks and state -/

/-- The state with a changed Journal Unit. -/
def State.setJournal (s : State) (j : Journal) : State := { s with journal := j }

/-- The journal becomes FAILED with a cause, with the notice JOURNAL_FAILED (R149, R158). A journal FAILED for that cause stays
as it is. One FAILED with SEQUENCE_END whose ring falls below 8 takes the cause RING_SHORT (R158). The model's own: the notice is
raised for that too, and RING_SHORT does not give way to SEQUENCE_END (log entry 41). -/
def State.failJournal (s : State) (c : FailCause) : State :=
  if s.journal.state = .failed .ringShort ∨ s.journal.state = .failed c then s
  else (s.setJournal { s.journal with state := .failed c }).raise .journalFailed

/-- The high test (R160). -/
def State.highTest (s : State) : State :=
  if s.journal.usable * 48 ≤ s.journal.unreleased then
    if s.journal.high then s else (s.setJournal { s.journal with high := true }).raise .journalHigh
  else s.setJournal { s.journal with high := false }

/-- A writer that waits for a page turns again (R157). -/
def Writer.wake (w : Writer) : Writer :=
  match w with
  | .waitingPage => .idle
  | _ => w

/-- A page goes OUT (R157). -/
def State.pageOut (s : State) (p : Nat) : State :=
  match s.journal.map.posOf p with
  | none => s
  | some e =>
    let m := s.journal.map
    let s0 := s.setPage p { s.page p with readable := [] }
    match m.spares with
    | spare :: rest =>
      let s1 := s0.setPage spare Page.blank
      let ring := m.ring.map fun x => if x.page = p then { pos := e.pos, page := spare, held := none } else x
      let s2 := s1.setJournal
        { s1.journal with map := { ring := ring, spares := rest, out := m.out ++ [p] }, writer := s1.journal.writer.wake }
      if rest.isEmpty then s2.raise .sparesOut else s2
    | [] =>
      let ring := m.ring.filter fun x => x.page != p
      let s2 := (s0.setJournal
        { s0.journal with
          map := { m with ring := ring, out := m.out ++ [p] }
          writer := s0.journal.writer.wake }).highTest
      if ring.length < 8 then s2.failJournal .ringShort else s2

/-- Retired pages whose records are all at or below released-through go OUT, in ring order (R157). The model's own: the order starts
at the lowest ring position (log entry 44). -/
def State.outReleased (s : State) : State :=
  ((s.journal.map.ring.filter fun e => e.held.isSome && (s.page e.page).within s.journal.released).map RingPos.page).foldl
    State.pageOut s

/-- A page is retired with a held count (R156). The model's own: the write position stays where it is, on a page now retired or
OUT, until a turn finds the next page (log entry 38). -/
def State.retirePage (s : State) (p held : Nat) : State :=
  let m := s.journal.map
  let ring := m.ring.map fun x => if x.page = p then { x with held := some held } else x
  let s1 := (s.setJournal { s.journal with map := { m with ring := ring } }).raise .pageRetired
  if held = 0 ∨ (s1.page p).within s1.journal.released then s1.pageOut p else s1

/-- The ring position a turn finds: the first after the write page, in ring order, whose page is not RETIRED_HOLDING (R152). -/
def State.turnTarget (s : State) : Option RingPos :=
  let w := s.journal.write
  let ok := fun (e : RingPos) => e.held.isNone && e.page != w.page
  match s.journal.map.ring.find? fun e => decide (w.pos < e.pos) && ok e with
  | some e => some e
  | none => s.journal.map.ring.find? fun e => decide (e.pos ≤ w.pos) && ok e

/-- An erase begins: the records on the page stop being readable (R155). -/
def State.beginErase (s : State) (p : Nat) (forTurn : Bool) : State :=
  let s1 := s.setPage p { s.page p with readable := [] }
  s1.setJournal { s1.journal with writer := .erasing p forTurn }

/-- An operation of the page array is in progress: a program or an erase (R149). -/
def Writer.busy (w : Writer) : Bool :=
  match w with
  | .programming => true
  | .erasing _ _ => true
  | .idle => false
  | .waitingPage => false

/-- A request of the Journal Unit, answered between operations of the page array (R159, log entry 21). -/
def State.serveJournal (s : State) (l : LinkId) (k : ReqKind) (body : List Byte → State → State) : State :=
  s.serveFrom l k (!s.journal.writer.busy) s body

/-- The page an erase is in progress on. -/
def Writer.erasingPage (w : Writer) : Option Nat :=
  match w with
  | .erasing p _ => some p
  | _ => none

/-- The erase-ahead test (R154). -/
def State.eraseAheadTest (s : State) : State :=
  match s.turnTarget with
  | none => s
  | some e =>
    let p := s.page e.page
    if p.fill = .full ∧ p.within s.journal.released = true ∧ s.journal.writer.erasingPage ≠ some e.page then
      s.setJournal { s.journal with eraseAhead := some e.page }
    else s

/-- A page becomes the write page at slot 0 (R152, R155). -/
def State.takePage (s : State) (e : RingPos) : State :=
  let s1 := s.setPage e.page { s.page e.page with fill := .filling, readable := [] }
  s1.setJournal { s1.journal with write := { pos := e.pos, page := e.page, slot := 0 } }

/-- A discard of the page a turn found (R153), up to the erase. -/
def State.discardPage (s : State) (p : Nat) : State :=
  let d := (s.page p).sequences.foldl max 0
  let s1 := s.setPage p { s.page p with readable := [] }
  let s2 := s1.setJournal { s1.journal with discarded := d, released := max s1.journal.released d }
  (s2.outReleased.raise .journalDiscard).highTest

/-- The turn (R152). -/
def State.turnPage (s : State) : State :=
  match s.turnTarget with
  | none => s.setJournal { s.journal with writer := .waitingPage }
  | some e =>
    match (s.page e.page).fill with
    | .erased => s.takePage e
    | _ =>
      if (s.page e.page).within s.journal.released then s.beginErase e.page true
      else
        let s1 := s.discardPage e.page
        if s1.journal.state = .normal then s1.beginErase e.page true else s1

/-- Staging takes a record, or counts it when the queue is full (R143, R144). -/
def Journal.stage (j : Journal) (r : Rec) : Journal :=
  if j.staging.length < Config.staging then { j with staging := j.staging ++ [r] }
  else { j with unstaged := min (j.unstaged + 1) 65535 }

/-- The head record leaves staging; a GAP record takes the freed place when records were lost (R145). -/
def Journal.unstage (j : Journal) (minute second : Nat) : Journal :=
  if j.unstaged = 0 then { j with staging := j.staging.tail }
  else
    { j with
      staging := j.staging.tail ++
        [{ source := .journalUnit, minute := minute, second := second, body := .gap j.unstaged }]
      unstaged := 0 }

/-- Sequence numbers are exhausted (R149, log entry 19). -/
def State.sequenceTest (s : State) : State :=
  if s.journal.newest = Config.maxMinute then s.failJournal .sequenceEnd else s

/-- A program that passed verify: the record becomes durable (R150). The model's own: behind slot 63 the write position reads slot
64, until a turn finds the next page (log entry 38). -/
def State.recordDurable (s : State) (contents : List Byte) : State :=
  let j := s.journal
  let w := j.write
  let p := (s.page w.page).setSlot w.slot contents
  let s1 := s.setPage w.page
    { p with readable := p.readable ++ [w.slot], fill := if w.slot = 63 then .full else p.fill }
  let j1 := { s1.journal with newest := j.newest + 1 }.unstage s.clock.minute s.clock.second
  let s2 := s1.setJournal { j1 with write := { w with slot := w.slot + 1 }, writer := .idle }
  let s3 := if w.slot + 1 = 32 then s2.eraseAheadTest else s2
  s3.highTest.sequenceTest

/-! ### The recovery scan (R166, R167) -/

/-- A record found by the scan: its place in ring order, its page and slot, its number. -/
structure Found where
  idx : Nat
  page : Nat
  slot : Nat
  seq : Nat
  deriving DecidableEq, Repr

/-- The slots of a ring page from `n` on that are records, up to the first that is not (R166). -/
def recordPrefix (p : Page) : Nat → Nat → List Nat
  | 0, _ => []
  | fuel + 1, n => if slotIsRecord (p.slot n) then n :: recordPrefix p fuel (n + 1) else []

/-- The slots of a page that hold its records (R166). -/
def foundSlots (p : Page) (held : Option Nat) : List Nat :=
  match held with
  | none => recordPrefix p Config.slotsPerPage 0
  | some h => (List.range h).filter fun n => p.slot n != erasedSlot

/-- A ring page whose records end is followed by erased slots only (R166). -/
def restErased (p : Page) : Bool := p.slots.all fun x => decide (x.1 < (recordPrefix p Config.slotsPerPage 0).length)

/-- The records found, in ring order, slot by slot (R166). -/
def State.foundFrom (s : State) : Nat → List RingPos → List Found
  | _, [] => []
  | i, e :: rest =>
    ((foundSlots (s.page e.page) e.held).map fun n =>
      { idx := i, page := e.page, slot := n, seq := slotSequence ((s.page e.page).slot n) }) ++ s.foundFrom (i + 1) rest

/-- Found records without the earlier copies of a number found twice (R166). -/
def lastCopies : List Found → List Found
  | [] => []
  | x :: xs => if xs.any fun y => y.seq == x.seq then lastCopies xs else x :: lastCopies xs

/-- The lowest number from which every number up to `n` was found, in at most `fuel` steps down (R166). -/
def oldestFrom (seqs : List Nat) : Nat → Nat → Nat
  | 0, n => n
  | fuel + 1, n => if seqs.contains (n - 1) && decide (1 < n) then oldestFrom seqs fuel (n - 1) else n

/-- What the scan finds: newest, the oldest durable record if any, and the readable records (R166). -/
structure ScanResult where
  newest : Nat
  oldest : Option Nat
  readable : List Found
  holder : Option Found
  deriving DecidableEq, Repr

/-- The scan's marks and readable records (R166). -/
def State.scan (s : State) : ScanResult :=
  let all := s.foundFrom 0 s.journal.map.ring
  let newest := (all.map Found.seq).foldl max 0
  let top := (all.filter fun x => x.seq == newest).foldl (fun i x => max i x.idx) 0
  let rotated := (all.filter fun x => decide (top < x.idx)) ++ (all.filter fun x => decide (x.idx ≤ top))
  let kept := lastCopies rotated
  let oldest := oldestFrom (kept.map Found.seq) kept.length newest
  if all.isEmpty then { newest := 0, oldest := none, readable := [], holder := none }
  else
    { newest := newest
      oldest := some oldest
      readable := kept.filter fun x => decide (oldest ≤ x.seq)
      holder := kept.find? fun x => x.seq == newest }

/-- The slots of a page among records, ascending. -/
def slotsOn (page : Nat) (xs : List Found) : List Nat :=
  (List.range Config.slotsPerPage).filter fun n => xs.any fun x => x.page == page && x.slot == n

/-- The page states of the ring, rebuilt by the scan (R166): the page `filling` at a free slot, or none. -/
def State.rebuildPages (s : State) (r : ScanResult) (filling : Option Nat) : State :=
  s.journal.map.ring.foldl (fun s e =>
    let p := s.page e.page
    s.setPage e.page
      { p with
        readable := slotsOn e.page r.readable
        fill := if filling = some e.page then .filling else if p.slots.isEmpty then .erased else .full }) s

/-- The write position behind the newest record, and whether its page is FILLING (R166). The model's own: it stands there also
when that page is FULL or retired (log entry 38). -/
def State.scanWrite (s : State) (x : Found) : WritePos × Bool :=
  let e := (s.journal.map.posOf x.page).getD { pos := 0, page := x.page, held := none }
  ({ pos := e.pos, page := x.page, slot := x.slot + 1 },
    e.held.isNone && decide (x.slot + 1 < Config.slotsPerPage) && restErased (s.page x.page) &&
      decide ((recordPrefix (s.page x.page) Config.slotsPerPage 0).length = x.slot + 1))

/-- The write position of a scan that found no record: the lowest ring position at slot 0, FILLING when its page reads erased
(R166, log entry 27). -/
def State.takeFirst (s : State) : State :=
  match s.journal.map.ring with
  | [] => s
  | e :: _ =>
    if e.held.isNone && (s.page e.page).slots.isEmpty then s.takePage e
    else s.setJournal { s.journal with write := { pos := e.pos, page := e.page, slot := 0 } }

/-- Retired pages with no readable record go OUT (R166). The model's own: from the lowest ring position on (log entry 44). -/
def State.outUnread (s : State) : State :=
  ((s.journal.map.ring.filter fun e => e.held.isSome && (s.page e.page).readable.isEmpty).map RingPos.page).foldl
    State.pageOut s

/-- The pages, the marks and the write position that the scan found, and the pages that go OUT by it (R166, step 1 of R167). -/
def State.scanPlaces (s : State) (r : ScanResult) : State :=
  let mark := r.oldest.elim r.newest fun n => n - 1
  match r.holder with
  | some x =>
    let (w, filling) := s.scanWrite x
    let s1 := s.rebuildPages r (if filling then some w.page else none)
    (s1.setJournal { s1.journal with newest := r.newest, released := mark, discarded := mark, write := w }).outUnread
  | none =>
    let s1 := s.rebuildPages r none
    (s1.setJournal { s1.journal with newest := r.newest, released := mark, discarded := mark }).outUnread.takeFirst

/-- The recovery scan completes (R166, R167), up to its RESTART record. -/
def State.completeScan (s : State) (r : ScanResult) : State :=
  let s1 := s.scanPlaces r
  let s2 :=
    if s1.journal.usable < 8 then s1.failJournal .ringShort
    else if s1.journal.newest = Config.maxMinute then s1.failJournal .sequenceEnd
    else s1.setJournal { s1.journal with state := .normal }
  s2.highTest

/-! ### Reading (R161, R162) -/

/-- The readable records, in ring order: number and bytes. -/
def State.readableRecords (s : State) : List (Nat × List Byte) :=
  s.journal.map.ring.flatMap fun e =>
    (s.page e.page).readable.map fun n => (slotSequence ((s.page e.page).slot n), (s.page e.page).slot n)

/-- The record of a number, if it is readable. -/
def readRecord (rs : List (Nat × List Byte)) (n : Nat) : Option (List Byte) := (rs.find? fun r => r.1 == n).map Prod.snd

/-- Up to `count` consecutive readable records from a number on (R161). The model's own: where the readable numbers have a hole,
the answer ends before it (log entry 40). -/
def chooseFrom (rs : List (Nat × List Byte)) : Nat → Nat → List (List Byte)
  | 0, _ => []
  | count + 1, n =>
    match readRecord rs n with
    | some bs => bs :: chooseFrom rs count (n + 1)
    | none => []

/-- The least readable number above a bound. -/
def leastAbove (rs : List (Nat × List Byte)) (n : Nat) : Option Nat :=
  ((rs.map Prod.fst).filter fun k => decide (n < k)).min?

/-- The records a read returns, and its GAP flag (R161). -/
def State.chooseRecords (s : State) (start count : Nat) : List (List Byte) × Bool :=
  let rs := s.readableRecords
  if s.journal.newest < start then ([], false)
  else if start ≤ s.journal.discarded then
    match leastAbove rs 0 with
    | none => ([], false)
    | some n => (chooseFrom rs count n, true)
  else
    match leastAbove rs (start - 1) with
    | none => ([], false)
    | some n => (chooseFrom rs count n, false)

/-- The three reply parts of a chosen record (R162); `last` marks the last record of the answer. -/
def recordParts (tag : Byte) (bs : List Byte) (last : Bool) : List Reply :=
  let part := fun (flags : Nat) (b : List Byte) => replyRecord tag .ok (kindCode .journalRead) (BitVec.ofNat 8 flags :: b)
  [part 1 (bs.take 12), part 2 ((bs.drop 12).take 12), part (3 + if last then 0x80 else 0) (bs.drop 24)]

/-- The parts of the chosen records, the last part flag in the last (R162). -/
def allParts (tag : Byte) : List (List Byte) → List Reply
  | [] => []
  | bs :: rest => recordParts tag bs rest.isEmpty ++ allParts tag rest

/-- The answer to a JOURNAL_READ (R162). -/
def journalAnswer (tag : Byte) (records : List (List Byte)) (gap : Bool) (discarded newest : Nat) : List Reply :=
  let flags := (if gap then 0x40 else 0) + (if records.isEmpty then 0x80 else 0)
  replyRecord tag .ok (kindCode .journalRead)
    (BitVec.ofNat 8 flags :: bigEndian 1 records.length ++ bigEndian 4 discarded ++ bigEndian 4 newest) ::
    allParts tag records

end Sys2Proof.Machine
end

