-- ==== Sys2Proof/Machine/JournalUnit.lean ====
section
/-! DEFINITION. Meanings of the commands of the Journal Unit: staging, writing, turning, erasing, reading (chapter 7). -/

namespace Sys2Proof.Machine

/-- The record as it is staged: a RESTART record takes M and S as the clock then stands (R185). -/
def State.stagedForm (s : State) (r : Rec) : Rec :=
  match r.body with
  | .restart _ => { r with minute := s.clock.minute, second := s.clock.second }
  | _ => r

/-- STAGE_RECORD (R143, R144). -/
def execStageRecord (s : State) : Result :=
  .next (match s.journal.offers with
    | [] => s
    | r :: rest =>
      if s.powered then s.setJournal { s.journal.stage (s.stagedForm r) with offers := rest } else s)

/-- A program may begin (R149); an erase-ahead that waits for the array comes first (R154). -/
def State.programReady (s : State) : Bool :=
  s.powered && s.journal.state == .normal && s.journal.writer == .idle && !s.journal.staging.isEmpty && s.writeFilling &&
    decide (s.journal.write.slot < Config.slotsPerPage) && s.journal.eraseAhead.isNone

/-- PROGRAM_START (R149). -/
def execProgramStart (s : State) : Result :=
  .next (if s.programReady then
      if s.journal.newest < Config.maxMinute then s.setJournal { s.journal with writer := .programming }
      else s.failJournal .sequenceEnd
    else s)

/-- The program in progress completes with what its slot reads back (R150, R151). -/
def State.programDone (s : State) (contents : List Byte) : State :=
  match s.journal.staging with
  | [] => s.setJournal { s.journal with writer := .idle }
  | r :: _ =>
    let w := s.journal.write
    if contents = recordImage (s.journal.newest + 1) r then s.recordDurable contents
    else
      let s1 := s.setPage w.page ((s.page w.page).setSlot w.slot contents)
      (s1.setJournal { s1.journal with writer := .idle }).retirePage w.page w.slot

/-- PROGRAM_COMPLETE (R150, R151). -/
def execProgramComplete (readBack : List Byte) (s : State) : Result :=
  .next (if s.powered && s.journal.writer == .programming then s.programDone (asSlot readBack) else s)

/-- A turn is due: staging holds a record and the write page is FULL or retired (R149, R152). -/
def State.turnReady (s : State) : Bool :=
  s.powered && s.journal.state == .normal && s.journal.writer == .idle && !s.journal.staging.isEmpty && !s.writeFilling &&
    s.journal.eraseAhead.isNone

/-- TURN (R152, R153). -/
def execTurn (s : State) : Result := .next (if s.turnReady then s.turnPage else s)

/-- ERASE_START (R154, R155): the erase of an erase-ahead begins once the array is IDLE. -/
def execEraseStart (s : State) : Result :=
  .next (match s.journal.eraseAhead with
    | none => s
    | some p =>
      if s.powered && s.journal.state == .normal && s.journal.writer == .idle then
        (s.setJournal { s.journal with eraseAhead := none }).beginErase p false
      else s)

/-- The erase in progress completes with what the page reads (R155). -/
def State.eraseDone (s : State) (p : Nat) (forTurn : Bool) (slots : Table (List Byte)) : State :=
  let s1 := s.setPage p { slots := slots, fill := if slots.isEmpty then .erased else .full, readable := [] }
  let s2 := s1.setJournal { s1.journal with writer := .idle }
  if !slots.isEmpty then s2.retirePage p 0
  else
    match s.journal.map.posOf p with
    | some e => if forTurn then s2.takePage e else s2
    | none => s2

/-- ERASE_COMPLETE (R155). -/
def execEraseComplete (pageRead : List (Nat × List Byte)) (s : State) : Result :=
  .next (match s.journal.writer with
    | .erasing p forTurn => if s.powered then s.eraseDone p forTurn (slotsOf pageRead) else s
    | _ => s)

/-- Places the reply records of a JOURNAL_READ answer (R162). -/
def State.answerRead (s : State) (rs : List Reply) : State := s.setLink .audit (s.audit.answerWith rs)

/-- JOURNAL_READ (R159, R161, R162). The model's own: JOURNAL_RECOVERING (R159) comes before BAD_FIELD (R161) (log entry 39). -/
def execJournalRead (s : State) : Result :=
  .next (s.serveJournal .audit .journalRead fun fs s =>
    let start := fieldAt fs 0 4
    let count := fieldAt fs 4 1
    if s.journal.state = .recovering then s.answer .audit .journalRecovering []
    else if start = 0 ∨ count = 0 ∨ 8 < count then s.answer .audit .badField []
    else
      let (records, gap) := s.chooseRecords start count
      let tag := (s.audit.inProgress.map Request.tag).getD 0#8
      s.answerRead (journalAnswer tag records gap s.journal.discarded s.journal.newest))

/-- A release that moves the mark (R163). -/
def State.releaseTo (s : State) (through : Nat) : State :=
  let s1 := (s.setJournal { s.journal with released := through }).outReleased.highTest
  if 32 ≤ s1.journal.write.slot then s1.eraseAheadTest else s1

/-- JOURNAL_RELEASE (R159, R163). The model's own: a release that moves no mark makes no erase-ahead test, as R163 says beside
R154 (log entry 43). -/
def execJournalRelease (s : State) : Result :=
  .next (s.serveJournal .audit .journalRelease fun fs s =>
    if s.journal.state = .recovering then s.answer .audit .journalRecovering []
    else
      let through := min (fieldAt fs 0 4) s.journal.newest
      let moved := decide (s.journal.released < through)
      let s1 := if moved then s.releaseTo through else s
      s1.answer .audit .ok [.num 4 through, .num 4 s1.journal.released, .num 2 s1.journal.unreleased, .flag moved])

/-- The failure cause (R148). -/
def failCauseOf : JournalState → Option FailCause
  | .failed c => some c
  | .normal => none
  | .recovering => none

/-- The fields of a JOURNAL_HEALTH reply, outside a recovery scan (R164). -/
def Journal.healthFields (j : Journal) : List Field :=
  [.num 1 (journalStateCode j.state), optField 1 ((failCauseOf j.state).map failCauseCode), .num 1 (writerCode j.writer),
   .num 1 j.usable, .num 1 j.map.spares.length, .num 1 j.retired, .num 2 (j.usable * 64), .num 4 j.newest, .num 4 j.released,
   .num 4 j.discarded, .num 2 j.unreleased, .num 1 j.staging.length, .num 2 j.unstaged, .flag j.high, .num 1 j.write.pos,
   .num 1 j.write.page, .num 1 j.write.slot]

/-- The fields of a JOURNAL_HEALTH reply during a recovery scan: marks, counts and write position marked absent, and the ring
positions scanned so far (R164, log entry 9). The model's own: the failure cause and the writer activity keep their places too,
filled with FFh (log entry 14). -/
def Journal.scanFields (j : Journal) (scanned : Nat) : List Field :=
  [.num 1 (journalStateCode j.state), optField 1 none, optField 1 none, optField 1 none, optField 1 none, optField 1 none,
   optField 2 none, optField 4 none, optField 4 none, optField 4 none, optField 2 none, .num 1 j.staging.length,
   .num 2 j.unstaged, optField 1 none, optField 1 none, optField 1 none, optField 1 none, .num 1 scanned]

/-- JOURNAL_HEALTH (R159, R164). -/
def execJournalHealth (l : LinkId) (s : State) : Result :=
  .next (s.serveJournal l .journalHealth fun _ s =>
    if s.journal.state = .recovering then
      { s with fresh := s.fresh + 1 }.answer l .ok
        (s.journal.scanFields (min (Config.scanProgress s.fresh) s.journal.usable))
    else s.answer l .ok s.journal.healthFields)

end Sys2Proof.Machine
end

