-- ==== Sys2Proof/Machine/Links.lean ====
section
/-! DEFINITION. Meanings of the frames of the links, the taking of requests and the placing of later reply records (chapter 9). -/

namespace Sys2Proof.Machine

/-! ### The request ring -/

/-- A slot of the request ring. -/
def Link.slot (k : Link) (n : Nat) : List Byte := tableLook blankSlot k.slots n

/-- The distance of a slot from head, counted around the ring. -/
def Link.fromHead (k : Link) (n : Nat) : Nat := (n + k.len - k.head) % k.len

/-- The owned count (R186). -/
def Link.owned (k : Link) : Nat := k.fromHead k.tail

/-- The slot index `n` places on from head. -/
def Link.slotAfter (k : Link) (n : Nat) : Nat := (k.head + n) % k.len

/-- A byte of a slot. -/
def slotByte (bs : List Byte) (n : Nat) : Byte := bs[n]?.getD 0#8

/-- The mark of the slot `n` places on from head. -/
def Link.markAt (k : Link) (n : Nat) : SlotMark := slotMark (slotByte (k.slot (k.slotAfter n)) 0)

/-- The tag of the slot `n` places on from head. -/
def Link.tagAt (k : Link) (n : Nat) : Byte := slotByte (k.slot (k.slotAfter n)) 1

/-- The kind code of the slot at head. -/
def Link.kindAtHead (k : Link) : Nat := (slotByte (k.slot k.head) 2).toNat

/-- The first of the `n` slots after a lead, and owned, that is not an extension: its distance from head (R192). -/
def Link.offending (k : Link) (n : Nat) : Option Nat :=
  ((List.range n).map fun i => i + 1).find? fun j => decide (j < k.owned) && k.markAt j != .ext

/-- The field area of a request of a lead and `n` extension slots (R204). -/
def Link.fieldArea (k : Link) (n : Nat) : List Byte :=
  (k.slot k.head).drop 3 ++ (List.range n).flatMap fun i => (k.slot (k.slotAfter (i + 1))).drop 2

/-- A ring refusal: last ring error and RING_ERROR (R188 to R190). -/
def Link.ringRefused (k : Link) (e : RingError) : Link := { k with lastError := some e }.withNotice 2

/-- In strict mode a refused POST halts a RUNNING ring at head (R189). -/
def Link.haltOnPost (k : Link) (c : HaltCause) : Link :=
  if k.strict && k.halt.isNone then { k with halt := some (c, k.head) } else k

/-- WRITE_SLOT (R188). -/
def Link.writeSlot (k : Link) (n : Nat) (bs : List Byte) : Link :=
  if k.len ≤ n then k.ringRefused .slotRange
  else if k.fromHead n < k.owned then k.ringRefused .slotOwned
  else { k with slots := tablePut blankSlot k.slots n bs }

/-- POST (R189). -/
def Link.post (k : Link) (t : Nat) : Link :=
  if k.len ≤ t then (k.haltOnPost .tailRange).ringRefused .tailRange
  else if k.fromHead t < k.owned then (k.haltOnPost .tailBack).ringRefused .tailBack
  else { k with tail := t }

/-- RING on link `l` (R190). -/
def Link.ring (k : Link) (l : LinkId) (len strict : Nat) (mask : Mask16) : Link :=
  if len < 2 ∨ 16 < len then k.ringRefused .lengthRange
  else
    { k with
      len := len, strict := strict != 0, enables := mask &&& noticeMask l, head := 0, tail := 0, halt := none }

/-- RESUME (R193). -/
def Link.resume (k : Link) : Link :=
  match k.halt with
  | none => k
  | some (.noLead, _) => { k with head := k.slotAfter 1, halt := none }
  | some (.missingExt, _) =>
    let n := match k.markAt 0 with
      | .lead n => n
      | _ => 0
    { k with head := k.slotAfter ((k.offending n).getD 1), halt := none }
  | some (.tailRange, _) => { k with halt := none }
  | some (.tailBack, _) => { k with halt := none }

/-- The request in progress at a link reset: a reply that is being placed in parts ends, any other is to be discarded (R200,
R162, R205). -/
def Request.atReset (r : Request) : Option Request :=
  match r.phase with
  | .placing _ => none
  | .handed => some { r with discard := true }
  | .taken => some { r with discard := true }

/-- LINK_RESET on link `l` (R200, R186). -/
def Link.reset (k : Link) (l : LinkId) : Link :=
  { k with
    len := 16, head := 0, tail := 0, strict := false, halt := none, lastError := none, replies := [], notices := 0#16
    enables := noticeMask l
    inProgress := k.inProgress.bind Request.atReset }

/-! ### Frames (R187) -/

/-- A link after a frame that returned nothing: xSDO was 0 for each of `n` bytes after the code. -/
def Link.drove (k : Link) (n : Nat) : Link := { k with sdo := List.replicate n 0#8 }

/-- A frame of link `l` with `need` bytes after its code: it acts when they are all clocked, and otherwise has no effect. -/
def State.frame (s : State) (l : LinkId) (need : Nat) (bytes : List Byte) (act : Link → Link) : State :=
  if s.powered then
    s.setLink l (if need ≤ bytes.length then (act (s.link l)).drove bytes.length else (s.link l).drove bytes.length)
  else s

/-- WRITE_SLOT (R188). -/
def execWriteSlot (l : LinkId) (bytes : List Byte) (s : State) : Result :=
  .next (s.frame l 17 bytes fun k => k.writeSlot (fieldAt bytes 0 1) ((bytes.drop 1).take 16))

/-- POST (R189). -/
def execPost (l : LinkId) (bytes : List Byte) (s : State) : Result :=
  .next (s.frame l 1 bytes fun k => k.post (fieldAt bytes 0 1))

/-- Returned bytes cut to what the master clocks, with 0 for every byte beyond them (R187). -/
def driven (returned : List Byte) (clocked : Nat) : List Byte := fitBytes clocked returned

/-- The bytes that FETCH returns (R196). -/
def Link.fetchBytes (k : Link) : List Byte :=
  bigEndian 1 k.replies.length ++ bigEndian 1 k.head ++ k.replies.head?.getD blankSlot

/-- FETCH (R196). -/
def execFetch (l : LinkId) (clocked : Nat) (s : State) : Result :=
  .next (if s.powered then
      let k := s.link l
      let k1 := { k with sdo := driven k.fetchBytes clocked }
      s.setLink l (if 18 ≤ clocked then { k1 with replies := k.replies.tail } else k1)
    else s)

/-- STATUS (R197). -/
def execStatus (l : LinkId) (clocked : Nat) (s : State) : Result :=
  .next (if s.powered then
      let k := s.link l
      s.setLink l { k with sdo := driven (k.statusBytes (l == .desk && s.groupHolds)) clocked }
    else s)

/-- CLEAR (R198). -/
def execClear (l : LinkId) (bytes : List Byte) (s : State) : Result :=
  .next (s.frame l 2 bytes fun k => k.clearNotices (BitVec.ofNat 16 (fieldAt bytes 0 2)))

/-- RING (R190). -/
def execRing (l : LinkId) (bytes : List Byte) (s : State) : Result :=
  .next (s.frame l 4 bytes fun k =>
    k.ring l (fieldAt bytes 0 1) (fieldAt bytes 1 1) (BitVec.ofNat 16 (fieldAt bytes 2 2)))

/-- RESUME (R193). -/
def execResume (l : LinkId) (bytes : List Byte) (s : State) : Result := .next (s.frame l 0 bytes Link.resume)

/-- A Desk link reset acts on the group run as GROUP_HALT does, and its held place goes with the reply queue (R138, R200): a
CARD_IMAGE that stands in it is discarded, and the run goes on (log entry 37). -/
def State.groupLinkReset (s : State) : State :=
  let s1 := s.groupHaltRun
  match s1.group.phase with
  | .issueHanded _ => s1.groupPhase (.issueHanded false)
  | .imageHeld _ => (s1.groupPhase .rest).groupAfterStep
  | .rest => s1
  | .checkinHanded => s1
  | .waiting => s1
  | .boundary => s1

/-- LINK_RESET (R200). -/
def execLinkReset (l : LinkId) (bytes : List Byte) (s : State) : Result :=
  .next (if s.powered then
      let s1 := s.frame l 0 bytes fun k => k.reset l
      if l = .desk then s1.groupLinkReset else s1
    else s)

/-- UNKNOWN_FRAME (R187). -/
def execUnknownFrame (l : LinkId) (_code : Byte) (bytes : List Byte) (s : State) : Result :=
  .next (s.frame l 0 bytes fun k => k.withNotice 1)

/-! ### Taking requests (R191 to R194) -/

/-- A reply that the Link Unit makes itself, put in the place just held for the request. -/
def Link.place (k : Link) (r : Reply) : Link := { k with replies := k.replies ++ [r] }

/-- A sequence error at the slot `at_` places on from head: its SEQ_ERROR reply, and the slots up to there skipped, or in strict
mode the ring halted at head (R192, R193). -/
def Link.sequenceError (k : Link) (c : HaltCause) (code : Nat) (kind : Nat) (at_ next : Nat) : Link :=
  let k1 := k.place (replyRecord (k.tagAt 0) .seqError kind (bigEndian 1 code ++ bigEndian 1 (k.slotAfter at_)))
  if k.strict then { k1 with halt := some (c, k.head) } else { k1 with head := k.slotAfter next }

/-- The slots of a complete request are taken: head moves past them (R191). -/
def Link.advance (k : Link) (n : Nat) : Link := { k with head := k.slotAfter n }

/-- The content of a refusal by the Link Unit of the request at head, taken with `n` extension slots: the fields that its kind's
rule gives every refusal (R205). -/
def State.linkRefusal (s : State) (l : LinkId) (n : Nat) : List Byte :=
  fieldBytes ((kindOfCode (s.link l).kindAtHead).elim [] fun k => s.refusalFields k ((s.link l).fieldArea n))

/-- A complete request of a lead with `n` extension slots is checked by the Link Unit, then handed to its owning block (R194).
-/
def State.examine (s : State) (l : LinkId) (n : Nat) : State :=
  let k := s.link l
  let code := k.kindAtHead
  let refuse := fun (st : Status) => s.setLink l ((k.advance (n + 1)).place (replyRecord (k.tagAt 0) st code (s.linkRefusal l n)))
  match kindOfCode code with
  | none => refuse .notPermitted
  | some kind =>
    if !permitted kind l then refuse .notPermitted
    else if n + 1 ≠ slotCount kind then refuse .badField
    else
      let r : Request := { tag := k.tagAt 0, kind := kind, fields := k.fieldArea n, phase := .handed, discard := false }
      let s1 := s.setLink l { k.advance (n + 1) with inProgress := some r }
      if credentialKind kind then s1.cmHand (sourceOf l) else s1

/-- The slot at head can be taken (R191). -/
def State.canTake (s : State) (l : LinkId) : Bool :=
  let k := s.link l
  s.powered && k.halt.isNone && k.inProgress.isNone && decide (0 < k.owned) && s.placeFree l

/-- The request at head is taken, or waits for its slots (R191, R192). -/
def State.takeHead (s : State) (l : LinkId) : State :=
  let k := s.link l
  match k.markAt 0 with
  | .ext => s.setLink l (k.sequenceError .noLead 1 0 0 1)
  | .unmarked => s.setLink l (k.sequenceError .noLead 1 0 0 1)
  | .lead n =>
    if k.len - 1 < n + 1 then
      s.setLink l ((k.advance 1).place (replyRecord (k.tagAt 0) .badField k.kindAtHead (s.linkRefusal l 0)))
    else
      match k.offending n with
      | some j => s.setLink l (k.sequenceError .missingExt 2 k.kindAtHead j j)
      | none => if n + 1 ≤ k.owned then s.examine l n else s

/-- TAKE_REQUEST (R191 to R194). -/
def execTakeRequest (l : LinkId) (s : State) : Result := .next (if s.canTake l then s.takeHead l else s)

/-- The next reply record of a reply in parts takes a free place; the last one ends the request in progress (R205, R162). -/
def Link.placeNext (k : Link) : Link :=
  match k.inProgress with
  | none => k
  | some r =>
    match r.phase with
    | .placing [] => { k with inProgress := none }
    | .placing (a :: rest) =>
      { k with
        replies := k.replies ++ [a]
        inProgress := if rest.isEmpty then none else some { r with phase := .placing rest } }
    | .handed => k
    | .taken => k

/-- The next reply record of a link is placed; a CARD_IMAGE held behind the last record of a Desk reply follows it (R195, R133). -/
def State.placeRecord (s : State) (l : LinkId) : State :=
  let s1 := s.setLink l (s.link l).placeNext
  match l, s1.group.phase with
  | .desk, .imageHeld image => if s1.deskPlacing then s1 else s1.placeImage image
  | _, _ => s1

/-- PLACE_REPLY_RECORD (R205, R162, R195). -/
def execPlaceReplyRecord (l : LinkId) (s : State) : Result :=
  .next (if s.powered && s.placeFree l then s.placeRecord l else s)

end Sys2Proof.Machine
end

