-- ==== Sys2Proof/Machine/Minibar.lean ====
section
/-! DEFINITION. Meanings of the commands of the Minibar Accounting Unit (chapter 5). -/

namespace Sys2Proof.Machine

/-- The idle test of one session at stamp `now` (R113). -/
def State.idleSession (s : State) (now door : Nat) : State :=
  match s.session door with
  | none => s
  | some x =>
    if now < x.active then s.setSession door (some { x with active := now })
    else if s.settings.idleTimeout ≤ now - x.active then s.closeSession door .idle
    else s

/-- The idle test over the pool, in ascending order of door number (R113). -/
def State.idlePool (s : State) : State :=
  let now := stampOf s.clock.minute s.clock.second
  (s.mini.sessions.map Prod.fst).foldl (fun s door => s.idleSession now door) s

/-- IDLE_TEST (R113): one test for each second event received. -/
def execIdleTest (s : State) : Result :=
  .next (if s.powered && decide (0 < s.mini.idleDue) then
      { s with mini := { s.mini with idleDue := s.mini.idleDue - 1 } }.idlePool
    else s)

/-- The refusals of a take or a return, or the room whose tally record names the door (R116, R121, log entry 16). -/
def State.reportCheck (s : State) (door item count : Nat) : Except Status Nat :=
  if Config.doors ≤ door then .error .badField
  else if Config.items ≤ item then .error .badField
  else
    match s.roomOfDoor door with
    | none => .error .noSuch
    | some room => if 15 < count then .error .badField else .ok room

/-- The key of the session open on a door. -/
def State.sessionKey (s : State) (door : Nat) : Option Nat := (s.session door).map Session.key

/-- The charge of a take by the current price and rate (R117). -/
def State.takeCharge (s : State) (item count : Nat) : Nat := chargeOf (s.price item) count s.mini.rate

/-- A charged take (R117): the tally rises, the CHARGE record is offered, a crossing raises CREDIT_REACHED. The model's own: a
charge of 0 at a tally of 9,999,999 has no SATURATED flag, by R110 and R117 against the sentence of R119 (log entry 36). -/
def State.charge (s : State) (door room item count : Nat) (unattended noLine : Bool) : State :=
  let t := s.tally room
  let c := s.takeCharge item count
  let s1 := (s.setTally room (t.charged c)).miniOffer
    (.charge door room item count (s.price item) s.mini.rate c t.tally unattended noLine (decide (Config.maxTally < t.tally + c))
      (t.crosses c) (s.sessionKey door))
  let s2 := if t.crosses c then s1.raise .creditReached else s1
  s2.answer .lock .ok [.num 1 3, .num 3 c, .num 3 (t.charged c).tally, .flag (t.charged c).atLimit]

/-- A take in a GUEST session: on a line, or with NO_LINE (R118). -/
def State.chargeSession (s : State) (door room item count : Nat) (x : Session) : State :=
  match placeOnLines item count (s.takeCharge item count) x.lines with
  | some ls => (s.setSession door (some { x with lines := ls })).charge door room item count false false
  | none => s.charge door room item count false true

/-- A STOCK take or return (R120, R121). -/
def State.countStock (s : State) (door room item count key : Nat) (direction : StockDirection) : State :=
  (s.miniOffer (.stock door room item count direction key)).answer .lock .ok [.num 1 1]

/-- A SHRINKAGE take (R120). -/
def State.shrink (s : State) (door room item count : Nat) : State :=
  let cause : ShrinkCause := if (s.tally room).isOpen then .stayEnded else .tallyClosed
  (s.miniOffer (.shrinkage door room item count (s.takeCharge item count) cause (s.sessionKey door))).answer .lock .ok
    [.num 1 2, .num 3 (s.takeCharge item count)]

/-- A take that passed its checks with a count of 1 or more, its activity noted (R116, R112). -/
def State.take (s : State) (door room item count : Nat) : State :=
  let s1 := s.touch door (stampOf s.clock.minute s.clock.second)
  let charged := (s1.tally room).isOpen && (s1.room room).running s1.clock.minute
  match s1.session door with
  | some x =>
    if x.kind = .restock then s1.countStock door room item count x.key .take
    else if charged then s1.chargeSession door room item count x
    else s1.shrink door room item count
  | none => if charged then s1.charge door room item count true false else s1.shrink door room item count

/-- MINIBAR_TAKE (R116 to R120). -/
def execMinibarTake (s : State) : Result :=
  .next (s.serve .lock .minibarTake fun fs s =>
    let door := fieldAt fs 0 2
    let item := fieldAt fs 2 1
    let count := fieldAt fs 3 1
    match s.reportCheck door item count with
    | .error st => s.answer .lock st []
    | .ok room => if count = 0 then s.answer .lock .ok [.num 1 0] else s.take door room item count)

/-- A refund from a session's line (R122). The model's own: R takes 4 bytes in the reply, as in the record (log entry 13). -/
def State.refund (s : State) (door room item count : Nat) (x : Session) (line : Line) : State :=
  let t := s.tally room
  let r := refundOf line count
  let t1 := { t with tally := t.tally - r }
  (((s.setSession door (some { x with lines := refundLines item count x.lines })).setTally room t1).miniOffer
    (.refund door item count (min count line.count) r (line.refunded count).count (line.refunded count).amount t.tally x.key)).answer
    .lock .ok [.num 1 2, .num 1 (min count line.count), .num 4 r, .num 3 t1.tally, .flag t1.atLimit]

/-- A return outside a line (R121). -/
def State.unmatched (s : State) (door room item count : Nat) : State :=
  (s.miniOffer (.returnUnmatched door room item count (s.sessionKey door))).answer .lock .ok [.num 1 3]

/-- A return that passed its checks with a count of 1 or more, its activity noted (R121, R112). -/
def State.giveBack (s : State) (door room item count : Nat) : State :=
  let s1 := s.touch door (stampOf s.clock.minute s.clock.second)
  match s1.session door with
  | some x =>
    if x.kind = .restock then s1.countStock door room item count x.key .giveBack
    else
      match lineOf item x.lines with
      | some line => s1.refund door room item count x line
      | none => s1.unmatched door room item count
  | none => s1.unmatched door room item count

/-- MINIBAR_RETURN (R121, R122). -/
def execMinibarReturn (s : State) : Result :=
  .next (s.serve .lock .minibarReturn fun fs s =>
    let door := fieldAt fs 0 2
    let item := fieldAt fs 2 1
    let count := fieldAt fs 3 1
    match s.reportCheck door item count with
    | .error st => s.answer .lock st []
    | .ok room => if count = 0 then s.answer .lock .ok [.num 1 0] else s.giveBack door room item count)

/-- MINIBAR_SHUT (R114). -/
def execMinibarShut (s : State) : Result :=
  .next (s.serve .lock .minibarShut fun fs s =>
    let door := fieldAt fs 0 2
    if Config.doors ≤ door then s.answer .lock .badField []
    else if (s.roomOfDoor door).isNone then s.answer .lock .noSuch []
    else (s.closeSession door .shut).answer .lock .ok [.num 1 (if (s.session door).isSome then 0 else 1)])

/-- The refusals of PRICE_SET and RATE_SET (R103). -/
def State.tariffRefusal (s : State) (badItem : Bool) : Option Status :=
  if s.settings.service = .unprovisioned then some .notReady
  else if badItem then some .badField
  else if s.mini.tariffLock then some .tariffLocked
  else none

/-- PRICE_SET (R103). -/
def execPriceSet (s : State) : Result :=
  .next (s.serve .desk .priceSet fun fs s =>
    let item := fieldAt fs 0 1
    let price := fieldAt fs 1 2
    match s.tariffRefusal (decide (Config.items ≤ item)) with
    | some st => s.answer .desk st []
    | none =>
      { s with mini := { s.mini with prices := tablePut 0 s.mini.prices item price } }.answer .desk .ok [.num 2 price])

/-- RATE_SET (R103). -/
def execRateSet (s : State) : Result :=
  .next (s.serve .desk .rateSet fun fs s =>
    let rate := min (fieldAt fs 0 1) 250
    match s.tariffRefusal false with
    | some st => s.answer .desk st []
    | none => { s with mini := { s.mini with rate := rate } }.answer .desk .ok [.num 1 rate])

/-- TARIFF_LOCK (R104). -/
def execTariffLock (s : State) : Result :=
  .next (s.serve .audit .tariffLock fun _ s =>
    if s.settings.service = .unprovisioned then s.answer .audit .notReady []
    else { s with mini := { s.mini with tariffLock := true } }.answer .audit .ok [])

/-- TARIFF_QUERY (R104). -/
def execTariffQuery (l : LinkId) (s : State) : Result :=
  .next (s.serve l .tariffQuery fun fs s =>
    let item := fieldAt fs 0 1
    if Config.items ≤ item then s.answer l .badField []
    else s.answer l .ok [.num 2 (s.price item), .num 1 s.mini.rate, .flag s.mini.tariffLock])

/-- The refusal of a CREDIT_SET (R109). -/
def State.creditRefusal (s : State) (room : Nat) : Option Status :=
  if s.settings.service = .unprovisioned then some .notReady
  else if Config.rooms ≤ room then some .badField
  else if (s.tally room).isOpen = false then some .roomState
  else none

/-- CREDIT_SET (R109). -/
def execCreditSet (s : State) : Result :=
  .next (s.serve .desk .creditSet fun fs s =>
    let room := fieldAt fs 0 2
    let t := { s.tally room with limit := min (fieldAt fs 2 3) Config.maxTally }
    match s.creditRefusal room with
    | some st => s.answer .desk st []
    | none => (s.setTally room t).answer .desk .ok [.num 3 t.limit, .num 3 t.tally, .flag t.atLimit])

/-- The fields of the session in a TALLY_QUERY reply (R123). -/
def sessionFields (x : Session) : List Field :=
  [.num 1 (sessionKindCode x.kind), .num 2 x.key, .num 5 x.opened, .num 5 x.active, .num 1 x.lines.length]

/-- The line of a TALLY_QUERY reply, or the mark that there is none (R123). -/
def lineFields (x : Option Line) : List Field :=
  [optField 1 (x.map Line.item), optField 1 (x.map Line.count), optField 4 (x.map Line.amount)]

/-- TALLY_QUERY (R123). -/
def execTallyQuery (l : LinkId) (s : State) : Result :=
  .next (s.serve l .tallyQuery fun fs s =>
    let room := fieldAt fs 0 2
    let line := fieldAt fs 2 1
    if Config.rooms ≤ room ∨ 7 < line then s.answer l .badField []
    else
      let t := s.tally room
      let x := t.door.bind s.session
      s.answer l .ok
        ([.flag t.isOpen, .num 3 t.limit, .num 3 t.tally, .flag t.saturated, .flag t.atLimit, optField 2 t.door,
          .flag x.isSome] ++ (x.map sessionFields).getD [] ++ lineFields (x.bind fun y => y.lines[line]?)))

end Sys2Proof.Machine
end

