-- ==== Sys2Proof/Machine/Rooms.lean ====
section
/-! DEFINITION. Meanings of the commands on rooms and stays: check-in, check-out, room settings, privacy (chapter 2). -/

namespace Sys2Proof.Machine

/-- CHECK_IN (R27): refused with the room's state, or in progress until its tally-open is taken. -/
def execCheckIn (s : State) : Result :=
  .next (s.serveCm .desk .checkIn fun fs s =>
    let room := fieldAt fs 0 2
    let stayEnd := fieldAt fs 2 4
    let limit := min (fieldAt fs 6 3) Config.maxTally
    let refuse := fun (st : Status) => s.answer .desk st (s.refusalFields .checkIn fs)
    if s.settings.service = .unprovisioned then refuse .notReady
    else
      match s.checkInRefusal room stayEnd with
      | some st => refuse st
      | none => (s.beginCheckIn .desk [room] stayEnd limit).markTaken .desk)

/-- The fields of an OK reply to CHECK_IN (R28, R29). -/
def State.checkInFields (s : State) (op : CheckInOp) : List Field :=
  let room := op.rooms.head?.getD 0
  [.num 2 room, optField 2 (s.room room).label, .num 4 op.minute, .num 4 op.stayEnd, .num 3 op.limit,
   .flag op.earlier.isSome] ++ (match op.earlier with | some n => [.num 3 n] | none => [])

/-- What follows the last tally-open of a check-in: the Desk reply, or the group run going on (R28, R132). -/
def State.afterCheckIn (s : State) (op : CheckInOp) : State :=
  match op.origin with
  | .desk => s.answer .desk .ok (s.checkInFields op)
  | .group _ => (s.groupPhase .rest).groupAfterStep

/-- TALLY_OPEN (R106, R28, R30). -/
def execTallyOpen (s : State) : Result :=
  .next (match s.cred.op with
    | some (.checkIn op) =>
      if s.powered && !op.closing then
        let s1 := s.checkInOpen op
        if s1.cred.op.isNone then s1.afterCheckIn op else s1
      else s
    | _ => s)

/-- The refusal of a CHECK_OUT (R31). -/
def State.checkOutRefusal (s : State) (room : Nat) : Option Status :=
  if s.settings.service = .unprovisioned then some .notReady
  else if Config.rooms ≤ room then some .badField
  else if (s.room room).state ≠ .occupied then some .roomState
  else none

/-- CHECK_OUT (R31, step 1 and the hand-over of step 2). -/
def execCheckOut (s : State) : Result :=
  .next (s.serveCm .desk .checkOut fun fs s =>
    let room := fieldAt fs 0 2
    match s.checkOutRefusal room with
    | some st => s.answer .desk st []
    | none =>
      let m := s.clock.minute
      let stayEnd := min m ((s.room room).stay.elim m Stay.stayEnd)
      { s with cred := { s.cred with op := some (.checkOut room m s.clock.second stayEnd) } }.markTaken .desk)

/-- TALLY_CLOSE (R107), and what the handing operation then does (R29, R31 to R33). -/
def execTallyClose (s : State) : Result :=
  .next (match s.cred.op with
    | some (.checkIn op) => if s.powered && op.closing then s.checkInClose op else s
    | some (.checkOut room minute second stayEnd) =>
      if s.powered then
        let (s1, final, saturated, dead, kept) := s.checkOutClose room minute second stayEnd
        s1.answer .desk .ok [.num 2 room, .num 3 final, .flag saturated, .num 4 stayEnd, .num 1 dead, .num 1 kept]
      else s
    | none => s)

/-- The refusal of an EXTEND_STAY (R34). -/
def State.extendRefusal (s : State) (room stayEnd : Nat) : Option Status :=
  if s.settings.service = .unprovisioned then some .notReady
  else if Config.rooms ≤ room then some .badField
  else if stayEnd ≤ s.clock.minute then some .badField
  else if (s.room room).state ≠ .occupied then some .roomState
  else none

/-- EXTEND_STAY (R34). -/
def execExtendStay (s : State) : Result :=
  .next (s.serveCm .desk .extendStay fun fs s =>
    let room := fieldAt fs 0 2
    let stayEnd := fieldAt fs 2 4
    match s.extendRefusal room stayEnd with
    | some st => s.answer .desk st []
    | none =>
      let r := s.room room
      (s.setRoom room { r with stay := r.stay.map fun x => { x with stayEnd := stayEnd } }).answer .desk .ok
        [.num 4 (r.stay.elim 0 Stay.stayEnd), .num 4 stayEnd])

/-- A ROOM_SET whose action code is `a`, or is no action at all (R35, log entry 17). -/
def State.serveRoomSet (s : State) (a : Nat) (body : Nat → List Byte → State → State) : State :=
  let action := fieldAt ((s.serving .desk .roomSet).getD []) 2 1
  s.serveFrom .desk .roomSet (s.cmTakes .desk && (action == a || decide (3 < action))) s.cmPop fun fs s =>
    let room := fieldAt fs 0 2
    if s.settings.service = .unprovisioned then s.answer .desk .notReady []
    else if Config.rooms ≤ room then s.answer .desk .badField []
    else if 3 < fieldAt fs 2 1 then s.answer .desk .badField []
    else body room fs s

/-- A move of a room's state by ROOM_SET from the states allowed: the stay is removed and the privacy flag cleared (R35). -/
def State.moveRoom (s : State) (allowed : RoomState → Bool) (target : RoomState) (room : Nat) : State :=
  if allowed (s.room room).state then
    (s.setRoom room { s.room room with state := target, stay := none, privacy := false }).answer .desk .ok
      [.num 1 (roomStateCode target)]
  else s.answer .desk .roomState []

/-- ROOM_SET READY (R35). -/
def execRoomSetReady (s : State) : Result :=
  .next (s.serveRoomSet 0 fun room _ s => s.moveRoom (fun x => x == .departed) .vacant room)

/-- ROOM_SET OUT (R35). -/
def execRoomSetOut (s : State) : Result :=
  .next (s.serveRoomSet 1 fun room _ s => s.moveRoom (fun x => x == .vacant || x == .departed) .outOfService room)

/-- ROOM_SET BACK (R35). -/
def execRoomSetBack (s : State) : Result :=
  .next (s.serveRoomSet 2 fun room _ s => s.moveRoom (fun x => x == .outOfService) .vacant room)

/-- Another room that holds a label (R36). -/
def State.labelHolder (s : State) (room label : Nat) : Option Nat :=
  (s.cred.rooms.find? fun p => p.1 != room && p.2.label == some label).map Prod.fst

/-- ROOM_SET LABEL (R36). -/
def execRoomSetLabel (s : State) : Result :=
  .next (s.serveRoomSet 3 fun room fs s =>
    let label := fieldAt fs 3 2
    if label = 0 ∨ 9999 < label then s.answer .desk .badField []
    else
      match s.labelHolder room label with
      | some other => s.answer .desk .badField [.num 2 other]
      | none => (s.setRoom room { s.room room with label := some label }).answer .desk .ok [.num 2 room, .num 2 label])

/-- The STAY part of a ROOM_QUERY reply (R37). -/
def State.stayFields (s : State) (room : Nat) : List Field :=
  let r := s.room room
  [optField 2 r.label, .num 1 (roomStateCode r.state), .raw [r.cg], .raw [r.ig], .flag r.privacy, .flag r.stay.isSome] ++
    (match r.stay with
      | some x => [.num 4 x.checkIn, .num 4 x.stayEnd, .flag (!r.running s.clock.minute)]
      | none => []) ++ [.num 1 r.keyList.length]

/-- The KEYS part of a ROOM_QUERY reply (R37). -/
def State.keyListFields (s : State) (room : Nat) : List Field :=
  let r := s.room room
  [.num 1 (roomStateCode r.state),
   listField Config.roomKeys 4 (r.keyList.map fun k =>
     bigEndian 2 k ++ bigEndian 1 (keyViewCode (keyView (s.key k))) ++ [s.listedGen room k])]

/-- ROOM_QUERY (R37). -/
def execRoomQuery (l : LinkId) (s : State) : Result :=
  .next (s.serveCm l .roomQuery fun fs s =>
    let room := fieldAt fs 0 2
    let part := fieldAt fs 2 1
    if Config.rooms ≤ room ∨ 1 < part then s.answer l .badField []
    else s.answer l .ok (if part = 0 then s.stayFields room else s.keyListFields room))

/-- PRIVACY_OPERATION (R38, R76). -/
def execPrivacyOperation (s : State) : Result :=
  .next (match s.eval.op with
    | some (.privacy door room on) =>
      if s.powered && s.cred.op.isNone then
        let s1 := s.setRoom room { s.room room with privacy := on }
        { s1 with eval := { s1.eval with op := none } }.answer .lock .ok
          [.num 1 (conditionCode (s.door door).condition), .flag false]
      else s
    | _ => s)

end Sys2Proof.Machine
end

