-- ==== Sys2Proof/Machine/SiteSettings.lean ====
section
/-! DEFINITION. Meanings of the commands of Site Settings: service state, settings, fence, identity (chapter 8). -/

namespace Sys2Proof.Machine

/-- A move of the service state by a request: state, SERVICE_CHANGE record, SERVICE_CHANGED notice, reply (R172). -/
def State.moveService (s : State) (l : LinkId) (kind : ReqKind) (new : Service) (site : Option SiteRecord) : State :=
  let s1 := { s with settings := { s.settings with service := new } }
  ((s1.offerNow .siteSettings (.serviceChange s.settings.service new kind l site)).raise .serviceChanged).answer l .ok
    [.num 1 (serviceCode s.settings.service), .num 1 (serviceCode new)]

/-- The refusal of a SITE_WRITE (R173). -/
def State.siteWriteRefusal (s : State) (number wing epoch : Nat) : Option Status :=
  if s.settings.service ≠ .unprovisioned then some .writeOnce
  else if number = 0 ∨ 15 < wing ∨ 6 < epoch then some .badField
  else none

/-- SITE_WRITE (R173). -/
def execSiteWrite (s : State) : Result :=
  .next (s.serve .desk .siteWrite fun fs s =>
    let r : SiteRecord := { number := fieldAt fs 0 2, wing := fieldAt fs 2 1, epoch := fieldAt fs 3 1 }
    match s.siteWriteRefusal r.number r.wing r.epoch with
    | some st => s.answer .desk st []
    | none =>
      { s with settings := { s.settings with record := some r } }.moveService .desk .siteWrite .configuring (some r))

/-- COMMISSION (R174). -/
def execCommission (s : State) : Result :=
  .next (s.serve .desk .commission fun fs s =>
    let refuse := s.answer .desk .notReady (s.refusalFields .commission fs)
    match s.settings.service with
    | .unprovisioned => refuse
    | .configuring => if s.clock.isSet then s.moveService .desk .commission .inService none else refuse
    | .inService => s.answer .desk .ok [])

/-- DECOMMISSION (R175). -/
def execDecommission (s : State) : Result :=
  .next (s.serve .audit .decommission fun _ s =>
    match s.settings.service with
    | .unprovisioned => s.answer .audit .notReady []
    | .configuring => s.answer .audit .ok []
    | .inService => s.moveService .audit .decommission .configuring none)

/-- The settings after a SETTINGS_SET of the flagged values, each clamped to its range (R177). -/
def Settings.changed (x : Settings) (grace encode idle : Option Nat) : Settings :=
  { x with
    grace := grace.elim x.grace (clampTo 0 120)
    encodeDeadline := encode.elim x.encodeDeadline (clampTo 1 60)
    idleTimeout := idle.elim x.idleTimeout (clampTo 60 900) }

/-- A flagged value was clamped to a range (R177). -/
def clampActed (low high : Nat) (v : Option Nat) : Bool := v.elim false fun n => clampTo low high n != n

/-- SETTINGS_SET (R177): grace, encode deadline and session idle timeout, each with its change flag. -/
def execSettingsSet (s : State) : Result :=
  .next (s.serve .desk .settingsSet fun fs s =>
    let value := fun (o w : Nat) => if fieldAt fs (o + w) 1 = 1 then some (fieldAt fs o w) else none
    if s.settings.service = .unprovisioned then s.answer .desk .notReady []
    else if 1 < fieldAt fs 1 1 ∨ 1 < fieldAt fs 3 1 ∨ 1 < fieldAt fs 6 1 then s.answer .desk .badField []
    else
      let x := s.settings.changed (value 0 1) (value 2 1) (value 4 2)
      { s with settings := x }.answer .desk .ok
        [.num 1 x.grace, .num 1 x.encodeDeadline, .num 2 x.idleTimeout, .flag (clampActed 0 120 (value 0 1)),
         .flag (clampActed 1 60 (value 2 1)), .flag (clampActed 60 900 (value 4 2))])

/-- The fence is moved to a value it does not hold: fence, SECURITY record, FENCE_CHANGED (R179). -/
def State.moveFence (s : State) (on : Bool) : State :=
  ({ s with settings := { s.settings with fence := on } }.offerNow .siteSettings (.security (.fenceChange on))).raise
    .fenceChanged

/-- FENCE_DESK (R179, R138). It follows a Desk request already taken, which completes whole with all its effects (R181). -/
def execFenceDesk (s : State) : Result :=
  .next (s.serveFrom .audit .fenceDesk (!s.deskTaken) s fun _ s =>
    (if s.settings.fence then s else (s.moveFence true).groupHaltRun).answer .audit .ok [.flag true])

/-- UNFENCE_DESK (R179), which meets a Desk request as FENCE_DESK does (R181). -/
def execUnfenceDesk (s : State) : Result :=
  .next (s.serveFrom .audit .unfenceDesk (!s.deskTaken) s fun _ s =>
    (if s.settings.fence then s.moveFence false else s).answer .audit .ok [.flag false])

/-- The capacities that IDENTIFY carries, in the order of R182. -/
def capacityFields : List Field :=
  [.num 2 Config.rooms, .num 2 Config.keys, .num 1 Config.roomKeys, .num 1 Config.entriesPerKey, .num 2 Config.doors,
   .num 1 Config.zones, .num 1 Config.schedules, .num 2 Config.watchEntries, .num 1 Config.items, .num 1 Config.sessions,
   .num 1 Config.lines, .num 1 Config.groupEntries, .num 1 Config.staging, .num 1 Config.pages, .num 1 Config.slotsPerPage,
   .num 1 Config.ringSlots, .num 1 Config.replyPlaces]

/-- IDENTIFY (R182; the codes of 10, section 10.7). -/
def execIdentify (l : LinkId) (s : State) : Result :=
  .next (s.serve l .identify fun _ s =>
    s.answer l .ok ([.num 2 0x2E51, .num 2 0x6024, .num 1 0x01, .num 1 (identityLinkCode l)] ++ capacityFields))

/-- SITE_QUERY (R183). -/
def execSiteQuery (l : LinkId) (s : State) : Result :=
  .next (s.serve l .siteQuery fun _ s =>
    let x := s.settings
    s.answer l .ok
      [.num 1 (serviceCode x.service), optField 2 (x.record.map SiteRecord.number), optField 1 (x.record.map SiteRecord.wing),
       optField 1 (x.record.map SiteRecord.epoch), .num 1 x.grace, .num 1 x.encodeDeadline, .num 2 x.idleTimeout,
       .flag x.fence, .flag s.mini.tariffLock, .flag s.clock.isSet])

end Sys2Proof.Machine
end

