-- ==== Sys2Proof/Machine/Starts.lean ====
section
/-! DEFINITION. Meanings of the starts of the part, of its power loss and of the end of the recovery scan (R2, R184, R185). -/

namespace Sys2Proof.Machine

/-- The oldest durable record of a WARM RESTART record (R185). The model's own: it is the least readable number, also where the
readable numbers have a hole, and absent where no record is readable (log entry 25). -/
def State.oldestReadable (s : State) : Option Nat := leastAbove s.readableRecords 0

/-- The pages with what the array holds after a start, the slot or page of an operation that was cut reading as given. -/
def State.cutPages (s : State) (slotRead : List Byte) (pageRead : List (Nat × List Byte)) : State :=
  match s.journal.writer with
  | .programming =>
    s.setPage s.journal.write.page ((s.page s.journal.write.page).setSlot s.journal.write.slot (asSlot slotRead))
  | .erasing p _ => s.setPage p { s.page p with slots := slotsOf pageRead }
  | _ => s

/-- What a cold start leaves of the pages: their slots. Page states and readable records wait for the scan (R147). -/
def scanPages (pages : Table Page) : Table Page :=
  pages.foldl (fun t p => tablePut Page.blank t p.1 { Page.blank with slots := p.2.slots }) []

/-- COLD_START (R184, R165, R201): every block at its cold start values, the page map and the slots kept. -/
def execColdStart (slotRead : List Byte) (pageRead : List (Nat × List Byte)) (s : State) : Result :=
  .next
    { State.reset with
      pending := s.pending
      fresh := s.fresh
      journal :=
        { Journal.initial with
          pages := scanPages (s.cutPages slotRead pageRead).journal.pages
          map := s.journal.map
          coldFence := s.settings.fence
          coldLock := s.mini.tariffLock } }

/-- One hand-over of the operation that the Credential Manager has taken is completed (R39, R124). -/
def State.finishCmOnce (s : State) : State :=
  match s.cred.op with
  | none => s
  | some (.checkIn op) => if op.closing then s.checkInClose op else s.checkInOpen op
  | some (.checkOut room minute second stayEnd) => (s.checkOutClose room minute second stayEnd).1

/-- The operation that the Credential Manager has taken is completed: a group step of four rooms makes at most eight hand-overs. -/
def State.finishCm (s : State) : State := (List.range 8).foldl (fun s _ => s.finishCmOnce) s

/-- One hand-over of a DOOR_SET that the Access Evaluator has taken is completed (R101, R124). -/
def State.finishDoorOnce (s : State) : State :=
  match s.eval.op with
  | some (.doorRelease d room) => s.releaseDoor d room
  | some (.doorAssign d room) => s.assignDoor d room
  | some (.doorClose d) => s.closeDoorSession d
  | _ => s

/-- A DOOR_SET in progress completes whole; the evaluator's other operations are dropped (R101). -/
def State.finishEval (s : State) : State := s.finishDoorOnce.finishDoorOnce.evalDone

/-- A program in progress at a warm start is resolved by what its slot reads (R168). -/
def State.resolveProgram (s : State) (contents : List Byte) : State :=
  match s.journal.writer, s.journal.staging with
  | .programming, r :: _ =>
    if contents = recordImage (s.journal.newest + 1) r then s.recordDurable contents
    else
      let w := s.journal.write
      let s1 := s.setPage w.page { (s.page w.page).setSlot w.slot contents with fill := .full }
      s1.setJournal { s1.journal with writer := .idle }
  | _, _ => s

/-- The door record after a warm start (R70, R97). -/
def Door.warm (d : Door) : Door := { d with memory := none, repeats := 0 }

/-- Every repeat memory is made absent and every repeat counter 0 (R97). -/
def State.warmDoors (s : State) : State := s.eval.doors.foldl (fun s p => s.setDoor p.1 p.2.warm) s

/-- A run that is RUNNING or HALTING stops at next with reason WARM_START (R139, R127). -/
def Group.warm (g : Group) : Group :=
  if g.active then { g with state := .stopped, stop := some .warmStart, abort := false, phase := .rest }
  else { g with phase := .rest }

/-- The warm start changes of the tables (R14, R68, R97, R104, R111, R139, R180), and the Link Units' start values (R201). -/
def State.warmTables (s : State) : State :=
  let s1 := s.warmDoors
  { s1 with
    settings := { s1.settings with fence := false }
    clock := { s1.clock with sweep := { position := none, pendingPass := false, passes := 0 } }
    cred := { s1.cred with allowance := 0, waiting := [] }
    mini := { s1.mini with tariffLock := false, sessions := [], idleDue := 0 }
    group := s1.group.warm
    desk := .started .desk
    lock := .started .lock
    audit := .started .audit }

/-- The RESTART record of a warm start (R185): `found` is the state the start found, `done` the state once the operations already
taken are complete. -/
def warmReport (cause : WarmCause) (found done : State) : RestartReport :=
  { cause := some cause
    service := done.settings.service
    clockSet := done.clock.isSet
    fenceWasOn := found.settings.fence
    lockWasOn := found.mini.tariffLock
    sessionsClosed := done.mini.sessions.length
    runStopped := if done.group.active then some done.group.next else none
    stagingLost := false
    inStaging := found.journal.staging.length
    newest := if done.journal.state = .recovering then none else some done.journal.newest
    oldest := if done.journal.state = .recovering then none else done.oldestReadable
    scanned := none
    staged := none }

/-- The operations that a warm start completes (R39, R101, R124, R168). -/
def State.finishTaken (s : State) (slotRead : List Byte) : State :=
  ({ s with powered := true }.finishCm.finishEval).resolveProgram (asSlot slotRead)

/-- WARM_START (R184, R185). RESETn has no effect on a part without main power. -/
def execWarmStart (cause : WarmCause) (slotRead : List Byte) (s : State) : Result :=
  .next (if !s.powered && cause == .pin then s
    else
      let s1 := s.finishTaken slotRead
      s1.warmTables.offerNow .journalUnit (.restart (warmReport cause s s1)))

/-- The RESTART record of a cold start (R185, R167). The model's own: the records that arrived during the scan are all that
staging holds at its end, also where a warm start has begun the scan again, and the oldest durable number is absent where the scan
found no record (log entry 25). -/
def coldReport (s : State) (r : ScanResult) : RestartReport :=
  { cause := none
    service := .unprovisioned
    clockSet := false
    fenceWasOn := s.journal.coldFence
    lockWasOn := s.journal.coldLock
    sessionsClosed := 0
    runStopped := none
    stagingLost := true
    inStaging := 0
    newest := some r.newest
    oldest := r.oldest
    scanned := some s.journal.usable
    staged := some s.journal.staging.length }

/-- SCAN_COMPLETE (R166, R167). -/
def execScanComplete (s : State) : Result :=
  .next (if s.powered && s.journal.state == .recovering then
      (s.completeScan s.scan).offerNow .journalUnit (.restart (coldReport s s.scan))
    else s)

/-- MAIN_POWER_LOSS (R2): the retained domain keeps its state; what needs main power stops. -/
def execMainPowerLoss (s : State) : Result := .next { s with powered := false }

end Sys2Proof.Machine
end

