-- ==== Sys2Proof/Machine/Dispatch.lean ====
section
/-! DEFINITION. The meaning of every command: one arm per constructor of Instr. -/

namespace Sys2Proof.Machine

/-- What a command does to everything but the queue. -/
def exec (i : Instr) (s : State) : Host.Outcome State Fault Refusal :=
  match i with
  | .coldStart slotRead pageRead => Sys2Proof.Machine.execColdStart slotRead pageRead s
  | .warmStart cause slotRead => Sys2Proof.Machine.execWarmStart cause slotRead s
  | .scanComplete => Sys2Proof.Machine.execScanComplete s
  | .secondEvent => Sys2Proof.Machine.execSecondEvent s
  | .sweepKeyVisit => Sys2Proof.Machine.execSweepKeyVisit s
  | .sweepWatchVisit => Sys2Proof.Machine.execSweepWatchVisit s
  | .sweepAllowanceVisit => Sys2Proof.Machine.execSweepAllowanceVisit s
  | .idleTest => Sys2Proof.Machine.execIdleTest s
  | .setTime => Sys2Proof.Machine.execSetTime s
  | .timeQuery l => Sys2Proof.Machine.execTimeQuery l s
  | .zoneSet => Sys2Proof.Machine.execZoneSet s
  | .zoneLockdown => Sys2Proof.Machine.execZoneLockdown s
  | .zoneQuery l => Sys2Proof.Machine.execZoneQuery l s
  | .scheduleSet => Sys2Proof.Machine.execScheduleSet s
  | .scheduleQuery l => Sys2Proof.Machine.execScheduleQuery l s
  | .checkIn => Sys2Proof.Machine.execCheckIn s
  | .tallyOpen => Sys2Proof.Machine.execTallyOpen s
  | .checkOut => Sys2Proof.Machine.execCheckOut s
  | .tallyClose => Sys2Proof.Machine.execTallyClose s
  | .extendStay => Sys2Proof.Machine.execExtendStay s
  | .roomSetReady => Sys2Proof.Machine.execRoomSetReady s
  | .roomSetOut => Sys2Proof.Machine.execRoomSetOut s
  | .roomSetBack => Sys2Proof.Machine.execRoomSetBack s
  | .roomSetLabel => Sys2Proof.Machine.execRoomSetLabel s
  | .roomQuery l => Sys2Proof.Machine.execRoomQuery l s
  | .privacyOperation => Sys2Proof.Machine.execPrivacyOperation s
  | .issueKey => Sys2Proof.Machine.execIssueKey s
  | .confirmEncode => Sys2Proof.Machine.execConfirmEncode s
  | .cancelKey => Sys2Proof.Machine.execCancelKey s
  | .reportLost => Sys2Proof.Machine.execReportLost s
  | .keyQuery l => Sys2Proof.Machine.execKeyQuery l s
  | .watchAdd => Sys2Proof.Machine.execWatchAdd s
  | .watchRemove => Sys2Proof.Machine.execWatchRemove s
  | .watchQuery l => Sys2Proof.Machine.execWatchQuery l s
  | .emergencyAllow => Sys2Proof.Machine.execEmergencyAllow s
  | .present => Sys2Proof.Machine.execPresent s
  | .presentationOperation => Sys2Proof.Machine.execPresentationOperation s
  | .sessionOpen => Sys2Proof.Machine.execSessionOpen s
  | .doorReportClosed => Sys2Proof.Machine.execDoorReportClosed s
  | .doorReportHeldOpen => Sys2Proof.Machine.execDoorReportHeldOpen s
  | .doorReportForced => Sys2Proof.Machine.execDoorReportForced s
  | .doorReportPrivacyOn => Sys2Proof.Machine.execDoorReportPrivacyOn s
  | .doorReportPrivacyOff => Sys2Proof.Machine.execDoorReportPrivacyOff s
  | .doorSet => Sys2Proof.Machine.execDoorSet s
  | .minibarDoorAssignment => Sys2Proof.Machine.execMinibarDoorAssignment s
  | .minibarRelease => Sys2Proof.Machine.execMinibarRelease s
  | .doorSetSessionClose => Sys2Proof.Machine.execDoorSetSessionClose s
  | .doorQuery l => Sys2Proof.Machine.execDoorQuery l s
  | .minibarTake => Sys2Proof.Machine.execMinibarTake s
  | .minibarReturn => Sys2Proof.Machine.execMinibarReturn s
  | .minibarShut => Sys2Proof.Machine.execMinibarShut s
  | .priceSet => Sys2Proof.Machine.execPriceSet s
  | .rateSet => Sys2Proof.Machine.execRateSet s
  | .tariffLock => Sys2Proof.Machine.execTariffLock s
  | .tariffQuery l => Sys2Proof.Machine.execTariffQuery l s
  | .creditSet => Sys2Proof.Machine.execCreditSet s
  | .tallyQuery l => Sys2Proof.Machine.execTallyQuery l s
  | .groupLoad => Sys2Proof.Machine.execGroupLoad s
  | .groupPoint => Sys2Proof.Machine.execGroupPoint s
  | .groupStart => Sys2Proof.Machine.execGroupStart s
  | .groupCheckinStep => Sys2Proof.Machine.execGroupCheckinStep s
  | .groupPlaceHold => Sys2Proof.Machine.execGroupPlaceHold s
  | .groupIssueStep => Sys2Proof.Machine.execGroupIssueStep s
  | .entryBoundary => Sys2Proof.Machine.execEntryBoundary s
  | .groupHalt => Sys2Proof.Machine.execGroupHalt s
  | .groupAbort => Sys2Proof.Machine.execGroupAbort s
  | .groupQuery l => Sys2Proof.Machine.execGroupQuery l s
  | .stageRecord => Sys2Proof.Machine.execStageRecord s
  | .programStart => Sys2Proof.Machine.execProgramStart s
  | .programComplete readBack => Sys2Proof.Machine.execProgramComplete readBack s
  | .turn => Sys2Proof.Machine.execTurn s
  | .eraseStart => Sys2Proof.Machine.execEraseStart s
  | .eraseComplete pageRead => Sys2Proof.Machine.execEraseComplete pageRead s
  | .journalRead => Sys2Proof.Machine.execJournalRead s
  | .journalRelease => Sys2Proof.Machine.execJournalRelease s
  | .journalHealth l => Sys2Proof.Machine.execJournalHealth l s
  | .siteWrite => Sys2Proof.Machine.execSiteWrite s
  | .commission => Sys2Proof.Machine.execCommission s
  | .decommission => Sys2Proof.Machine.execDecommission s
  | .settingsSet => Sys2Proof.Machine.execSettingsSet s
  | .fenceDesk => Sys2Proof.Machine.execFenceDesk s
  | .unfenceDesk => Sys2Proof.Machine.execUnfenceDesk s
  | .identify l => Sys2Proof.Machine.execIdentify l s
  | .siteQuery l => Sys2Proof.Machine.execSiteQuery l s
  | .writeSlot l bytes => Sys2Proof.Machine.execWriteSlot l bytes s
  | .post l bytes => Sys2Proof.Machine.execPost l bytes s
  | .fetch l clocked => Sys2Proof.Machine.execFetch l clocked s
  | .status l clocked => Sys2Proof.Machine.execStatus l clocked s
  | .clear l bytes => Sys2Proof.Machine.execClear l bytes s
  | .ring l bytes => Sys2Proof.Machine.execRing l bytes s
  | .resume l bytes => Sys2Proof.Machine.execResume l bytes s
  | .linkReset l bytes => Sys2Proof.Machine.execLinkReset l bytes s
  | .unknownFrame l code bytes => Sys2Proof.Machine.execUnknownFrame l code bytes s
  | .takeRequest l => Sys2Proof.Machine.execTakeRequest l s
  | .placeReplyRecord l => Sys2Proof.Machine.execPlaceReplyRecord l s
  | .mainPowerLoss => Sys2Proof.Machine.execMainPowerLoss s

end Sys2Proof.Machine
end

