-- ==== Sys2Proof/Safety.lean ====
section
/-! DEFINITION. The laws of the device that every step keeps, as predicates on State. -/

namespace Sys2Proof.Machine

/-- Every sparse table of the blocks is in its canonical form, the slots of each journal page among them. -/
def State.tablesWf (s : State) : Prop :=
  tableWf Room.blank s.cred.rooms = true ∧ tableWf none s.cred.keys = true ∧ tableWf Door.blank s.eval.doors = true ∧
  tableWf 0 s.mini.prices = true ∧ tableWf Tally.blank s.mini.tallies = true ∧ tableWf none s.mini.sessions = true ∧
  tableWf Zone.blank s.clock.zones = true ∧ tableWf Band.blank s.clock.schedules = true ∧
  tableWf GroupEntry.blank s.group.entries = true ∧ tableWf Page.blank s.journal.pages = true ∧
  (∀ l, tableWf blankSlot (s.link l).slots = true) ∧ (∀ e ∈ s.journal.pages, tableWf erasedSlot e.2.slots = true)

/-- The clock stays in range (section 1.1). -/
def State.clockInRange (s : State) : Prop := s.clock.minute ≤ Config.maxMinute ∧ s.clock.second < 60

/-- The staging queue holds at most 32 records, the unstaged count at most 65,535 (R143, R144). -/
def State.stagingBounded (s : State) : Prop :=
  s.journal.staging.length ≤ Config.staging ∧ s.journal.unstaged ≤ 65535

/-- The emergency allowance is between 0 and 4 (R68). -/
def State.allowanceBounded (s : State) : Prop := s.cred.allowance ≤ 4

/-- The site record is absent exactly while the part is UNPROVISIONED (R172, R173). -/
def State.recordMatchesService (s : State) : Prop := s.settings.record = none ↔ s.settings.service = .unprovisioned

/-- The Watch List holds at most 256 entries (R62). -/
def State.watchBounded (s : State) : Prop := s.cred.watch.length ≤ Config.watchEntries

/-- The settings stay in their ranges (R171). -/
def State.settingsInRange (s : State) : Prop :=
  s.settings.grace ≤ 120 ∧ 1 ≤ s.settings.encodeDeadline ∧ s.settings.encodeDeadline ≤ 60 ∧
  60 ≤ s.settings.idleTimeout ∧ s.settings.idleTimeout ≤ 900

/-- Every request ring has 2 to 16 slots, with head and tail among them (R186, R190). -/
def State.ringsInRange (s : State) : Prop :=
  ∀ l, 2 ≤ (s.link l).len ∧ (s.link l).len ≤ 16 ∧ (s.link l).head < (s.link l).len ∧ (s.link l).tail < (s.link l).len

/-- No tally is above 9,999,999 (R105). -/
def State.talliesBounded (s : State) : Prop := ∀ p ∈ s.mini.tallies, p.2.tally ≤ Config.maxTally

/-- The ranges that the rules give, together. -/
def State.inRanges (s : State) : Prop :=
  s.clockInRange ∧ s.stagingBounded ∧ s.allowanceBounded ∧ s.recordMatchesService ∧ s.watchBounded ∧ s.settingsInRange ∧ s.talliesBounded ∧
    s.ringsInRange

/-- The request kind and link of a command that takes a request at its owning block. -/
def rowRequest : Instr → Option (ReqKind × LinkId)
  | .setTime => some (.setTime, .desk)
  | .timeQuery l => some (.timeQuery, l)
  | .zoneSet => some (.zoneSet, .desk)
  | .zoneLockdown => some (.zoneLockdown, .audit)
  | .zoneQuery l => some (.zoneQuery, l)
  | .scheduleSet => some (.scheduleSet, .desk)
  | .scheduleQuery l => some (.scheduleQuery, l)
  | .checkIn => some (.checkIn, .desk)
  | .checkOut => some (.checkOut, .desk)
  | .extendStay => some (.extendStay, .desk)
  | .roomSetReady => some (.roomSet, .desk)
  | .roomSetOut => some (.roomSet, .desk)
  | .roomSetBack => some (.roomSet, .desk)
  | .roomSetLabel => some (.roomSet, .desk)
  | .roomQuery l => some (.roomQuery, l)
  | .issueKey => some (.issueKey, .desk)
  | .confirmEncode => some (.confirmEncode, .desk)
  | .cancelKey => some (.cancelKey, .desk)
  | .reportLost => some (.reportLost, .desk)
  | .keyQuery l => some (.keyQuery, l)
  | .watchAdd => some (.watchAdd, .desk)
  | .watchRemove => some (.watchRemove, .desk)
  | .watchQuery l => some (.watchQuery, l)
  | .emergencyAllow => some (.emergencyAllow, .audit)
  | .present => some (.present, .lock)
  | .doorReportClosed => some (.doorReport, .lock)
  | .doorReportHeldOpen => some (.doorReport, .lock)
  | .doorReportForced => some (.doorReport, .lock)
  | .doorReportPrivacyOn => some (.doorReport, .lock)
  | .doorReportPrivacyOff => some (.doorReport, .lock)
  | .doorSet => some (.doorSet, .desk)
  | .doorQuery l => some (.doorQuery, l)
  | .minibarTake => some (.minibarTake, .lock)
  | .minibarReturn => some (.minibarReturn, .lock)
  | .minibarShut => some (.minibarShut, .lock)
  | .priceSet => some (.priceSet, .desk)
  | .rateSet => some (.rateSet, .desk)
  | .tariffLock => some (.tariffLock, .audit)
  | .tariffQuery l => some (.tariffQuery, l)
  | .creditSet => some (.creditSet, .desk)
  | .tallyQuery l => some (.tallyQuery, l)
  | .groupLoad => some (.groupLoad, .desk)
  | .groupPoint => some (.groupPoint, .desk)
  | .groupStart => some (.groupStart, .desk)
  | .groupHalt => some (.groupHalt, .desk)
  | .groupAbort => some (.groupAbort, .desk)
  | .groupQuery l => some (.groupQuery, l)
  | .journalRead => some (.journalRead, .audit)
  | .journalRelease => some (.journalRelease, .audit)
  | .journalHealth l => some (.journalHealth, l)
  | .siteWrite => some (.siteWrite, .desk)
  | .commission => some (.commission, .desk)
  | .decommission => some (.decommission, .audit)
  | .settingsSet => some (.settingsSet, .desk)
  | .fenceDesk => some (.fenceDesk, .audit)
  | .unfenceDesk => some (.unfenceDesk, .audit)
  | .identify l => some (.identify, l)
  | .siteQuery l => some (.siteQuery, l)
  | .coldStart _ _ | .warmStart _ _ | .scanComplete | .secondEvent | .sweepKeyVisit | .sweepWatchVisit
  | .sweepAllowanceVisit | .idleTest | .tallyOpen | .tallyClose | .privacyOperation | .presentationOperation
  | .sessionOpen | .minibarDoorAssignment | .minibarRelease | .doorSetSessionClose | .groupCheckinStep | .groupPlaceHold
  | .groupIssueStep | .entryBoundary | .stageRecord | .programStart | .programComplete _ | .turn
  | .eraseStart | .eraseComplete _ | .writeSlot _ _ | .post _ _ | .fetch _ _ | .status _ _
  | .clear _ _ | .ring _ _ | .resume _ _ | .linkReset _ _ | .unknownFrame _ _ _ | .takeRequest _
  | .placeReplyRecord _ | .mainPowerLoss => none

/-- A request of kind `k` with field area `fs` is handed on link `l`, and no fence answers it: what its owning block serves. -/
abbrev State.asked (s : State) (l : LinkId) (k : ReqKind) (fs : List Byte) : Prop :=
  s.serving l k = some fs ∧ s.fenced l = false

/-- As `asked`, and the Credential Manager takes the request next (R39). -/
abbrev State.askedCm (s : State) (l : LinkId) (k : ReqKind) (fs : List Byte) : Prop :=
  s.asked l k fs ∧ s.cmTakes (sourceOf l) = true

/-- As `asked`, and the Access Evaluator is free (R70). -/
abbrev State.askedEval (s : State) (l : LinkId) (k : ReqKind) (fs : List Byte) : Prop :=
  s.asked l k fs ∧ s.eval.op = none

/-- A key that is PENDING or LIVE. -/
def KeyRec.isActive (k : KeyRec) : Bool :=
  match k.status with
  | .cancelled _ _ _ => false
  | .pending _ => true
  | .live _ => true

/-- Every room's key list holds, once each, exactly the PENDING and LIVE keys with an entry for the room (R23, R43); no key and
no group entry names a room twice (R50, R128). -/
def State.listsMatchKeys (s : State) : Prop :=
  (∀ r, (s.room r).keyList.Nodup) ∧
  (∀ r n, n ∈ (s.room r).keyList ↔ ∃ k, s.key n = some k ∧ k.isActive = true ∧ r ∈ k.entries.map Entry.room) ∧
  (∀ n k, s.key n = some k → (k.entries.map Entry.room).Nodup) ∧
  (∀ n f, (s.entry n).fields = some f → f.rooms.Nodup)

/-- No two LIVE keys are bound to one serial, and none to a serial on the Watch List (R56). -/
def State.serialsUnique (s : State) : Prop :=
  (∀ n m j k serial, s.key n = some j → s.key m = some k → j.status = .live serial → k.status = .live serial → n = m) ∧
  (∀ n k serial, s.key n = some k → k.status = .live serial → ∀ e ∈ s.cred.watch, e.serial ≠ serial)

/-- On every link at most 16 reply places are taken (R186, R191). -/
def State.repliesBounded (s : State) : Prop := ∀ l, s.placesTaken l ≤ Config.replyPlaces

/-- The Session Pool holds at most 32 sessions (R111). -/
def State.poolBounded (s : State) : Prop := s.mini.sessions.length ≤ Config.sessions

/-- No key list holds more than 8 keys (R23). -/
def State.listsBounded (s : State) : Prop := ∀ r, (s.room r).keyList.length ≤ Config.roomKeys

/-- The laws of R24: ig is at most 127 ahead of cg, and no listed key's generation is further ahead of cg than ig. -/
def State.generationsLawful (s : State) : Prop :=
  ∀ r, genDistance (s.room r).ig (s.room r).cg ≤ 127 ∧
    ∀ n ∈ (s.room r).keyList, genDistance (s.listedGen r n) (s.room r).cg ≤ genDistance (s.room r).ig (s.room r).cg

/-- The law of R21: every room entry of a PENDING or LIVE key names an OCCUPIED room. -/
def State.activeKeysInOccupiedRooms (s : State) : Prop :=
  ∀ n k, s.key n = some k → k.isActive = true → ∀ r ∈ k.entries.map Entry.room, (s.room r).state = .occupied

/-- The law of R105: a tally is open exactly while its room is OCCUPIED. During a check-in it is said of the rooms outside the
operation; of the operation's own rooms, among them those still to do, those that are done have their tally open. -/
def State.talliesMatchRooms (s : State) : Prop :=
  match s.cred.op with
  | some (.checkIn op) =>
    (∀ r ∈ op.todo, r ∈ op.rooms) ∧ (∀ r, r ∉ op.rooms → ((s.tally r).isOpen = true ↔ (s.room r).state = .occupied)) ∧
      (∀ r ∈ op.rooms, r ∉ op.todo → (s.tally r).isOpen = true)
  | _ => ∀ r, (s.tally r).isOpen = true ↔ (s.room r).state = .occupied

/-- The law of R148: discarded-through ≤ released-through ≤ newest outside RECOVERING; with what keeps it: no readable record is
numbered above newest, no slot from the write position on is readable while it may be programmed, and nothing is in progress
and no record readable during RECOVERING. -/
def State.marksLawful (s : State) : Prop :=
  (s.journal.state ≠ .recovering →
    s.journal.discarded ≤ s.journal.released ∧ s.journal.released ≤ s.journal.newest) ∧
  (s.journal.state = .recovering → s.journal.writer = .idle ∧ ∀ p, (s.page p).readable = []) ∧
  (∀ p, ∀ n ∈ (s.page p).sequences, n ≤ s.journal.newest) ∧
  (s.journal.writer = .programming ∨ s.writeFilling = true →
    ∀ n ∈ (s.page s.journal.write.page).readable, n < s.journal.write.slot)

/-- What makes a fence follow the Desk request taken before it: while the fence is on, no Desk request is taken and not complete
(R181). -/
def State.fenceFollowsTheDesk (s : State) : Prop :=
  s.settings.fence = true → ∀ r, s.desk.inProgress = some r → r.phase ≠ .taken

/-! ### Shorthands of the statements -/

/-- The action code that a ROOM_SET row takes (R35). -/
def rowAction : Instr → Option Nat
  | .roomSetReady => some 0
  | .roomSetOut => some 1
  | .roomSetBack => some 2
  | .roomSetLabel => some 3
  | _ => none

/-- A room once key `n` has left its list: the other keys keep their order, and ig is recomputed over them (R23, R25). -/
def State.roomWithout (s : State) (n room : Nat) : Room :=
  let r := s.room room
  let rest := r.keyList.filter fun m => m != n
  { r with
    keyList := rest
    ig := r.cg + BitVec.ofNat 8 ((rest.map fun m => (s.listedGen room m - r.cg).toNat).foldl max 0) }

/-- Pages that go OUT one after the other (R157). -/
def State.pagesOut (s : State) (ps : List Nat) : State := ps.foldl State.pageOut s

/-- The retired pages, in ring order from the lowest position (log entry 44), whose readable records are all at or below
released-through (R157). -/
def State.releasedHolders (s : State) : List Nat :=
  (s.journal.map.ring.filter fun e => e.held.isSome && (s.page e.page).within s.journal.released).map RingPos.page

/-- The state as the Credential Manager takes the operation that waits first. -/
def State.taking (s : State) : State := { s with cred := { s.cred with waiting := s.cred.waiting.tail } }

/-- The request in progress on a link is now taken by its owning block, and goes on in a later step. -/
def State.goesOn (s : State) (l : LinkId) : State :=
  s.setLink l { s.link l with inProgress := (s.link l).inProgress.map fun r => { r with phase := .taken } }

/-- Records appended to those offered to the staging input. -/
def State.offering (s : State) (rs : List Rec) : State := { s with journal := { s.journal with offers := s.journal.offers ++ rs } }

/-- A record of a source with the current M and S. -/
def State.recordNow (s : State) (src : Source) (b : RecBody) : Rec :=
  { source := src, minute := s.clock.minute, second := s.clock.second, body := b }

/-- A link's notice flag set. -/
def State.noticing (s : State) (l : LinkId) (n : Nat) : State :=
  s.setLink l { s.link l with notices := (s.link l).notices ||| BitVec.ofNat 16 (2 ^ n) }

/-- The SESSION_CLOSE records of the session on a door, if one is open (R115). -/
def State.closingRecords (s : State) (door : Nat) (cause : CloseCause) : List Rec :=
  match s.session door with
  | none => []
  | some x =>
    [s.recordNow .minibarUnit
      (.sessionClose door x.room x.kind x.key x.opened cause x.lines.length ((x.lines.map Line.amount).foldl (· + ·) 0))]

end Sys2Proof.Machine
end

