-- ==== Sys2Proof/Certificates/Slice0/Obligations.lean ====
section
/-! DEFINITION. The statements for the provers. In every statement a request's fields are read from its field area `fs` at the
offsets of chapter 10, and `State.answer` stands for the reply (the statement AnswerPlacesOneReplyRecord says what it does). -/

open Sys2Proof Sys2Proof.Machine

/-! ### The part as a whole -/

/-- With a command at the front of the queue, a step is the execution of that command on the state with the queue's rest. The
model's own choice (log entry 1): on an empty queue the part idles, and the step leaves the state as it is. -/
def Obligations.StepRunsTheFrontCommandOrIdles : Prop :=
  (∀ (s : State) (c : Instr) (rest : List Instr), s.pending = c :: rest → step s = exec c { s with pending := rest }) ∧
  (∀ s : State, s.pending = [] → step s = .next s)

/-- Every command answers a next state, and leaves the queue of waiting commands as it is. -/
def Obligations.EveryCommandAnswersNextAndKeepsTheQueue : Prop :=
  ∀ (i : Instr) (s : State), ∃ t : State, exec i s = .next t ∧ t.pending = s.pending

/-- Every step keeps every table in its canonical form, the slots of each journal page among them: indices rising, no record
equal to the value an unlisted index reads as. Every step keeps every tally open exactly while its room is OCCUPIED, whenever
no check-in is in progress; during a check-in, the tallies of the rooms outside it, while its own rooms that are done have
theirs open. -/
def Obligations.EveryStepKeepsTheTablesCanonical : Prop :=
  (∀ s t : State, s.tablesWf → step s = .next t → t.tablesWf) ∧
  (∀ s t : State, s.tablesWf → s.talliesMatchRooms → step s = .next t → t.talliesMatchRooms)

/-- Every step keeps the replies, the place held for the request in progress and the place held for a group copy, together, at
most 16 on each link. Every step keeps the Session Pool at no more than 32 sessions (with the tables in their canonical form,
itself kept by every step). -/
def Obligations.EveryStepKeepsTheReplyQueuesBounded : Prop :=
  (∀ s t : State, s.repliesBounded → step s = .next t → t.repliesBounded) ∧
  (∀ s t : State, s.tablesWf → s.poolBounded → step s = .next t → t.poolBounded)

/-- Every step keeps M at most 4,294,967,295 and S below 60, staging at most 32 records with an unstaged count of at most
65,535, the emergency allowance at most 4, the Watch List at most 256 entries, the settings in their ranges, every tally at
most 9,999,999, every ring at 2 to 16 slots with head and tail among them, and the site record absent exactly while the part
is UNPROVISIONED. Every step keeps, outside RECOVERING, discarded-through at most released-through and released-through at
most newest, together with what this rests on: no readable record numbered above newest, none readable from the write position
on while it may be programmed, nothing in progress and nothing readable during RECOVERING (with the tables in their canonical
form, itself kept by every step). -/
def Obligations.EveryStepKeepsTheRanges : Prop :=
  (∀ s t : State, s.inRanges → step s = .next t → t.inRanges) ∧
  (∀ s t : State, s.tablesWf → s.marksLawful → step s = .next t → t.marksLawful)

/-- The state after reset has its tables canonical, its reply queues bounded, every range kept and every other law that the
steps keep, an empty queue, and the values that the spec gives a cold start: clock stopped at 0, UNPROVISIONED, no key, no
watch entry, no allowance, journal RECOVERING, each link with RESTARTED alone. -/
def Obligations.ResetLeavesTheColdStartValues : Prop :=
  State.reset.tablesWf ∧ State.reset.repliesBounded ∧ State.reset.inRanges ∧ State.reset.listsMatchKeys ∧
    State.reset.serialsUnique ∧ State.reset.poolBounded ∧ State.reset.listsBounded ∧ State.reset.generationsLawful ∧
    State.reset.activeKeysInOccupiedRooms ∧ State.reset.talliesMatchRooms ∧ State.reset.marksLawful ∧
    State.reset.fenceFollowsTheDesk ∧
    State.reset.pending = [] ∧
    State.reset.clock.minute = 0 ∧ State.reset.clock.second = 0 ∧ State.reset.clock.isSet = false ∧
    State.reset.settings.service = .unprovisioned ∧ State.reset.settings.fence = false ∧
    (∀ n, State.reset.key n = none) ∧ (∀ n, State.reset.room n = Room.blank) ∧ State.reset.cred.watch = [] ∧
    State.reset.cred.allowance = 0 ∧ State.reset.mini.tariffLock = false ∧ State.reset.mini.sessions = [] ∧
    State.reset.group.state = .idle ∧ State.reset.journal.state = .recovering ∧ State.reset.journal.staging = [] ∧
    (∀ l, (State.reset.link l).notices = 1#16 ∧ (State.reset.link l).replies = [] ∧ (State.reset.link l).inProgress = none ∧
      (State.reset.link l).len = 16 ∧ (State.reset.link l).attention = true)

/-- While the Desk fence is on, a Desk request that its owning block takes is answered FENCED, a SET_TIME with the current M and
S, a CHECK_IN with the room's state, a COMMISSION with the service state and the clock-set flag, any other with no content (the
model's reading, log entry 15; FFh for the state of a room above 511, log entry 14), and changes nothing else but the Credential
Manager's hand-over list: at once, at the Credential Manager when its turn has come, at the Access Evaluator when it is free, at
the Journal Unit between operations of the page array (only a program or an erase in progress holds a request up there: the model's
reading, log entry 21). A ROOM_SET is taken by the command of its action code, or by any of the four when the code names none
(log entry 17). A block that is not ready leaves the request waiting, and a command whose request is not there changes nothing
(log entry 2). -/
def Obligations.DeskFenceAnswersFencedAndChangesNothing : Prop :=
  ∀ (i : Instr) (k : ReqKind) (s : State), rowRequest i = some (k, .desk) → s.settings.fence = true →
    (s.serving .desk k = none → exec i s = .next s) ∧
    (∀ fs, s.serving .desk k = some fs →
      let ready :=
        (credentialKind k = true → s.cmTakes .desk = true) ∧
        (k = .doorSet ∨ k = .doorQuery → s.eval.op = none) ∧
        (k = .journalHealth → s.journal.writer ≠ .programming ∧ ∀ p forTurn, s.journal.writer ≠ .erasing p forTurn) ∧
        (∀ a, rowAction i = some a → fieldAt fs 2 1 = a ∨ 3 < fieldAt fs 2 1)
      let room := fieldAt fs 0 2
      let content : List Field :=
        if k = .setTime then [.num 4 s.clock.minute, .num 1 s.clock.second]
        else if k = .checkIn then [optField 1 (if room < 512 then some (roomStateCode (s.room room).state) else none)]
        else if k = .commission then [.num 1 (serviceCode s.settings.service), .flag s.clock.isSet]
        else []
      (ready → credentialKind k = true → exec i s = .next (s.taking.answer .desk .fenced content)) ∧
      (ready → credentialKind k = false → exec i s = .next (s.answer .desk .fenced content)) ∧
      (¬ ready → exec i s = .next s))

/-- A reply of at most 13 content bytes, to a request whose first reply record is not yet placed and which no link reset has
discarded, appends one 16-byte record to that link's reply queue (tag, status code, kind code, the content, 00h to the end),
ends the request in progress, and changes nothing else of the part. A discarded request is ended with no reply. A reply of
more than 13 content bytes is a series of records, each with the tag, status code and kind code, then its part number from 1
upward with 80h added in the last, then the next 12 content bytes, 00h behind the content in the last: the first joins the
reply queue, the others wait for places, and the request stays in progress. -/
def Obligations.AnswerPlacesOneReplyRecord : Prop :=
  ∀ (s : State) (l : LinkId) (st : Status) (fs : List Field) (r : Request),
    (s.link l).inProgress = some r → r.answered = false →
    let bytes := fieldBytes fs
    let head := [r.tag, BitVec.ofNat 8 (statusCode st), BitVec.ofNat 8 (kindCode r.kind)]
    (bytes.length ≤ 13 → r.discard = false →
      s.answer l st fs = s.setLink l
        { s.link l with
          inProgress := none
          replies := (s.link l).replies ++ [head ++ bytes ++ List.replicate (13 - bytes.length) 0#8] }) ∧
    (13 < bytes.length → r.discard = false →
      let n := (bytes.length + 11) / 12
      let part := fun (i : Nat) =>
        let chunk := (bytes.drop (12 * i)).take 12
        head ++ [BitVec.ofNat 8 (if i + 1 = n then 0x80 + n else i + 1)] ++ chunk ++ List.replicate (12 - chunk.length) 0#8
      s.answer l st fs = s.setLink l
        { s.link l with
          inProgress := some { r with phase := .placing ((List.range (n - 1)).map fun i => part (i + 1)) }
          replies := (s.link l).replies ++ [part 0] }) ∧
    (r.discard = true → s.answer l st fs = s.setLink l { s.link l with inProgress := none })

/-- Every step keeps the key lists right: each holds, once each, exactly the PENDING and LIVE keys with an entry for its room,
and no key and no group entry names a room twice (with the tables in their canonical form, itself kept by every step). With
the lists right, every step keeps every room entry of a PENDING or LIVE key in an OCCUPIED room. -/
def Obligations.EveryStepKeepsTheKeyListsMatchingTheKeys : Prop :=
  (∀ s t : State, s.tablesWf → s.listsMatchKeys → step s = .next t → t.listsMatchKeys) ∧
  (∀ s t : State, s.tablesWf → s.listsMatchKeys → s.activeKeysInOccupiedRooms → step s = .next t →
    t.activeKeysInOccupiedRooms)

/-- Every step keeps the bound serials of LIVE keys unique and off the Watch List (with the tables in their canonical form,
itself kept by every step). With the key lists right, every step keeps each list at no more than 8 keys, and keeps the
generations of every room: ig at most 127 ahead of cg, and no listed key's generation further ahead of cg than ig. -/
def Obligations.EveryStepKeepsLiveSerialsUniqueAndUnwatched : Prop :=
  (∀ s t : State, s.tablesWf → s.serialsUnique → step s = .next t → t.serialsUnique) ∧
  (∀ s t : State, s.tablesWf → s.listsMatchKeys → s.listsBounded → step s = .next t → t.listsBounded) ∧
  (∀ s t : State, s.tablesWf → s.listsMatchKeys → s.generationsLawful → step s = .next t → t.generationsLawful)

/-- A record written to a table reads back at its index and leaves every other index and every other field of the part as it
was (tables in their canonical form); this holds of rooms, keys, doors, tallies, sessions and group entries. -/
def Obligations.TableWritesReadBack : Prop :=
  ∀ (s : State) (n : Nat), s.tablesWf →
    (∀ r, (s.setRoom n r).room n = r ∧ (∀ m, m ≠ n → (s.setRoom n r).room m = s.room m) ∧
      s.setRoom n r = { s with cred := { s.cred with rooms := (s.setRoom n r).cred.rooms } }) ∧
    (∀ k, (s.setKey n k).key n = k ∧ (∀ m, m ≠ n → (s.setKey n k).key m = s.key m) ∧
      s.setKey n k = { s with cred := { s.cred with keys := (s.setKey n k).cred.keys } }) ∧
    (∀ d, (s.setDoor n d).door n = d ∧ (∀ m, m ≠ n → (s.setDoor n d).door m = s.door m) ∧
      s.setDoor n d = { s with eval := { s.eval with doors := (s.setDoor n d).eval.doors } }) ∧
    (∀ t, (s.setTally n t).tally n = t ∧ (∀ m, m ≠ n → (s.setTally n t).tally m = s.tally m) ∧
      s.setTally n t = { s with mini := { s.mini with tallies := (s.setTally n t).mini.tallies } }) ∧
    (∀ x, (s.setSession n x).session n = x ∧ (∀ m, m ≠ n → (s.setSession n x).session m = s.session m) ∧
      s.setSession n x = { s with mini := { s.mini with sessions := (s.setSession n x).mini.sessions } }) ∧
    (∀ e, (s.setEntry n e).entry n = e ∧ (∀ m, m ≠ n → (s.setEntry n e).entry m = s.entry m) ∧
      s.setEntry n e = { s with group := { s.group with entries := (s.setEntry n e).group.entries } })

/-! ### Site Clock (chapter 1) -/

/-- The membership of a minute of day in a band, case by case: between open and close, wrapping midnight, or empty. -/
def Obligations.BandMembershipFollowsItsThreeCases : Prop :=
  ∀ (b : Band) (t : Nat),
    (b.opens < b.closes → (b.holds t = true ↔ b.opens ≤ t ∧ t < b.closes)) ∧
    (b.closes < b.opens → (b.holds t = true ↔ b.opens ≤ t ∨ t < b.closes)) ∧
    (b.opens = b.closes → b.holds t = false)

/-- While the clock runs, a second step below 59 adds 1 to S and is a second event alone; a step from 59 sets S to 0, adds 1
to M unless M stands at 4,294,967,295, and is a second event and a minute event. While the clock is stopped nothing happens. A
minute event finds the sweep IDLE and starts a pass at key number 0, handing its visit to the Credential Manager, or finds it
RUNNING and sets the pending-pass mark; nothing else changes. (The model's own: a second event makes one idle test due, log
entry 30; the sweep's visit is handed over and arrives in the step of its event, log entry 4.) -/
def Obligations.SecondAndMinuteEventsStepTheClockAndSweep : Prop :=
  (∀ s : State, s.powered = true →
     (s.clock.isSet = false → exec .secondEvent s = .next s) ∧
     (s.clock.isSet = true → s.clock.second < 59 →
       exec .secondEvent s = .next
         { s with
           clock := { s.clock with second := s.clock.second + 1 }
           mini := { s.mini with idleDue := s.mini.idleDue + 1 } }) ∧
     (s.clock.isSet = true → s.clock.second = 59 →
       exec .secondEvent s = .next
         (State.minuteEvent
           { s with
             clock :=
               { s.clock with
                 second := 0
                 minute := min (s.clock.minute + 1) 4294967295 }
             mini := { s.mini with idleDue := s.mini.idleDue + 1 } }))) ∧
  (∀ s : State,
     (s.clock.sweep.position = none →
       s.minuteEvent =
         { s with
           clock := { s.clock with sweep := { s.clock.sweep with position := some (.key 0) } }
           cred := { s.cred with waiting := s.cred.waiting ++ [.sweep] } }) ∧
     (s.clock.sweep.position ≠ none →
       s.minuteEvent = { s with clock := { s.clock with sweep := { s.clock.sweep with pendingPass := true } } }))

/-- SET_TIME: a second above 59 is refused BAD_FIELD, a setting more than 900 seconds back while IN_SERVICE is refused
TIME_BACKWARD, each with the current M and S and no other change; any other sets M, S and the clock-set flag, raises a minute
event exactly when M changes, offers the TIME_SET record, raises the Audit notice and replies with old and new time. (The M
and S in the record's own time fields are the new ones: the model's choice, log entry 29.) -/
def Obligations.SetTimeSetsTheClockOrRefuses : Prop :=
  ∀ (s : State) (fs : List Byte), s.asked .desk .setTime fs →
    let m := fieldAt fs 0 4
    let x := fieldAt fs 4 1
    let now : List Field := [.num 4 s.clock.minute, .num 1 s.clock.second]
    let back := s.settings.service = .inService ∧ m * 60 + x + 900 < s.clock.minute * 60 + s.clock.second
    (59 < x → exec .setTime s = .next (s.answer .desk .badField now)) ∧
    (x ≤ 59 → back → exec .setTime s = .next (s.answer .desk .timeBackward now)) ∧
    (x ≤ 59 → ¬ back →
      let s1 := { s with clock := { s.clock with minute := m, second := x, isSet := true } }
      let s2 := if m = s.clock.minute then s1 else s1.minuteEvent
      let record : Rec :=
        { source := .siteClock, minute := m, second := x, body := .timeSet s.clock.minute m s.clock.second x }
      exec .setTime s = .next
        (State.answer
          { s2 with
            journal := { s2.journal with offers := s2.journal.offers ++ [record] }
            audit := { s2.audit with notices := s2.audit.notices ||| 8#16 } }
          .desk .ok [.num 4 s.clock.minute, .num 4 m, .num 1 s.clock.second, .num 1 x]))

/-- TIME_QUERY, ZONE_QUERY and SCHEDULE_QUERY reply with the clock, calendar and sweep, with the zone, with the seven bands,
and change nothing else; a zone or schedule number above 15 is refused BAD_FIELD. ROOM_QUERY replies with the stay part or the
key list part of the room record, refuses a room above 511 or a part above 1 BAD_FIELD, and changes nothing. KEY_QUERY replies
with the key's record and the counts of keys in each state, a key above 2047 refused BAD_FIELD; WATCH_QUERY replies with the
list's length, its earliest until-minute and where the serial stands on it; neither changes anything. DOOR_QUERY replies with
the door's record and the counts of enabled, HELD_OPEN and FORCED doors, refuses a door above 767 BAD_FIELD, and changes
nothing. (The model's readings: which fields share flag bytes, running 0 and ended 1, stay absent 0 and present 1, log entry
11; fields of another case left out, absent fields FFh, one count of the key list, the card image's four fields at the place
of the issue stamp, log entry 14.) -/
def Obligations.ClockRoomKeyAndDoorQueriesChangeNothing : Prop :=
  (∀ (s : State) (l : LinkId) (fs : List Byte),
     let c := s.clock
     let n := fieldAt fs 0 1
     (s.asked l .timeQuery fs →
       exec (.timeQuery l) s = .next
         (s.answer l .ok
           [.num 4 c.minute, .num 1 c.second, .flag c.isSet, .num 3 (c.minute / 1440), .num 2 (c.minute % 1440),
            .num 1 ((c.minute / 1440 + s.settings.record.elim 0 SiteRecord.epoch) % 7),
            .num 1 (if c.sweep.position = none then 0 else 1), .flag c.sweep.pendingPass, .num 2 c.sweep.passes])) ∧
     (s.asked l .zoneQuery fs →
       exec (.zoneQuery l) s = .next
         (if 15 < n then s.answer l .badField []
           else s.answer l .ok
             [.num 2 (s.zone n).band.opens, .num 2 (s.zone n).band.closes, .flag (s.zone n).guestAllowed,
              .flag (s.zone n).lockdown])) ∧
     (s.asked l .scheduleQuery fs →
       exec (.scheduleQuery l) s = .next
         (if 15 < n then s.answer l .badField []
           else s.answer l .ok
             ([0, 1, 2, 3, 4, 5, 6].flatMap fun w => [.num 2 (s.band n w).opens, .num 2 (s.band n w).closes])))) ∧
  ((∀ (s : State) (l : LinkId) (fs : List Byte), s.askedCm l .roomQuery fs →
     let room := fieldAt fs 0 2
     let r := s.room room
     exec (.roomQuery l) s = .next
       (if 512 ≤ room ∨ 1 < fieldAt fs 2 1 then s.taking.answer l .badField []
       else if fieldAt fs 2 1 = 0 then
         s.taking.answer l .ok
           ([optField 2 r.label, .num 1 (roomStateCode r.state), .raw [r.cg], .raw [r.ig], .flag r.privacy, .flag r.stay.isSome] ++
             (match r.stay with
               | some x =>
                 [.num 4 x.checkIn, .num 4 x.stayEnd, .flag (!(r.state == .occupied && decide (s.clock.minute < x.stayEnd)))]
               | none => []) ++ [.num 1 r.keyList.length])
       else
         s.taking.answer l .ok
           [.num 1 (roomStateCode r.state),
            listField 8 4 (r.keyList.map fun n =>
              bigEndian 2 n ++ bigEndian 1 (keyViewCode (keyView (s.key n))) ++ [s.listedGen room n])]))) ∧
  (∀ (s : State) (l : LinkId) (fs : List Byte),
     (s.askedCm l .keyQuery fs →
       let n := fieldAt fs 0 2
       let counts : List Field :=
         [.num 2 (s.countKeys .free), .num 2 (s.countKeys .pending), .num 2 (s.countKeys .live), .num 2 (s.countKeys .cancelled)]
       (2048 ≤ n → exec (.keyQuery l) s = .next (s.taking.answer l .badField [])) ∧
       (n < 2048 → s.key n = none → exec (.keyQuery l) s = .next (s.taking.answer l .ok (.num 1 0 :: counts))) ∧
       (∀ k, n < 2048 → s.key n = some k →
         exec (.keyQuery l) s = .next
           (s.taking.answer l .ok
             ([.num 1 (keyViewCode (keyView (some k))), .num 1 (keyKindCode (kindOfRights k.rights)), .num 4 k.issued,
               optField 2 (s.settings.record.map SiteRecord.number), optField 1 (s.settings.record.map SiteRecord.wing), .num 2 n,
               .num 2 (k.issued % 65536), .num 4 k.start, .num 4 k.stop] ++ s.rightsFields n k.rights ++
               statusFields k.status ++ [optField 1 k.origin] ++ counts)))) ∧
     (s.askedCm l .watchQuery fs →
       let serial := fieldAt fs 0 4
       let head : List Field :=
         [.num 2 s.cred.watch.length, optField 4 ((watchEarliest s.cred.watch).map WatchEntry.untilMinute)]
       ((∀ e ∈ s.cred.watch, e.serial ≠ serial) →
         exec (.watchQuery l) s = .next (s.taking.answer l .ok (head ++ [.flag false]))) ∧
       (∀ front e back, s.cred.watch = front ++ e :: back → e.serial = serial → (∀ x ∈ front, x.serial ≠ serial) →
         exec (.watchQuery l) s = .next
           (s.taking.answer l .ok
             (head ++ [.flag true, .num 1 front.length, .num 4 e.untilMinute, .num 1 (watchReasonCode e.reason)]))))) ∧
  (∀ (s : State) (l : LinkId) (fs : List Byte), s.askedEval l .doorQuery fs →
     let n := fieldAt fs 0 2
     let d := s.door n
     let count := fun (f : Door → Bool) => (s.eval.doors.filter fun p => f p.2).length
     exec (.doorQuery l) s = .next
       (if 768 ≤ n then s.answer l .badField []
       else
         s.answer l .ok
           [.num 1 (doorKindCode d.place), optField 2 (doorRoom d.place), .num 1 d.zone, .flag d.enabled, .num 1 d.unlock,
            .num 1 (conditionCode d.condition), optField 4 (d.memory.map RepeatMemory.serial),
            optField 1 (d.memory.map fun m => denyCode m.reason), optField 5 (d.memory.map RepeatMemory.stamp), .num 1 d.repeats,
            .num 2 (count Door.enabled), .num 2 (count fun d => d.condition == .heldOpen),
            .num 2 (count fun d => d.condition == .forced)]))

/-- ZONE_SET: a zone above 15, an open above 1439, a close above 1440 or a guest-allowed value above 1 is refused BAD_FIELD,
an UNPROVISIONED part answers NOT_READY; otherwise that zone's band and guest-allowed flag take the values, its lockdown flag
and every other zone stay, and the reply carries the values. ZONE_LOCKDOWN: a zone above 15 or a value above 1 is refused
BAD_FIELD, an UNPROVISIONED part answers NOT_READY; otherwise the flag takes the value, with a SECURITY record exactly when it
changes, every other zone and the zone's other fields stay, and the reply carries the flag. SCHEDULE_SET: a schedule above 15,
a mask that is empty or has a bit beyond the seven weekdays, an open above 1439 or a close above 1440 is refused BAD_FIELD, an
UNPROVISIONED part answers NOT_READY; otherwise every weekday flagged in the mask takes the band, every other band stays, and
the reply carries the seven bands as they stand afterwards. (BAD_FIELD before NOT_READY in all three is the model's choice,
log entry 33.) -/
def Obligations.ZoneAndScheduleRequestsWriteTheirRecords : Prop :=
  (∀ (s : State) (fs : List Byte), s.asked .desk .zoneSet fs →
     let z := fieldAt fs 0 1
     let o := fieldAt fs 1 2
     let c := fieldAt fs 3 2
     let g := fieldAt fs 5 1
     let bad := 15 < z ∨ 1439 < o ∨ 1440 < c ∨ 1 < g
     (bad → exec .zoneSet s = .next (s.answer .desk .badField [])) ∧
     (¬ bad → s.settings.service = .unprovisioned → exec .zoneSet s = .next (s.answer .desk .notReady [])) ∧
     (¬ bad → s.settings.service ≠ .unprovisioned →
       ∃ t : State, exec .zoneSet s = .next (t.answer .desk .ok [.num 2 o, .num 2 c, .flag (g == 1)]) ∧
         t = { s with clock := { s.clock with zones := t.clock.zones } } ∧
         (s.tablesWf → t.zone z =
           { band := { opens := o, closes := c }, guestAllowed := g == 1, lockdown := (s.zone z).lockdown }) ∧
         ∀ n, n ≠ z → t.zone n = s.zone n)) ∧
  (∀ (s : State) (fs : List Byte), s.asked .audit .zoneLockdown fs →
     let z := fieldAt fs 0 1
     let v := fieldAt fs 1 1
     let on := v == 1
     let bad := 15 < z ∨ 1 < v
     (bad → exec .zoneLockdown s = .next (s.answer .audit .badField [])) ∧
     (¬ bad → s.settings.service = .unprovisioned → exec .zoneLockdown s = .next (s.answer .audit .notReady [])) ∧
     (¬ bad → s.settings.service ≠ .unprovisioned → (s.zone z).lockdown = on →
       exec .zoneLockdown s = .next (s.answer .audit .ok [.flag on])) ∧
     (¬ bad → s.settings.service ≠ .unprovisioned → (s.zone z).lockdown ≠ on →
       ∃ t : State, exec .zoneLockdown s = .next (t.answer .audit .ok [.flag on]) ∧
         t =
           { s with
             clock := { s.clock with zones := t.clock.zones }
             journal := { s.journal with
               offers := s.journal.offers ++
                 [{ source := .siteClock, minute := s.clock.minute, second := s.clock.second,
                    body := .security (.lockdownChange z on) }] } } ∧
         (s.tablesWf → t.zone z = { s.zone z with lockdown := on }) ∧ ∀ n, n ≠ z → t.zone n = s.zone n)) ∧
  (∀ (s : State) (fs : List Byte), s.asked .desk .scheduleSet fs →
     let n := fieldAt fs 0 1
     let mask := fieldAt fs 1 1
     let o := fieldAt fs 2 2
     let c := fieldAt fs 4 2
     let bad := 15 < n ∨ mask = 0 ∨ 127 < mask ∨ 1439 < o ∨ 1440 < c
     (bad → exec .scheduleSet s = .next (s.answer .desk .badField [])) ∧
     (¬ bad → s.settings.service = .unprovisioned → exec .scheduleSet s = .next (s.answer .desk .notReady [])) ∧
     (¬ bad → s.settings.service ≠ .unprovisioned →
       ∃ t : State, exec .scheduleSet s = .next
           (t.answer .desk .ok
             ([0, 1, 2, 3, 4, 5, 6].flatMap fun w => [.num 2 (t.band n w).opens, .num 2 (t.band n w).closes])) ∧
         t = { s with clock := { s.clock with schedules := t.clock.schedules } } ∧
         (s.tablesWf → ∀ m w, m ≤ 15 → w ≤ 6 →
           t.band m w = if m = n ∧ mask.testBit w then { opens := o, closes := c } else s.band m w)))

/-- The sweep's visit to a key number: nothing for a FREE key or one not due; a LIVE key at or past its end (a GUEST key: its
end plus grace) becomes CANCELLED EXPIRED at M with a KEY_EXPIRED record; a PENDING key at or past its deadline becomes FREE
with a KEY_EXPIRED record of a lapse and the Desk notice ENCODE_LAPSED; a key CANCELLED 1,440 minutes or more ago becomes
FREE. A key that leaves PENDING or LIVE leaves the list of every room it names, the other keys there keep their order, and ig
of each such room is recomputed over them; every other room and key stays. The next visit is the next key number, or the Watch
List after 2,047, handed over in the same step (the model's reading, log entry 4). -/
def Obligations.SweepVisitExpiresOneKey : Prop :=
  ∀ (s : State) (n : Nat), s.tablesWf → s.clock.sweep.position = some (.key n) → s.cmTakes .sweep = true →
    let m := s.clock.minute
    let record := fun (lapsed : Bool) =>
      ({ source := .credentialManager, minute := m, second := s.clock.second, body := .keyExpired n lapsed } : Rec)
    let left := fun (t : State) (k : KeyRec) =>
      ∀ r, t.room r = if r ∈ k.entries.map Entry.room then s.roomWithout n r else s.room r
    ∃ t : State, exec .sweepKeyVisit s = .next t ∧
      t.clock = { s.clock with sweep := { s.clock.sweep with position := some (if n < 2047 then .key (n + 1) else .watch) } } ∧
      t.cred.waiting = s.cred.waiting.tail ++ [.sweep] ∧
      t = { s with
        clock := t.clock, cred := { s.cred with waiting := t.cred.waiting, rooms := t.cred.rooms, keys := t.cred.keys }
        journal := { s.journal with offers := t.journal.offers }, desk := { s.desk with notices := t.desk.notices } } ∧
      (∀ j, j ≠ n → t.key j = s.key j) ∧
      (s.key n = none → t.key n = none ∧ t.cred.rooms = s.cred.rooms ∧ t.journal.offers = s.journal.offers ∧
        t.desk.notices = s.desk.notices) ∧
      (∀ k, s.key n = some k →
        let due :=
          match k.status with
          | .live _ => (if kindOfRights k.rights = .guest then k.stop + s.settings.grace else k.stop) ≤ m
          | .pending deadline => deadline ≤ m
          | .cancelled _ minute _ => minute + 1440 ≤ m
        (¬ due → t.key n = some k ∧ t.cred.rooms = s.cred.rooms ∧ t.journal.offers = s.journal.offers ∧
          t.desk.notices = s.desk.notices) ∧
        (due →
          match k.status with
          | .live serial =>
            t.key n = some { k with status := .cancelled .expired m (some serial) } ∧
              t.journal.offers = s.journal.offers ++ [record false] ∧ t.desk.notices = s.desk.notices ∧ left t k
          | .pending _ =>
            t.key n = none ∧ t.journal.offers = s.journal.offers ++ [record true] ∧
              t.desk.notices = s.desk.notices ||| 8#16 ∧ left t k
          | .cancelled _ _ _ =>
            t.key n = none ∧ t.cred.rooms = s.cred.rooms ∧ t.journal.offers = s.journal.offers ∧
              t.desk.notices = s.desk.notices))

/-- The sweep's visit to the Watch List removes every entry whose until-minute is at or before M, keeps the others in their
order, and offers a WATCH_CHANGE record of cause EXPIRED for each removal in list order; no key changes. The visit to the
allowance is next, handed over in the same step (the model's reading, log entry 4). -/
def Obligations.SweepVisitRemovesPastWatchEntries : Prop :=
  ∀ s : State, s.clock.sweep.position = some .watch → s.cmTakes .sweep = true →
    exec .sweepWatchVisit s = .next
      { s with
        clock := { s.clock with sweep := { s.clock.sweep with position := some .allowance } }
        cred :=
          { s.cred with
            waiting := s.cred.waiting.tail ++ [.sweep]
            watch := s.cred.watch.filter fun e => decide (s.clock.minute < e.untilMinute) }
        journal := { s.journal with
          offers := s.journal.offers ++
            (s.cred.watch.filter fun e => decide (e.untilMinute ≤ s.clock.minute)).map fun e =>
              { source := .credentialManager, minute := s.clock.minute, second := s.clock.second,
                body := .watchChange (.expired e.serial e.reason) } } }

/-! ### Rooms and stays (chapter 2) -/

/-- CHECK_IN is refused NOT_READY in UNPROVISIONED, BAD_FIELD for a room above 511 or a stay end not after M, ROOM_STATE for a
running stay or an OUT_OF_SERVICE room, each with the room's state; otherwise the check-in goes on at the Minibar Accounting
Unit, with the credit limit held to 9,999,999 and, over an ended stay, a tally-close first. CHECK_OUT is refused NOT_READY in
UNPROVISIONED, BAD_FIELD for a room above 511 and ROOM_STATE for a room that is not OCCUPIED; otherwise it goes on at the
Minibar Accounting Unit with the stay end trimmed to M. (The model's readings: the first step writes no table, the trimmed
stay end being held in the operation until its last step, log entry 6; a room above 511 has FFh for its state, log entry 14.) -/
def Obligations.CheckInAndCheckOutAreCheckedAndHandedOver : Prop :=
  (∀ (s : State) (fs : List Byte), s.askedCm .desk .checkIn fs →
     let room := fieldAt fs 0 2
     let stayEnd := fieldAt fs 2 4
     let r := s.room room
     let refuse := fun (st : Status) =>
       s.taking.answer .desk st [optField 1 (if room < 512 then some (roomStateCode r.state) else none)]
     let running := r.state = .occupied ∧ s.clock.minute < r.stay.elim 0 Stay.stayEnd
     exec .checkIn s = .next
       (if s.settings.service = .unprovisioned then refuse .notReady
       else if 512 ≤ room then refuse .badField
       else if stayEnd ≤ s.clock.minute then refuse .badField
       else if running then refuse .roomState
       else if r.state = .outOfService then refuse .roomState
       else
         State.goesOn
           { s.taking with
             cred := { s.taking.cred with
               op := some (.checkIn
                 { origin := .desk, minute := s.clock.minute, second := s.clock.second, stayEnd := stayEnd
                   limit := min (fieldAt fs 6 3) 9999999, rooms := [room], todo := [room]
                   closing := r.state == .occupied, earlier := none }) } }
           .desk)) ∧
  (∀ (s : State) (fs : List Byte), s.askedCm .desk .checkOut fs →
     let room := fieldAt fs 0 2
     let m := s.clock.minute
     exec .checkOut s = .next
       (if s.settings.service = .unprovisioned then s.taking.answer .desk .notReady []
       else if 512 ≤ room then s.taking.answer .desk .badField []
       else if (s.room room).state ≠ .occupied then s.taking.answer .desk .roomState []
       else
         State.goesOn
           { s.taking with
             cred := { s.taking.cred with
               op := some (.checkOut room m s.clock.second (min m ((s.room room).stay.elim m Stay.stayEnd))) } }
           .desk))

/-- TALLY_OPEN opens the room's tally at 0 with the given limit and offers STAY_OPEN. At the last room of the check-in every
room of the operation becomes OCCUPIED with privacy off and the stay from the operation's minute to its stay end, the
operation is over, and a Desk check-in is answered; before the last room the operation goes on with the next room. A warm
start in place of the command completes the operation as the commands would: what it leaves is what it leaves after this
tally-open. (The model's readings: the rooms are written in the last step, log entry 6; record and check-in minute carry the
operation's M and S, log entry 5.) -/
def Obligations.TallyOpenChecksTheRoomIn : Prop :=
  ∀ (s : State) (op : CheckInOp) (r : Nat) (rest : List Nat), s.tablesWf → s.powered = true →
    s.cred.op = some (.checkIn op) → op.closing = false → op.todo = r :: rest →
    ∃ t : State,
      exec .tallyOpen s = .next
        (match rest, op.origin with
          | [], .desk =>
            let room := op.rooms.head?.getD 0
            t.answer .desk .ok
              ([.num 2 room, optField 2 (t.room room).label, .num 4 op.minute, .num 4 op.stayEnd, .num 3 op.limit,
                .flag op.earlier.isSome] ++ op.earlier.toList.map fun n => .num 3 n)
          | [], .group _ => (t.groupPhase .rest).groupAfterStep
          | _ :: _, _ => t) ∧
      t.tally r = { s.tally r with isOpen := true, limit := op.limit, tally := 0, saturated := false } ∧
      (∀ n, n ≠ r → t.tally n = s.tally n) ∧
      (∀ n, t.room n =
        if rest = [] ∧ n ∈ op.rooms then
          { s.room n with
            state := .occupied, privacy := false, stay := some { checkIn := op.minute, stayEnd := op.stayEnd } }
        else s.room n) ∧
      (∀ n, t.entry n =
        if rest = [] ∧ op.origin = .group n then { s.entry n with checkedIn := true } else s.entry n) ∧
      t =
        { s with
          cred := { s.cred with
            rooms := t.cred.rooms
            op :=
              match rest with
              | [] => none
              | r' :: _ => some (.checkIn { op with todo := rest, closing := (s.room r').state == .occupied }) }
          mini := { s.mini with tallies := t.mini.tallies }
          group := { s.group with entries := t.group.entries }
          journal := { s.journal with
            offers := s.journal.offers ++
              [{ source := .credentialManager, minute := op.minute, second := op.second
                 body := .stayOpen r (s.room r).label op.minute op.stayEnd op.limit op.origin }] } } ∧
      (op.todo.length ≤ 4 →
        ∀ cause slotRead, exec (.warmStart cause slotRead) s = exec (.warmStart cause slotRead) t)

/-- TALLY_CLOSE for a check-out closes the session on the room's minibar, closes the tally, and then cancels CHECKED_OUT every
listed key that names this room alone, takes this room from every other listed key, empties the list, sets the current
generation to the issued one, makes the room DEPARTED with privacy off and the trimmed stay end, offers STAY_CLOSE and
replies. TALLY_CLOSE for a check-in over an ended stay closes the session on the room's minibar and the tally, offers
STAY_CLOSE with cause RECHECKIN and the number of keys kept, and the check-in goes on to its tally-open; no room and no key
changes. (The model's readings: rooms and keys are written in this last step, log entry 6; the records and the cancel minute
carry the M and S of the operation's first step, log entry 5.) -/
def Obligations.TallyCloseEndsTheStay : Prop :=
  (∀ (s : State) (room minute second stayEnd : Nat), s.tablesWf → s.listsMatchKeys → s.powered = true →
     s.cred.op = some (.checkOut room minute second stayEnd) →
     let tally := s.tally room
     let r := s.room room
     let lone := fun n => ((s.key n).elim 0 fun k => k.entries.length) ≤ 1
     let dead := (r.keyList.filter fun n => decide (lone n)).length
     let kept := (r.keyList.filter fun n => !decide (lone n)).length
     ∃ t : State,
       exec .tallyClose s = .next
         (t.answer .desk .ok
           [.num 2 room, .num 3 tally.tally, .flag tally.saturated, .num 4 stayEnd, .num 1 dead, .num 1 kept]) ∧
       t.room room =
         { r with
           state := .departed, cg := r.ig, keyList := [], privacy := false
           stay := some { checkIn := r.stay.elim 0 Stay.checkIn, stayEnd := stayEnd } } ∧
       (∀ n, n ≠ room → t.room n = s.room n) ∧
       (∀ n k, s.key n = some k → n ∈ r.keyList →
         t.key n =
           if lone n then some (k.cancelled .checkedOut minute)
           else some (k.withEntries (k.entries.filter fun e => e.room != room))) ∧
       (∀ n, n ∉ r.keyList → t.key n = s.key n) ∧
       t.tally room = { tally with isOpen := false } ∧ (∀ n, n ≠ room → t.tally n = s.tally n) ∧
       (∀ d, t.session d = if tally.door = some d then none else s.session d) ∧
       t =
         { s with
           cred := { s.cred with rooms := t.cred.rooms, keys := t.cred.keys, op := none }
           mini := { s.mini with tallies := t.mini.tallies, sessions := t.mini.sessions }
           journal := { s.journal with
             offers := s.journal.offers ++ (tally.door.elim [] fun d => s.closingRecords d .checkOut) ++
               ((r.keyList.filter fun n => decide (lone n)).map fun n =>
                 { source := .credentialManager, minute := minute, second := second, body := .keyCancelled n .checkedOut false }) ++
               [{ source := .credentialManager, minute := minute, second := second
                  body := .stayClose room r.label (r.stay.elim 0 Stay.checkIn) stayEnd tally.tally tally.saturated dead kept
                    .checkOut }] } }) ∧
  (∀ (s : State) (op : CheckInOp) (room : Nat) (rest : List Nat), s.tablesWf → s.powered = true →
     s.cred.op = some (.checkIn op) → op.closing = true → op.todo = room :: rest →
     let tally := s.tally room
     let r := s.room room
     ∃ t : State, exec .tallyClose s = .next t ∧
       t.tally room = { tally with isOpen := false } ∧ (∀ n, n ≠ room → t.tally n = s.tally n) ∧
       (∀ d, t.session d = if tally.door = some d then none else s.session d) ∧
       t =
         { s with
           cred := { s.cred with op := some (.checkIn { op with closing := false, earlier := some tally.tally }) }
           mini := { s.mini with tallies := t.mini.tallies, sessions := t.mini.sessions }
           journal := { s.journal with
             offers := s.journal.offers ++ (tally.door.elim [] fun d => s.closingRecords d .recheckin) ++
               [{ source := .credentialManager, minute := op.minute, second := op.second
                  body := .stayClose room r.label (r.stay.elim 0 Stay.checkIn) (r.stay.elim 0 Stay.stayEnd) tally.tally
                    tally.saturated 0 r.keyList.length .recheckin }] } })

/-- EXTEND_STAY is refused NOT_READY in UNPROVISIONED, BAD_FIELD for a room above 511 or a stay end not after M, ROOM_STATE
for a room not OCCUPIED; otherwise it replaces the stay end and replies with the old and the new. ROOM_SET (READY, OUT, BACK
by its action code) is refused NOT_READY and BAD_FIELD likewise, and ROOM_STATE from a state its action does not allow;
otherwise the room takes the action's state with no stay and privacy off, and the reply carries that state. LABEL is refused
BAD_FIELD for a label of 0 or above 9,999, and with the other room's index for one that another room holds; otherwise the room
takes the label. An action code above 3 is refused NOT_READY in UNPROVISIONED and otherwise BAD_FIELD, by whichever of the
four commands takes it (the model's choice, log entry 17). -/
def Obligations.StayAndRoomSettingsAreWrittenOrRefused : Prop :=
  ∀ (s : State) (fs : List Byte),
    let room := fieldAt fs 0 2
    let r := s.room room
    let say := fun (st : Status) => s.taking.answer .desk st []
    let move := fun (allowed : Bool) (target : RoomState) =>
      if s.settings.service = .unprovisioned then say .notReady
      else if 512 ≤ room then say .badField
      else if allowed then
        (s.taking.setRoom room { r with state := target, stay := none, privacy := false }).answer .desk .ok
          [.num 1 (roomStateCode target)]
      else say .roomState
    (s.askedCm .desk .extendStay fs →
      let stayEnd := fieldAt fs 2 4
      exec .extendStay s = .next
        (if s.settings.service = .unprovisioned then say .notReady
        else if 512 ≤ room then say .badField
        else if stayEnd ≤ s.clock.minute then say .badField
        else if r.state ≠ .occupied then say .roomState
        else
          (s.taking.setRoom room { r with stay := r.stay.map fun x => { x with stayEnd := stayEnd } }).answer .desk .ok
            [.num 4 (r.stay.elim 0 Stay.stayEnd), .num 4 stayEnd])) ∧
    (s.askedCm .desk .roomSet fs →
      (fieldAt fs 2 1 = 0 → exec .roomSetReady s = .next (move (r.state == .departed) .vacant)) ∧
      (fieldAt fs 2 1 = 1 →
        exec .roomSetOut s = .next (move (r.state == .vacant || r.state == .departed) .outOfService)) ∧
      (fieldAt fs 2 1 = 2 → exec .roomSetBack s = .next (move (r.state == .outOfService) .vacant)) ∧
      (fieldAt fs 2 1 = 3 →
        let label := fieldAt fs 3 2
        (s.settings.service = .unprovisioned → exec .roomSetLabel s = .next (say .notReady)) ∧
        (s.settings.service ≠ .unprovisioned → 512 ≤ room ∨ label = 0 ∨ 9999 < label →
          exec .roomSetLabel s = .next (say .badField)) ∧
        (s.settings.service ≠ .unprovisioned → room < 512 → 0 < label → label ≤ 9999 → s.tablesWf →
          ((∀ n, n ≠ room → (s.room n).label ≠ some label) →
            exec .roomSetLabel s = .next
              ((s.taking.setRoom room { r with label := some label }).answer .desk .ok [.num 2 room, .num 2 label])) ∧
          (∀ n, n ≠ room → (s.room n).label = some label →
            ∃ other, other ≠ room ∧ (s.room other).label = some label ∧
              exec .roomSetLabel s = .next (s.taking.answer .desk .badField [.num 2 other])))) ∧
      (3 < fieldAt fs 2 1 → ∀ i ∈ [Instr.roomSetReady, .roomSetOut, .roomSetBack, .roomSetLabel],
        exec i s = .next (if s.settings.service = .unprovisioned then say .notReady else say .badField)))

/-! ### Keys, the Watch List, the allowance (chapter 3) -/

/-- The allocation of a key number: the lowest-numbered FREE key; with none FREE, the CANCELLED key with the earliest cancel
minute and, of several, the lowest-numbered, with its cancel reason; none when every key is PENDING or LIVE. -/
def Obligations.AllocationTakesTheLowestFreeKey : Prop :=
  ∀ s : State, s.tablesWf →
    (∀ n, n < 2048 → s.key n = none → (∀ m, m < n → s.key m ≠ none) → s.allocate = some (n, none)) ∧
    ((∀ n, n < 2048 → s.key n ≠ none) →
      (∀ n k reason minute serial, s.key n = some k → k.status = .cancelled reason minute serial →
        (∀ m j r x y, s.key m = some j → j.status = .cancelled r x y → minute < x ∨ minute = x ∧ n ≤ m) →
        s.allocate = some (n, some reason)) ∧
      ((∀ n k, s.key n = some k → k.isActive = true) → s.allocate = none))

/-- ISSUE_KEY is refused NOT_IN_SERVICE outside IN_SERVICE, BAD_FIELD for fields no kind admits, then, each test over every
listed room before the next, ROOM_STATE, ROOM_KEYS_FULL and (mode NEW) GEN_WINDOW with the first failing room, then BAD_FIELD
for a window that does not stand, NO_ALLOWANCE for an EMERGENCY key with no allowance, TABLE_FULL with no key to allocate; a
refusal changes nothing but the queue it came from. The fields that a kind admits: GUEST a mode of 0 or 1, 1 to 4 distinct rooms
below 512 and a minibar right of 0 or 1; the other kinds no room; STAFF a schedule below 16 and a restock right of 0 or 1;
SERVICE a use or more (every field at its place whatever the kind: the model's reading, log entry 28). The window: a start of 0
is M; an end of 0 is the earliest stay end of a GUEST key's rooms, start plus 1,440 for an EMERGENCY key, and refused for the
others; an EMERGENCY end is held to start plus 1,440, which must exist; an end at or before the start or M is refused. The
checks of a group copy are those of an ISSUE_KEY from ROOM_STATE on, with the room each names. -/
def Obligations.IssueKeyIsRefusedAtItsFirstFailure : Prop :=
  (∀ (s : State) (fs : List Byte), s.askedCm .desk .issueKey fs →
    let say := fun (st : Status) (room : List Nat) => s.taking.answer .desk st (room.map fun r => .num 2 r)
    (s.settings.service ≠ .inService → exec .issueKey s = .next (say .notInService [])) ∧
    (s.settings.service = .inService → issueOrderOf fs = none → exec .issueKey s = .next (say .badField [])) ∧
    (∀ o, s.settings.service = .inService → issueOrderOf fs = some o →
      let closed := o.rooms.find? fun r => (s.room r).state != .occupied
      let full := o.rooms.find? fun r => decide (8 ≤ (s.room r).keyList.length)
      let isNew := ∃ rooms zones minibar, o.rights = .guest .new rooms zones minibar
      let far := o.rooms.find? fun r => decide (127 < ((s.room r).ig + 1#8 - (s.room r).cg).toNat)
      (∀ r, closed = some r → exec .issueKey s = .next (say .roomState [r])) ∧
      (∀ r, closed = none → full = some r → exec .issueKey s = .next (say .roomKeysFull [r])) ∧
      (∀ r, closed = none → full = none → isNew → far = some r → exec .issueKey s = .next (say .genWindow [r])) ∧
      (closed = none → full = none → (isNew → far = none) →
        (issueWindow s o = none → exec .issueKey s = .next (say .badField [])) ∧
        (issueWindow s o ≠ none → o.rights = .emergency → s.cred.allowance = 0 →
          exec .issueKey s = .next (say .noAllowance [])) ∧
        (issueWindow s o ≠ none → ¬ (o.rights = .emergency ∧ s.cred.allowance = 0) → s.allocate = none →
          exec .issueKey s = .next (say .tableFull []))))) ∧
  (∀ fs : List Byte,
    let kind := fieldAt fs 0 1
    let mode := fieldAt fs 1 1
    let count := fieldAt fs 2 1
    let rooms := (List.range (min count 4)).map fun i => fieldAt fs (3 + 2 * i) 2
    let zones := BitVec.ofNat 16 (fieldAt fs 19 2)
    let order := fun (r : IssueRights) =>
      some ({ rights := r, start := fieldAt fs 11 4, stop := fieldAt fs 15 4, origin := .desk } : IssueOrder)
    issueOrderOf fs =
      if kind = 0 then
        if 1 < mode ∨ count = 0 ∨ 4 < count ∨ (∃ r ∈ rooms, 512 ≤ r) ∨ ¬ rooms.Nodup ∨ 1 < fieldAt fs 23 1 then none
        else order (.guest (if mode = 0 then .new else .copy) rooms zones (fieldAt fs 23 1 == 1))
      else if kind = 1 then
        if count ≠ 0 ∨ 15 < fieldAt fs 21 1 ∨ 1 < fieldAt fs 24 1 then none
        else order (.staff zones (fieldAt fs 21 1) (fieldAt fs 24 1 == 1))
      else if kind = 2 then
        if count ≠ 0 ∨ fieldAt fs 22 1 = 0 then none else order (.service zones (fieldAt fs 22 1))
      else if kind = 3 then
        if count ≠ 0 then none else order .emergency
      else none) ∧
  (∀ (s : State) (o : IssueOrder),
    let m := s.clock.minute
    let start := if o.start = 0 then m else o.start
    let fits := fun (stop : Nat) => if stop ≤ start ∨ stop ≤ m then none else some (start, stop)
    issueWindow s o =
      match o.rights with
      | .guest _ rooms _ _ =>
        if o.stop = 0 then ((rooms.filterMap fun r => (s.room r).stay.map Stay.stayEnd).min?).elim none fits else fits o.stop
      | .staff _ _ _ => if o.stop = 0 then none else fits o.stop
      | .service _ _ => if o.stop = 0 then none else fits o.stop
      | .emergency =>
        if 4294967295 - 1440 < start then none
        else fits (if o.stop = 0 then start + 1440 else min o.stop (start + 1440))) ∧
  (∀ (s : State) (o : IssueOrder),
    let m := s.clock.minute
    let closed := o.rooms.find? fun r => (s.room r).state != .occupied
    let full := o.rooms.find? fun r => decide (8 ≤ (s.room r).keyList.length)
    let far := fun (rooms : List Nat) => rooms.find? fun r => decide (127 < ((s.room r).ig + 1#8 - (s.room r).cg).toNat)
    let ok := closed = none ∧ full = none ∧ ∀ rooms zones minibar, o.rights = .guest .new rooms zones minibar → far rooms = none
    (∀ r, closed = some r → s.issueCheck o = .refused .roomState (some r)) ∧
    (∀ r, closed = none → full = some r → s.issueCheck o = .refused .roomKeysFull (some r)) ∧
    (∀ r rooms zones minibar, closed = none → full = none → o.rights = .guest .new rooms zones minibar → far rooms = some r →
      s.issueCheck o = .refused .genWindow (some r)) ∧
    (ok → issueWindow s o = none → s.issueCheck o = .refused .badField none) ∧
    (ok → issueWindow s o ≠ none → o.rights = .emergency → s.cred.allowance = 0 →
      s.issueCheck o = .refused .noAllowance none) ∧
    (∀ start stop, ok → issueWindow s o = some (start, stop) → ¬ (o.rights = .emergency ∧ s.cred.allowance = 0) →
      (s.allocate = none → s.issueCheck o = .refused .tableFull none) ∧
      (∀ n reused, s.allocate = some (n, reused) →
        s.issueCheck o = .accepted n
          { status := .pending (min (m + s.settings.encodeDeadline) 4294967295)
            rights :=
              match o.rights with
              | .guest mode rooms zones minibar =>
                .guest
                  (rooms.map fun r =>
                    { room := r, gen := match mode with | .new => (s.room r).ig + 1#8 | .copy => (s.room r).ig }) zones minibar
              | .staff zones schedule restock => .staff zones schedule restock
              | .service zones uses => .service zones uses
              | .emergency => .emergency
            issued := m, start := start, stop := stop
            origin := match o.origin with | .desk => none | .group e _ => some e }
          reused)))

/-- An ISSUE_KEY that passes its checks makes the allocated key PENDING, issued at M, with its window, its rights and an
encode deadline of M plus the setting; puts it at the end of the list of every named room, with ig raised to its generation
where that is further on; takes one from the allowance for an EMERGENCY key, with the Audit notice; and replies with the card
image. The same application serves a group copy: its key joins the lists of its rooms in order, and its records carry the
origin. The card image is site number, wing, key number and issue stamp in 7 bytes, then 255 less their sum modulo 256; a
CARD_IMAGE reply carries entry, copy and image. -/
def Obligations.IssuedKeyIsPendingAndListed : Prop :=
  (∀ (s : State) (fs : List Byte) (o : IssueOrder) (n start stop : Nat) (reused : Option CancelReason), s.tablesWf →
    s.askedCm .desk .issueKey fs → s.settings.service = .inService → issueOrderOf fs = some o →
    (∀ r ∈ o.rooms, (s.room r).state = .occupied ∧ (s.room r).keyList.length < 8) →
    (∀ rooms zones minibar, o.rights = .guest .new rooms zones minibar →
      ∀ r ∈ rooms, ((s.room r).ig + 1#8 - (s.room r).cg).toNat ≤ 127) →
    issueWindow s o = some (start, stop) → (o.rights = .emergency → 0 < s.cred.allowance) → s.allocate = some (n, reused) →
    let deadline := min (s.clock.minute + s.settings.encodeDeadline) 4294967295
    let gen := fun (r : Nat) =>
      match o.rights with
      | .guest .new _ _ _ => (s.room r).ig + 1#8
      | _ => (s.room r).ig
    let rights : KeyRights :=
      match o.rights with
      | .guest _ rooms zones minibar => .guest (rooms.map fun r => { room := r, gen := gen r }) zones minibar
      | .staff zones schedule restock => .staff zones schedule restock
      | .service zones uses => .service zones uses
      | .emergency => .emergency
    let k : KeyRec :=
      { status := .pending deadline, rights := rights, issued := s.clock.minute, start := start, stop := stop, origin := none }
    ∃ t : State,
      exec .issueKey s = .next (t.answer .desk .ok (issueFields n k (s.imageOf n k))) ∧
      t.key n = some k ∧ (∀ m, m ≠ n → t.key m = s.key m) ∧
      (∀ r, r ∉ o.rooms → t.room r = s.room r) ∧
      (∀ r ∈ o.rooms,
        t.room r =
          { s.room r with
            keyList := (s.room r).keyList ++ [n]
            ig :=
              if ((s.room r).ig - (s.room r).cg).toNat < (gen r - (s.room r).cg).toNat then gen r else (s.room r).ig }) ∧
      (o.rights ≠ .emergency → t.cred.allowance = s.cred.allowance ∧ t.audit = s.audit) ∧
      (o.rights = .emergency →
        t.cred.allowance = s.cred.allowance - 1 ∧ t.audit = { s.audit with notices := s.audit.notices ||| 64#16 }) ∧
      t =
        { s.taking with
          cred := { s.taking.cred with rooms := t.cred.rooms, keys := t.cred.keys, allowance := t.cred.allowance }
          audit := t.audit
          journal := { s.journal with
            offers := s.journal.offers ++
              s.recordNow .credentialManager
                  (.keyIssued n (kindOfRights rights) start stop .desk reused
                    (if o.rights = .emergency then some (s.cred.allowance - 1) else none)) ::
                (match rights with
                  | .guest entries _ _ => [s.recordNow .credentialManager (.keyIssuedRooms n entries)]
                  | _ => []) } }) ∧
  (∀ (s : State) (o : IssueOrder) (n : Nat) (k : KeyRec) (reused : Option CancelReason), s.tablesWf →
    (k.entries.map Entry.room).Nodup →
    let t := s.issueApply o n k reused
    let isEmergency := o.rights = .emergency
    let kind : KeyKind :=
      match o.rights with
      | .guest _ _ _ _ => .guest
      | .staff _ _ _ => .staff
      | .service _ _ => .service
      | .emergency => .emergency
    t.key n = some k ∧ (∀ m, m ≠ n → t.key m = s.key m) ∧
    (∀ r, r ∉ k.entries.map Entry.room → t.room r = s.room r) ∧
    (∀ e ∈ k.entries,
      let r := s.room e.room
      t.room e.room =
        { r with
          keyList := r.keyList ++ [n]
          ig := if (r.ig - r.cg).toNat < (e.gen - r.cg).toNat then e.gen else r.ig }) ∧
    t =
      { s with
        cred := { s.cred with
          rooms := t.cred.rooms, keys := t.cred.keys
          allowance := if isEmergency then s.cred.allowance - 1 else s.cred.allowance }
        audit := if isEmergency then { s.audit with notices := s.audit.notices ||| 64#16 } else s.audit
        journal := { s.journal with
          offers := s.journal.offers ++
            s.recordNow .credentialManager
                (.keyIssued n kind k.start k.stop o.origin reused (if isEmergency then some (s.cred.allowance - 1) else none)) ::
              (if kind = .guest then [s.recordNow .credentialManager (.keyIssuedRooms n k.entries)] else []) } }) ∧
  (∀ (s : State) (n : Nat) (k : KeyRec) (site : SiteRecord), s.settings.record = some site →
    let bytes := bigEndian 2 site.number ++ bigEndian 1 site.wing ++ bigEndian 2 n ++ bigEndian 2 (k.issued % 65536)
    s.imageOf n k = bytes ++ [BitVec.ofNat 8 (255 - (bytes.map BitVec.toNat).sum % 256)]) ∧
  (∀ (tag : Option Byte) (entry copy : Nat) (image : List Byte), image.length = 8 →
    cardImageReply tag entry copy image =
      [tag.getD 0#8, 0#8, 0x4F#8, BitVec.ofNat 8 entry, BitVec.ofNat 8 copy] ++ image ++ List.replicate 3 0#8)

/-- CONFIRM_ENCODE is refused NOT_READY in UNPROVISIONED, BAD_FIELD for a key above 2047, KEY_STATE for a key not PENDING,
BAD_FIELD for serial 0, SERIAL_IN_USE for a serial bound to a LIVE key, SERIAL_WATCHED for one on the Watch List; otherwise
the key becomes LIVE bound to the serial, with a KEY_ENCODED record and its window in the reply. -/
def Obligations.ConfirmEncodeBindsThePendingKey : Prop :=
  ∀ (s : State) (fs : List Byte), s.tablesWf → s.askedCm .desk .confirmEncode fs →
    let n := fieldAt fs 0 2
    let serial := fieldAt fs 2 4
    let say := fun (st : Status) => s.taking.answer .desk st []
    let bound := ∃ m k, s.key m = some k ∧ k.status = .live serial
    let watched := ∃ e ∈ s.cred.watch, e.serial = serial
    (s.settings.service = .unprovisioned → exec .confirmEncode s = .next (say .notReady)) ∧
    (s.settings.service ≠ .unprovisioned → 2048 ≤ n → exec .confirmEncode s = .next (say .badField)) ∧
    (s.settings.service ≠ .unprovisioned → n < 2048 →
      ((∀ k deadline, s.key n = some k → k.status ≠ .pending deadline) → exec .confirmEncode s = .next (say .keyState)) ∧
      (∀ k deadline, s.key n = some k → k.status = .pending deadline →
        (serial = 0 → exec .confirmEncode s = .next (say .badField)) ∧
        (serial ≠ 0 → bound → exec .confirmEncode s = .next (say .serialInUse)) ∧
        (serial ≠ 0 → ¬ bound → watched → exec .confirmEncode s = .next (say .serialWatched)) ∧
        (serial ≠ 0 → ¬ bound → ¬ watched →
          exec .confirmEncode s = .next
            (((s.taking.setKey n (some { k with status := .live serial })).offering
              [s.recordNow .credentialManager (.keyEncoded n serial)]).answer .desk .ok
              [.num 2 n, .num 4 serial, .num 4 k.start, .num 4 k.stop]))))

/-- CANCEL_KEY and REPORT_LOST are refused NOT_READY in UNPROVISIONED, BAD_FIELD for a key above 2047, KEY_STATE for a key
that is FREE or CANCELLED. CANCEL_KEY frees a PENDING key and cancels a LIVE key with reason DESK, with a KEY_CANCELLED
record; the key leaves the list of every room it names, the other keys there keep their order, ig of each is recomputed, and
nothing else but that key changes. REPORT_LOST of a PENDING or LIVE key cancels it with reason LOST, takes it off its lists
likewise, offers KEY_CANCELLED, and, for a LIVE key, enters its serial on the Watch List until its end plus 10,080 by the add
procedure (a Watch List full of later entries leaves the list as it is: outcome FULL). The reply names the evicted serial
where one was evicted. (The model's readings: the outcome codes ADDED 0, an update among them, FULL 1, none 2, log entry 12;
which fields stand for which outcome, log entry 14.) -/
def Obligations.CancelKeyAndReportLostEndTheKey : Prop :=
  (∀ (s : State) (fs : List Byte), s.tablesWf →
     let n := fieldAt fs 0 2
     let say := fun (st : Status) => s.taking.answer .desk st []
     (s.askedCm .desk .reportLost fs →
       (s.settings.service = .unprovisioned → exec .reportLost s = .next (say .notReady)) ∧
       (s.settings.service ≠ .unprovisioned → 2048 ≤ n → exec .reportLost s = .next (say .badField)) ∧
       (s.settings.service ≠ .unprovisioned → n < 2048 → (∀ k, s.key n = some k → k.isActive = false) →
         exec .reportLost s = .next (say .keyState))) ∧
     (s.askedCm .desk .cancelKey fs →
       (s.settings.service = .unprovisioned → exec .cancelKey s = .next (say .notReady)) ∧
       (s.settings.service ≠ .unprovisioned → 2048 ≤ n → exec .cancelKey s = .next (say .badField)) ∧
       (s.settings.service ≠ .unprovisioned → n < 2048 →
         ((∀ k, s.key n = some k → k.isActive = false) → exec .cancelKey s = .next (say .keyState)) ∧
         (∀ k, s.key n = some k → k.isActive = true →
           let isLive := ∃ serial, k.status = .live serial
           ∃ t : State,
             ((isLive → exec .cancelKey s = .next (t.answer .desk .ok [.num 1 3])) ∧
               (¬ isLive → exec .cancelKey s = .next (t.answer .desk .ok [.num 1 0]))) ∧
             (∀ serial, k.status = .live serial →
               t.key n = some { k with status := .cancelled .desk s.clock.minute (some serial) }) ∧
             (¬ isLive → t.key n = none) ∧ (∀ m, m ≠ n → t.key m = s.key m) ∧
             (∀ e ∈ k.entries, n ∉ (t.room e.room).keyList) ∧
             (∀ r ∈ k.entries.map Entry.room, t.room r = s.roomWithout n r) ∧
             (∀ r, r ∉ k.entries.map Entry.room → t.room r = s.room r) ∧
             (isLive → t.journal.offers = s.journal.offers ++ [s.recordNow .credentialManager (.keyCancelled n .desk false)]) ∧
             (¬ isLive → t.journal.offers = s.journal.offers ++ [s.recordNow .credentialManager (.keyCancelled n .desk true)]) ∧
             t =
               { s.taking with
                 cred := { s.taking.cred with rooms := t.cred.rooms, keys := t.cred.keys }
                 journal := { s.journal with offers := t.journal.offers } })))) ∧
  (∀ (s : State) (fs : List Byte) (k : KeyRec), s.tablesWf → s.askedCm .desk .reportLost fs →
     s.settings.service ≠ .unprovisioned → fieldAt fs 0 2 < 2048 → s.key (fieldAt fs 0 2) = some k → k.isActive = true →
     let n := fieldAt fs 0 2
     let cancelled := s.recordNow .credentialManager (.keyCancelled n .lost false)
     ∃ t : State,
       t.key n = some (k.cancelled .lost s.clock.minute) ∧ (∀ m, m ≠ n → t.key m = s.key m) ∧
       (∀ e ∈ k.entries, n ∉ (t.room e.room).keyList) ∧ (∀ r, r ∉ k.entries.map Entry.room → t.room r = s.room r) ∧
       (∀ r ∈ k.entries.map Entry.room, t.room r = s.roomWithout n r) ∧
       t =
         { s.taking with
           cred := { s.taking.cred with rooms := t.cred.rooms, keys := t.cred.keys }
           journal := { s.journal with offers := s.journal.offers ++ [cancelled] } } ∧
       (∀ deadline, k.status = .pending deadline →
         exec .reportLost s = .next (t.answer .desk .ok [.num 1 3, .flag false, .num 1 2])) ∧
       (∀ serial, k.status = .live serial →
         let u := min (k.stop + 10080) 4294967295
         let plan := s.watchPlan serial u
         exec .reportLost s = .next
           ((t.watchAdd serial u .lost).answer .desk .ok
             ([.num 1 3, .flag true, .num 1 (if plan = .full then 1 else 0)] ++
               match plan with
               | .evicting old => [.num 4 old]
               | _ => []))))

/-- WATCH_ADD is refused NOT_READY in UNPROVISIONED, BAD_FIELD for serial 0 or an until-minute not after M, WATCH_FULL when
the add would fail; otherwise a LIVE key bound to the serial is cancelled LOST and the serial is added with reason LOST, or
with reason DESK where no LIVE key is bound to it, and the reply names the outcome, the evicted serial where one was
evicted, the stored until-minute and reason, and the cancelled key, FFh where none was. The cancelled key leaves the list of
every room it names, the other keys there keep their order, and ig of each is recomputed.
The add procedure of the Watch List: a listed serial takes the new until-minute and reason in its place (record UPDATED); a
new serial goes to the end of a list of fewer than 256 (record ADDED); on a full list the earliest entry, the nearest the
front of several, is evicted for it if it ends earlier (records EVICTED, ADDED), and otherwise nothing changes. (The model's
readings: the outcome codes ADDED 0 and UPDATED 1, log entry 12; the fields of the records ADDED and EVICTED, log entry 13;
which fields stand for which outcome, log entry 14.) -/
def Obligations.WatchAddAddsUpdatesOrEvicts : Prop :=
  (∀ (s : State) (fs : List Byte), s.askedCm .desk .watchAdd fs →
     let serial := fieldAt fs 0 4
     let u := fieldAt fs 4 4
     let say := fun (st : Status) => s.taking.answer .desk st []
     let plan := s.watchPlan serial u
     let reply := fun (reason : Nat) (key : Option Nat) =>
       [.num 1 (if plan = .updated then 1 else 0)] ++ (match plan with | .evicting old => [.num 4 old] | _ => []) ++
         [.num 4 u, .num 1 reason, optField 2 key]
     (s.settings.service = .unprovisioned → exec .watchAdd s = .next (say .notReady)) ∧
     (s.settings.service ≠ .unprovisioned → serial = 0 ∨ u ≤ s.clock.minute → exec .watchAdd s = .next (say .badField)) ∧
     (s.settings.service ≠ .unprovisioned → serial ≠ 0 → s.clock.minute < u →
       (plan = .full → exec .watchAdd s = .next (say .watchFull)) ∧
       (plan ≠ .full →
         ((∀ m k, s.key m = some k → k.status ≠ .live serial) → s.tablesWf →
           exec .watchAdd s = .next ((s.taking.watchAdd serial u .desk).answer .desk .ok (reply 1 none))) ∧
         (∀ n k, s.key n = some k → k.status = .live serial → s.tablesWf → s.serialsUnique →
           ∃ t : State,
             exec .watchAdd s = .next ((t.watchAdd serial u .lost).answer .desk .ok (reply 0 (some n))) ∧
             t.key n = some { k with status := .cancelled .lost s.clock.minute (some serial) } ∧
             (∀ m, m ≠ n → t.key m = s.key m) ∧ (∀ e ∈ k.entries, n ∉ (t.room e.room).keyList) ∧
             (∀ r ∈ k.entries.map Entry.room, t.room r = s.roomWithout n r) ∧
             (∀ r, r ∉ k.entries.map Entry.room → t.room r = s.room r) ∧
             t =
               { s.taking with
                 cred := { s.taking.cred with rooms := t.cred.rooms, keys := t.cred.keys }
                 journal := { s.journal with
                   offers := s.journal.offers ++ [s.recordNow .credentialManager (.keyCancelled n .lost false)] } })))) ∧
  (∀ (s : State) (serial u : Nat) (reason : WatchReason),
     let w := s.cred.watch
     let e : WatchEntry := { serial := serial, untilMinute := u, reason := reason }
     let now := fun (c : WatchChange) => s.recordNow .credentialManager (.watchChange c)
     let write := fun (w : List WatchEntry) (rs : List Rec) => ({ s with cred := { s.cred with watch := w } } : State).offering rs
     (w.map WatchEntry.serial).Nodup →
     (∀ old ∈ w, old.serial = serial →
       s.watchAdd serial u reason =
         write (w.map fun x => if x.serial = serial then e else x) [now (.updated serial old.untilMinute u reason)]) ∧
     ((∀ x ∈ w, x.serial ≠ serial) → w.length < 256 →
       s.watchAdd serial u reason = write (w ++ [e]) [now (.added serial u reason)]) ∧
     (∀ front old back, w = front ++ old :: back → (∀ x ∈ w, x.serial ≠ serial) → 256 ≤ w.length →
       (∀ x ∈ front, old.untilMinute < x.untilMinute) → (∀ x ∈ back, old.untilMinute ≤ x.untilMinute) →
       (old.untilMinute < u →
         s.watchAdd serial u reason =
           write (front ++ back ++ [e]) [now (.evicted old.serial old.reason), now (.added serial u reason)]) ∧
       (u ≤ old.untilMinute → s.watchAdd serial u reason = s)))

/-- WATCH_REMOVE is refused NOT_READY in UNPROVISIONED, BAD_FIELD for serial 0, NO_SUCH for a serial not on the list;
otherwise the entry is removed, the entries behind it keep their order, a WATCH_CHANGE record of cause REMOVED carries the
serial and reason, no key changes, and the reply carries the removed entry's until-minute and reason. -/
def Obligations.WatchRemoveTakesTheEntryOff : Prop :=
  ∀ (s : State) (fs : List Byte), s.askedCm .desk .watchRemove fs →
    let serial := fieldAt fs 0 4
    let say := fun (st : Status) => s.taking.answer .desk st []
    (s.settings.service = .unprovisioned → exec .watchRemove s = .next (say .notReady)) ∧
    (s.settings.service ≠ .unprovisioned → serial = 0 → exec .watchRemove s = .next (say .badField)) ∧
    (s.settings.service ≠ .unprovisioned → serial ≠ 0 → (∀ e ∈ s.cred.watch, e.serial ≠ serial) →
      exec .watchRemove s = .next (say .noSuch)) ∧
    (∀ front e back, s.settings.service ≠ .unprovisioned → serial ≠ 0 → s.cred.watch = front ++ e :: back →
      e.serial = serial → (∀ x ∈ front ++ back, x.serial ≠ serial) →
      exec .watchRemove s = .next
        ((State.offering { s.taking with cred := { s.taking.cred with watch := front ++ back } }
          [s.recordNow .credentialManager (.watchChange (.removed serial e.reason))]).answer .desk .ok
          [.num 4 e.untilMinute, .num 1 (watchReasonCode e.reason)]))

/-- EMERGENCY_ALLOW is refused NOT_READY in UNPROVISIONED; otherwise the count clamped to 1 to 4 and the deadline, M plus the
minutes clamped to 1 to 60 and held at 4,294,967,295, replace the allowance, with a SECURITY record, and the reply carries
both. The sweep's visit to the emergency allowance makes a count above 0 whose deadline is reached 0, with a SECURITY record
of the count withdrawn, and changes no allowance otherwise. The pass is then complete: the count of passes rises by 1,
wrapping from 65,535 to 0, and a new pass begins at key 0 when one was pending, else the sweep is IDLE. (The new pass's first
visit is handed over and arrives at the Credential Manager in the same step: the model's reading, log entry 4.) -/
def Obligations.EmergencyAllowanceIsGrantedAndWithdrawn : Prop :=
  (∀ (s : State) (fs : List Byte), s.askedCm .audit .emergencyAllow fs →
     let count := max 1 (min (fieldAt fs 0 1) 4)
     let deadline := min (s.clock.minute + max 1 (min (fieldAt fs 1 1) 60)) 4294967295
     exec .emergencyAllow s = .next
       (if s.settings.service = .unprovisioned then s.taking.answer .audit .notReady []
       else
         (State.offering { s.taking with cred := { s.taking.cred with allowance := count, allowanceDeadline := deadline } }
           [s.recordNow .credentialManager (.security (.allowanceGranted count deadline))]).answer .audit .ok
           [.num 1 count, .num 4 deadline])) ∧
  (∀ s : State, s.clock.sweep.position = some .allowance → s.cmTakes .sweep = true →
     let due := 0 < s.cred.allowance ∧ s.cred.allowanceDeadline ≤ s.clock.minute
     exec .sweepAllowanceVisit s = .next
       { s with
         clock :=
           { s.clock with
             sweep :=
               { position := if s.clock.sweep.pendingPass then some (.key 0) else none, pendingPass := false
                 passes := (s.clock.sweep.passes + 1) % 65536 } }
         cred :=
           { s.cred with
             waiting := s.cred.waiting.tail ++ (if s.clock.sweep.pendingPass then [.sweep] else [])
             allowance := if due then 0 else s.cred.allowance }
         journal := { s.journal with
           offers := s.journal.offers ++
             (if due then
               [{ source := .credentialManager, minute := s.clock.minute, second := s.clock.second,
                  body := .security (.allowanceLapsed s.cred.allowance) }]
             else []) } })

/-! ### Presentations, verdicts, door reports, door records (chapter 4) -/

/-- PRESENT makes the Access Evaluator hand the card's fields over as a presentation operation. The presentation operation,
once the Credential Manager is free, gives the verdict of the checks: a denial, a grant, or a session-open that waits at the
Minibar Accounting Unit with the M and S of the presentation. -/
def Obligations.PresentHandsTheCardToTheChecks : Prop :=
  (∀ (s : State) (fs : List Byte), s.askedEval .lock .present fs →
    let c : Card :=
      { door := fieldAt fs 0 2, serial := fieldAt fs 2 4, site := fieldAt fs 6 2, wing := fieldAt fs 8 1
        key := fieldAt fs 9 2, stamp := fieldAt fs 11 2 }
    exec .present s = .next (State.goesOn { s with eval := { s.eval with op := some (.present c) } } .lock)) ∧
  (∀ (s : State) (c : Card), s.powered = true → s.cred.op = none → s.eval.op = some (.present c) →
    let m := s.clock.minute
    let x := s.clock.second
    (∀ reason view, s.decision c = .deny reason view →
      exec .presentationOperation s = .next (s.deny c m x reason view)) ∧
    (∀ k, s.decision c = .grant k → exec .presentationOperation s = .next (s.grantKey c k)) ∧
    (∀ room kind, s.decision c = .session room kind →
      exec .presentationOperation s = .next
        { s with eval := { s.eval with op := some (.sessionOpen c room kind m x) } }))

/-- The checks of a presentation up to the door's own, in order, the first failure giving the deny reason and the key state
that the record carries: service, door, site, Watch List, key, key state, window; then the check at the door. The check at the
door, by door kind and key kind: a GUEST key at a ROOM door of another room, a staff or service key outside its zones, behind privacy or off its schedule, lockdown, zone hours, and the minibar rights; EMERGENCY keys pass ROOM and ZONE doors. The
effective end of a GUEST key is the earlier of its end and the stay end of the door's room, when it names that room and the
room has a stay, with the grace added at a ROOM door; of any other key, and at a ZONE door, it is the key's end. The deny
reason there is EXPIRED, and STAY_ENDED for a GUEST key at a MINIBAR door (R84 against R19: the model's choice, log entry
34). -/
def Obligations.PresentationChecksAreMadeInOrder : Prop :=
  (∀ (s : State) (c : Card),
     let m := s.clock.minute
     let d := s.door c.door
     let site := s.settings.record.map fun r => (r.number, r.wing)
     s.decision c =
       if s.settings.service ≠ .inService then .deny .notInService .notRead
       else if 768 ≤ c.door ∨ d.enabled = false then .deny .doorDisabled .notRead
       else if site ≠ some (c.site, c.wing) then .deny .wrongSite .notRead
       else if (s.cred.watch.any fun e => e.serial == c.serial) = true then .deny .revoked .notRead
       else if 2048 ≤ c.key then .deny .unknownKey .notRead
       else
         match s.key c.key with
         | none => .deny .unknownKey .free
         | some k =>
           if k.issued % 65536 ≠ c.stamp then .deny .staleCard (keyView (some k))
           else
             match k.status with
             | .pending _ => .deny .notEncoded .pending
             | .cancelled reason _ _ => .deny (cancelDeny reason) .cancelled
             | .live serial =>
               if serial ≠ c.serial then .deny .staleCard .live
               else if m < k.start then .deny .notYet .live
               else if s.effectiveEnd k d ≤ m then .deny (endReason k d) .live
               else s.doorCheck k d) ∧
  (∀ (s : State) (k : KeyRec) (d : Door),
     let t := s.clock.minute % 1440
     let w := (s.clock.minute / 1440 + s.settings.record.elim 0 SiteRecord.epoch) % 7
     let on := fun (schedule : Nat) => (s.band schedule w).holds t
     let z := s.zone d.zone
     let no := fun (reason : DenyReason) => Decision.deny reason (keyView (some k))
     (∀ room, d.place = .room room →
       s.doorCheck k d =
         match k.rights with
         | .guest _ _ _ => if k.genFor room = none then no .wrongRoom else .grant k
         | .staff zones schedule _ =>
           if maskHas zones d.zone = false then no .zoneDenied
           else if (s.room room).privacy = true then no .privacy
           else if on schedule = false then no .offSchedule
           else .grant k
         | .service zones _ =>
           if maskHas zones d.zone = false then no .zoneDenied
           else if (s.room room).privacy = true then no .privacy
           else .grant k
         | .emergency => .grant k) ∧
     (d.place = .zone →
       s.doorCheck k d =
         match k.rights with
         | .guest _ zones _ =>
           if z.lockdown = true then no .lockdown
           else if maskHas zones d.zone = false then no .zoneDenied
           else if (z.guestAllowed && z.band.holds t) = false then no .zoneClosed
           else .grant k
         | .staff zones schedule _ =>
           if z.lockdown = true then no .lockdown
           else if maskHas zones d.zone = false then no .zoneDenied
           else if on schedule = false then no .offSchedule
           else .grant k
         | .service zones _ =>
           if z.lockdown = true then no .lockdown
           else if maskHas zones d.zone = false then no .zoneDenied
           else .grant k
         | .emergency => .grant k) ∧
     (∀ room, d.place = .minibar room →
       s.doorCheck k d =
         match k.rights with
         | .guest _ _ minibar =>
           if k.genFor room = none then no .wrongRoom
           else if minibar = false then no .noMinibar
           else .session room .guest
         | .staff zones schedule restock =>
           if restock = false then no .noMinibar
           else if maskHas zones d.zone = false then no .zoneDenied
           else if on schedule = false then no .offSchedule
           else .session room .restock
         | .service _ _ => no .noMinibar
         | .emergency => no .noMinibar)) ∧
  (∀ (s : State) (k : KeyRec) (d : Door),
     let bounded := fun (room : Nat) =>
       if k.genFor room = none then k.stop else (s.room room).stay.elim k.stop fun x => min k.stop x.stayEnd
     let isGuest := ∃ entries zones minibar, k.rights = .guest entries zones minibar
     (∀ room, isGuest → d.place = .room room →
       s.effectiveEnd k d = bounded room + s.settings.grace ∧ endReason k d = .expired) ∧
     (∀ room, isGuest → d.place = .minibar room → s.effectiveEnd k d = bounded room ∧ endReason k d = .stayEnded) ∧
     (isGuest → d.place = .zone → s.effectiveEnd k d = k.stop ∧ endReason k d = .expired) ∧
     (¬ isGuest → s.effectiveEnd k d = k.stop ∧ endReason k d = .expired))

/-- A grant clears the door's repeat memory and counter, offers a GRANT record with the counter that stood, frees the
evaluator and replies with the unlock seconds (5 for a setting of 0). A denial at a door of the table becomes the door's
repeat memory; when it is not REVOKED and repeats the memory's serial and reason within 3 seconds it is coalesced: the counter
rises to at most 255 and no record is made; otherwise the counter becomes 0 and a DENY record carries the counter that stood,
with the watch hit of a REVOKED denial and its notice. A denial at a door number above 767 is never coalesced and leaves no
memory. (The verdict GRANT or DENY as a byte of its own, beside the flag byte, is the model's reading, log entry 11.) -/
def Obligations.VerdictsAreJournalledAndCoalesced : Prop :=
  ∀ (s : State) (c : Card) (minute second : Nat),
    let d := s.door c.door
    let stamp := minute * 60 + second
    let at_ := fun (b : RecBody) => ({ source := .accessEvaluator, minute := minute, second := second, body := b } : Rec)
    let idle := fun (u : State) => ({ u with eval := { u.eval with op := none } } : State)
    (∀ kind advance uses outcome,
      s.grant c minute second kind advance uses outcome =
        ((idle (s.setDoor c.door { d with memory := none, repeats := 0 })).offering
          [at_ (.grant c.door d.place c.key kind c.serial (if d.unlock = 0 then 5 else d.unlock) advance uses outcome
            d.repeats)]).answer .lock .ok
          [.num 2 c.door, .num 1 0, .num 1 0, .num 1 (if d.unlock = 0 then 5 else d.unlock), .num 2 c.key, .flag advance,
           optField 1 (outcome.map outcomeCode), optField 1 uses, .flag false]) ∧
    (∀ reason view,
      let say := fun (coalesced : Bool) =>
        [.num 2 c.door, .num 1 1, .num 1 (denyCode reason), .num 1 0, .num 2 c.key, .flag false, .raw [0xFF#8], .raw [0xFF#8],
         .flag coalesced]
      let memory : RepeatMemory := { serial := c.serial, reason := reason, stamp := stamp }
      let again := ∃ m, d.memory = some m ∧ reason ≠ .revoked ∧ m.serial = c.serial ∧ m.reason = reason ∧ m.stamp ≤ stamp ∧
        stamp ≤ m.stamp + 3
      let deny := fun (repeats : Nat) => at_ (.deny c.door c.serial c.key c.stamp reason view repeats)
      (c.door < 768 → again →
        s.deny c minute second reason view =
          (idle (s.setDoor c.door { d with memory := some memory, repeats := min (d.repeats + 1) 255 })).answer .lock .ok
            (say true)) ∧
      (c.door < 768 → ¬ again → reason ≠ .revoked →
        s.deny c minute second reason view =
          ((idle (s.setDoor c.door { d with memory := some memory, repeats := 0 })).offering [deny d.repeats]).answer .lock .ok
            (say false)) ∧
      (∀ front e back, c.door < 768 → reason = .revoked → s.cred.watch = front ++ e :: back → e.serial = c.serial →
        (∀ x ∈ front, x.serial ≠ c.serial) →
        s.deny c minute second reason view =
          (((idle (s.setDoor c.door { d with memory := some memory, repeats := 0 })).offering
            [deny d.repeats, at_ (.security (.watchHit c.door c.serial c.key e.reason e.untilMinute 0))]).noticing .audit 4).answer
            .lock .ok (say false)) ∧
      (768 ≤ c.door → reason ≠ .revoked →
        s.deny c minute second reason view = ((idle s).offering [deny 0]).answer .lock .ok (say false)))

/-- A granted key has its effect before its verdict: a GUEST key at a ROOM door of a room whose current generation lies 1 to
127 behind the key's advances the room; a SERVICE key loses one use, and at none left is cancelled USED_UP with a record; any
other key changes nothing. -/
def Obligations.GrantedKeyHasItsEffectFirst : Prop :=
  ∀ (s : State) (c : Card) (k : KeyRec),
    let m := s.clock.minute
    let x := s.clock.second
    (∀ entries zones minibar room, k.rights = .guest entries zones minibar → (s.door c.door).place = .room room →
      let g := (k.genFor room).getD 0#8
      let ahead := (g - (s.room room).cg).toNat
      (1 ≤ ahead → ahead ≤ 127 → s.grantKey c k = (s.advance room c.key g).grant c m x .guest true none none) ∧
      (ahead = 0 ∨ 127 < ahead → s.grantKey c k = s.grant c m x .guest false none none)) ∧
    (∀ entries zones minibar, k.rights = .guest entries zones minibar → (∀ room, (s.door c.door).place ≠ .room room) →
      s.grantKey c k = s.grant c m x .guest false none none) ∧
    (∀ zones schedule restock, k.rights = .staff zones schedule restock →
      s.grantKey c k = s.grant c m x .staff false none none) ∧
    (k.rights = .emergency → s.grantKey c k = s.grant c m x .emergency false none none) ∧
    (∀ zones uses, k.rights = .service zones uses →
      (1 < uses →
        s.grantKey c k =
          (s.setKey c.key (some { k with rights := .service zones (uses - 1) })).grant c m x .service false (some (uses - 1)) none) ∧
      (∀ serial, uses ≤ 1 → k.status = .live serial →
        s.grantKey c k =
          ((s.setKey c.key (some { k with rights := .service zones 0, status := .cancelled .usedUp m (some serial) })).offering
            [s.recordNow .credentialManager (.keyCancelled c.key .usedUp false)]).grant c m x .service false (some 0) none))

/-- An advance sets the room's current generation to the presenting key's, and every other listed key whose generation lies
more than 127 ahead of it, that is behind it, leaves the list: cancelled SUPERSEDED if the room is its only one, else losing
this room's entry. ig becomes the furthest generation of the keys that stay. The ADVANCE record carries both generations and
both counts, and a KEY_CANCELLED record follows for each key cancelled. -/
def Obligations.AdvanceDropsTheKeysBehind : Prop :=
  ∀ (s : State) (room key : Nat) (g : Byte), s.tablesWf → s.listsMatchKeys →
    let r := s.room room
    let m := s.clock.minute
    let stale := fun n => n ≠ key ∧ 127 < (s.listedGen room n - g).toNat
    let lone := fun n => ((s.key n).elim 0 fun k => k.entries.length) ≤ 1
    let left := r.keyList.filter fun n => !decide (stale n)
    let dead := r.keyList.filter fun n => decide (stale n ∧ lone n)
    let kept := r.keyList.filter fun n => decide (stale n ∧ ¬ lone n)
    let t := s.advance room key g
    t.room room =
      { r with
        cg := g, keyList := left
        ig := g + BitVec.ofNat 8 ((left.map fun n => (s.listedGen room n - g).toNat).foldl max 0) } ∧
    (∀ n, n ≠ room → t.room n = s.room n) ∧
    (∀ n, n ∉ dead → n ∉ kept → t.key n = s.key n) ∧
    (∀ n k, n ∈ dead → s.key n = some k → t.key n = some (k.cancelled .superseded m)) ∧
    (∀ n k, n ∈ kept → s.key n = some k → t.key n = some (k.withEntries (k.entries.filter fun e => e.room != room))) ∧
    t =
      ({ s with cred := { s.cred with rooms := t.cred.rooms, keys := t.cred.keys } } : State).offering
        (s.recordNow .credentialManager (.advance room key r.cg g kept.length dead.length) ::
          dead.map fun n => s.recordNow .credentialManager (.keyCancelled n .superseded false))

/-- A session-open is answered by the first case that applies: CLOSED without an open tally (denied STAY_ENDED), LOCKED for a
GUEST at its limit (denied MINIBAR_LOCKED), KEPT where the door has a session (granted, its activity noted), OPENED while the
pool has a place (granted, with a SESSION_OPEN record), FULL (denied SESSIONS_FULL). The verdict carries the M and S of the
presentation, and so does the SESSION_OPEN record (the model's reading, log entry 5). -/
def Obligations.SessionOpenIsAnsweredByItsFirstCase : Prop :=
  ∀ (s : State) (c : Card) (room : Nat) (kind : SessionKind) (minute second : Nat), s.powered = true →
    s.eval.op = some (.sessionOpen c room kind minute second) →
    let stamp := minute * 60 + second
    let tally := s.tally room
    let atLimit := kind = .guest ∧ tally.limit ≤ tally.tally
    let holder : KeyKind := match kind with | .guest => .guest | .restock => .staff
    (tally.isOpen = false → exec .sessionOpen s = .next (s.deny c minute second .stayEnded .live)) ∧
    (tally.isOpen = true → atLimit → exec .sessionOpen s = .next (s.deny c minute second .minibarLocked .live)) ∧
    (tally.isOpen = true → ¬ atLimit →
      (∀ x, s.session c.door = some x →
        exec .sessionOpen s = .next
          ((s.setSession c.door (some { x with active := stamp })).grant c minute second holder false none (some .kept))) ∧
      (s.session c.door = none → s.mini.sessions.length < 32 →
        exec .sessionOpen s = .next
          (((s.setSession c.door
            (some { kind := kind, room := room, key := c.key, opened := stamp, active := stamp, lines := [] })).offering
            [{ source := .minibarUnit, minute := minute, second := second
               body := .sessionOpen c.door room kind c.key stamp }]).grant c minute second holder false none (some .opened))) ∧
      (s.session c.door = none → 32 ≤ s.mini.sessions.length →
        exec .sessionOpen s = .next (s.deny c minute second .sessionsFull .live)))

/-- A door report of CLOSED, HELD_OPEN or FORCED moves the condition where it may, with a record that carries the repeat
counter, which becomes 0, and for FORCED the Audit notice; a report that moves nothing changes nothing; the reply carries the
condition. A door above 767 is refused BAD_FIELD. A PRIVACY_ON or PRIVACY_OFF report from an enabled ROOM door goes on as a
privacy operation for its room; from any other door it is answered as ignored and changes nothing; a door above 767 is refused
BAD_FIELD. The privacy operation sets the room's privacy flag, frees the evaluator and answers with the door's condition. A
report code above 4 is refused BAD_FIELD by whichever of the five commands takes it (the model's choice, log entry 17). (The
flag of the reply to a privacy report, taken 0 and ignored 1, is the model's reading, log entry 11.) -/
def Obligations.DoorAndPrivacyReportsActOnTheDoor : Prop :=
  (∀ (s : State) (fs : List Byte), s.askedEval .lock .doorReport fs →
     let door := fieldAt fs 0 2
     let code := fieldAt fs 2 1
     let d := s.door door
     let move := fun (new : Condition) => s.setDoor door { d with condition := new, repeats := 0 }
     let reply := fun (u : State) (c : Condition) => u.answer .lock .ok [.num 1 (conditionCode c)]
     (768 ≤ door →
       (code = 0 → exec .doorReportClosed s = .next (s.answer .lock .badField [])) ∧
       (code = 1 → exec .doorReportHeldOpen s = .next (s.answer .lock .badField [])) ∧
       (code = 2 → exec .doorReportForced s = .next (s.answer .lock .badField []))) ∧
     (door < 768 → code = 0 →
       (d.condition = .closed → exec .doorReportClosed s = .next (reply s .closed)) ∧
       (d.condition ≠ .closed → s.tablesWf →
         exec .doorReportClosed s = .next
           (reply ((move .closed).offering
             [s.recordNow .accessEvaluator (.doorCondition door d.condition .closed d.repeats)]) .closed))) ∧
     (door < 768 → code = 1 →
       (d.condition ≠ .closed → exec .doorReportHeldOpen s = .next (reply s d.condition)) ∧
       (d.condition = .closed → s.tablesWf →
         exec .doorReportHeldOpen s = .next
           (reply ((move .heldOpen).offering
             [s.recordNow .accessEvaluator (.doorCondition door .closed .heldOpen d.repeats)]) .heldOpen))) ∧
     (door < 768 → code = 2 →
       (d.condition = .forced → exec .doorReportForced s = .next (reply s .forced)) ∧
       (d.condition ≠ .forced → s.tablesWf →
         exec .doorReportForced s = .next
           (reply (((move .forced).offering
             [s.recordNow .accessEvaluator (.security (.forcedDoor door d.condition .forced d.repeats))]).noticing .audit 5)
             .forced)))) ∧
  (∀ (s : State) (fs : List Byte), s.askedEval .lock .doorReport fs →
     let door := fieldAt fs 0 2
     let code := fieldAt fs 2 1
     let d := s.door door
     let run := fun (on : Bool) => if on = true then exec .doorReportPrivacyOn s else exec .doorReportPrivacyOff s
     ∀ on : Bool, code = (if on = true then 3 else 4) →
       (768 ≤ door → run on = .next (s.answer .lock .badField [])) ∧
       (door < 768 →
         (∀ room, d.place = .room room → d.enabled = true →
           run on = .next (State.goesOn { s with eval := { s.eval with op := some (.privacy door room on) } } .lock)) ∧
         ((∀ room, d.place ≠ .room room) ∨ d.enabled = false →
           run on = .next (s.answer .lock .ok [.num 1 (conditionCode d.condition), .flag true])))) ∧
  (∀ (s : State) (door room : Nat) (on : Bool), s.powered = true → s.cred.op = none →
     s.eval.op = some (.privacy door room on) →
     exec .privacyOperation s = .next
       (State.answer
         { s.setRoom room { s.room room with privacy := on } with eval := { s.eval with op := none } }
         .lock .ok [.num 1 (conditionCode (s.door door).condition), .flag false])) ∧
  (∀ (s : State) (fs : List Byte), s.askedEval .lock .doorReport fs → 4 < fieldAt fs 2 1 →
     ∀ i ∈ [Instr.doorReportClosed, .doorReportHeldOpen, .doorReportForced, .doorReportPrivacyOn, .doorReportPrivacyOff],
       exec i s = .next (s.answer .lock .badField []))

/-- DOOR_SET is refused NOT_READY in UNPROVISIONED, BAD_FIELD for a door above 767, a kind above 2, a room above 511 where the
kind has one, a zone above 15 or an enabled value above 1, and DOOR_CONFLICT for a second MINIBAR door of a room. Otherwise a
door that leaves its minibar room first asks for its release; one that becomes a room's minibar is written and asks for its
assignment; a minibar that is disabled with a session open is written and asks for the session-close; any other is written and
answered. The write leaves condition, repeat memory and counter. The Minibar Accounting Unit's part of a DOOR_SET. An
assignment makes the room's tally record name the door and completes. A release is answered DOOR_BUSY with nothing changed
while a session is open on the door; else the room's tally record names no door, the door is written, and a door that becomes
another room's minibar asks for its assignment, any other completes. A session-close closes the session with cause
DOOR_DISABLED and completes with the closed flag. (The stored fields of the reply being the five
that the request writes is the model's reading, log entry 14.) -/
def Obligations.DoorSetAndItsMinibarPart : Prop :=
  (∀ (s : State) (fs : List Byte), s.askedEval .desk .doorSet fs →
     let door := fieldAt fs 0 2
     let kind := fieldAt fs 2 1
     let room := fieldAt fs 3 2
     let zone := fieldAt fs 5 1
     let enabled := fieldAt fs 6 1
     let place : DoorPlace := if kind = 0 then .room room else if kind = 1 then .zone else .minibar room
     let d : DoorSet :=
       { door := door, place := place, zone := zone, enabled := enabled == 1, unlock := min (fieldAt fs 7 1) 30 }
     let bad := 768 ≤ door ∨ 2 < kind ∨ (kind ≠ 1 ∧ 512 ≤ room) ∨ 15 < zone ∨ 1 < enabled
     let conflict := kind = 2 ∧ ∃ n, n ≠ door ∧ (s.door n).place = .minibar room
     let old := s.door door
     let written := s.setDoor door { old with place := place, zone := zone, enabled := d.enabled, unlock := d.unlock }
     let go := fun (u : State) (o : EvalOp) => State.goesOn { u with eval := { u.eval with op := some o } } .desk
     let done := fun (u : State) =>
       State.answer { u with eval := { u.eval with op := none } } .desk .ok
         [.num 1 kind, optField 2 (if kind = 1 then none else some room), .num 1 zone, .flag d.enabled, .num 1 d.unlock,
          .flag false]
     s.tablesWf →
     (s.settings.service = .unprovisioned → exec .doorSet s = .next (s.answer .desk .notReady [])) ∧
     (s.settings.service ≠ .unprovisioned →
       (bad → exec .doorSet s = .next (s.answer .desk .badField [])) ∧
       (¬ bad → conflict → exec .doorSet s = .next (s.answer .desk .doorConflict [])) ∧
       (¬ bad → ¬ conflict →
         (∀ r, old.place = .minibar r → place ≠ .minibar r → exec .doorSet s = .next (go s (.doorRelease d r))) ∧
         (∀ r, old.place = .minibar r → place = .minibar r →
           (d.enabled = false → s.session door ≠ none → exec .doorSet s = .next (go written (.doorClose d))) ∧
           (d.enabled = true ∨ s.session door = none → exec .doorSet s = .next (done written))) ∧
         ((∀ r, old.place ≠ .minibar r) →
           (kind = 2 → exec .doorSet s = .next (go written (.doorAssign d room))) ∧
           (kind ≠ 2 → exec .doorSet s = .next (done written)))))) ∧
  (∀ (s : State) (d : DoorSet), s.powered = true →
     let done := fun (u : State) (closed : Bool) =>
       State.answer { u with eval := { u.eval with op := none } } .desk .ok
         [.num 1 (doorKindCode d.place), optField 2 (doorRoom d.place), .num 1 d.zone, .flag d.enabled, .num 1 d.unlock,
          .flag closed]
     (∀ room, s.eval.op = some (.doorAssign d room) →
       exec .minibarDoorAssignment s = .next (done (s.setTally room { s.tally room with door := some d.door }) false)) ∧
     (∀ room, s.eval.op = some (.doorRelease d room) →
       let written := (s.setTally room { s.tally room with door := none }).setDoor d.door
         { s.door d.door with place := d.place, zone := d.zone, enabled := d.enabled, unlock := d.unlock }
       (s.session d.door ≠ none →
         exec .minibarRelease s = .next
           (State.answer { s with eval := { s.eval with op := none } } .desk .doorBusy [])) ∧
       (s.session d.door = none →
         (∀ r, d.place = .minibar r →
           exec .minibarRelease s = .next { written with eval := { written.eval with op := some (.doorAssign d r) } }) ∧
         ((∀ r, d.place ≠ .minibar r) → exec .minibarRelease s = .next (done written false)))) ∧
     (s.eval.op = some (.doorClose d) →
       (s.session d.door = none → exec .doorSetSessionClose s = .next (done s false)) ∧
       (s.session d.door ≠ none →
         exec .doorSetSessionClose s = .next
           (done ((s.setSession d.door none).offering (s.closingRecords d.door .doorDisabled)) true))))

/-! ### Minibar accounting (chapter 5) -/

/-- MINIBAR_TAKE is refused BAD_FIELD for a door above 767 or an item above 31, NO_SUCH for a door no tally names, BAD_FIELD
for a count above 15 (that last order is the model's, log entry 16); a count of 0 is answered IGNORED. Any other take notes
the activity of the door's session and is STOCK in a RESTOCK session, SHRINKAGE without an open tally and a running stay, and
otherwise charged: L is price times count, the surcharge floor((L × rate + 500) / 1000), the tally rises by both, held at
9,999,999 with the saturated flag, on the line of the session that has room for it, with NO_LINE where none has, or UNATTENDED
without a session; a crossing of the credit limit raises CREDIT_REACHED. The room of a door is the one whose tally record names
it. (The outcome codes IGNORED 0, STOCK 1, SHRINKAGE 2, charged 3 are the model's reading, log entry 12; a charge of 0 at
9,999,999 is not marked SATURATED, log entry 36.) -/
def Obligations.TakeIsClassifiedAndCharged : Prop :=
  (∀ (s : State) (door : Nat), s.tablesWf →
    ((∀ room, (s.tally room).door ≠ some door) → s.roomOfDoor door = none) ∧
    (∀ room, (s.tally room).door = some door → (∀ r, r < room → (s.tally r).door ≠ some door) →
      s.roomOfDoor door = some room)) ∧
  ∀ (s : State) (fs : List Byte), s.asked .lock .minibarTake fs →
    let door := fieldAt fs 0 2
    let item := fieldAt fs 2 1
    let count := fieldAt fs 3 1
    let stamp := s.clock.minute * 60 + s.clock.second
    let record := s.recordNow .minibarUnit
    let touched := (s.session door).elim s fun x => s.setSession door (some { x with active := stamp })
    (768 ≤ door ∨ 32 ≤ item → exec .minibarTake s = .next (s.answer .lock .badField [])) ∧
    (door < 768 → item < 32 → s.roomOfDoor door = none → exec .minibarTake s = .next (s.answer .lock .noSuch [])) ∧
    (∀ room, door < 768 → item < 32 → s.roomOfDoor door = some room →
      let l := s.price item * count
      let c := l + (l * s.mini.rate + 500) / 1000
      let tally := s.tally room
      let clamped := decide (9999999 < tally.tally + c)
      let after := min (tally.tally + c) 9999999
      let crossed := decide (tally.tally < tally.limit) && decide (tally.limit ≤ after)
      let running := (s.room room).state = .occupied ∧ ∃ x, (s.room room).stay = some x ∧ s.clock.minute < x.stayEnd
      let live := tally.isOpen = true ∧ running
      let charge := fun (u : State) (unattended noLine : Bool) (key : Option Nat) =>
        let v :=
          (u.setTally room { tally with tally := after, saturated := tally.saturated || clamped }).offering
            [record (.charge door room item count (s.price item) s.mini.rate c tally.tally unattended noLine clamped crossed key)]
        (if crossed = true then v.noticing .desk 4 else v).answer .lock .ok
          [.num 1 3, .num 3 c, .num 3 after, .flag (decide (tally.limit ≤ after))]
      let shrink := fun (u : State) (key : Option Nat) =>
        (u.offering
          [record (.shrinkage door room item count c (if tally.isOpen = true then .stayEnded else .tallyClosed) key)]).answer
          .lock .ok [.num 1 2, .num 3 c]
      (15 < count → exec .minibarTake s = .next (s.answer .lock .badField [])) ∧
      (count = 0 → exec .minibarTake s = .next (s.answer .lock .ok [.num 1 0])) ∧
      (0 < count → count ≤ 15 → s.tablesWf →
        (s.session door = none → live → exec .minibarTake s = .next (charge s true false none)) ∧
        (s.session door = none → ¬ live → exec .minibarTake s = .next (shrink s none)) ∧
        (∀ x, s.session door = some x →
          (x.kind = .restock →
            exec .minibarTake s = .next
              ((touched.offering [record (.stock door room item count .take x.key)]).answer .lock .ok [.num 1 1])) ∧
          (x.kind = .guest → ¬ live → exec .minibarTake s = .next (shrink touched (some x.key))) ∧
          (x.kind = .guest → live →
            let place := fun (lines : List Line) =>
              charge (touched.setSession door (some { x with active := stamp, lines := lines })) false false (some x.key)
            (∀ front line back, x.lines = front ++ line :: back → line.item = item →
              (∀ y ∈ front ++ back, y.item ≠ item) →
              (line.count + count ≤ 255 →
                exec .minibarTake s = .next
                  (place (front ++ { line with count := line.count + count, amount := line.amount + c } :: back))) ∧
              (255 < line.count + count → exec .minibarTake s = .next (charge touched false true (some x.key)))) ∧
            ((∀ y ∈ x.lines, y.item ≠ item) →
              (x.lines.length < 8 →
                exec .minibarTake s = .next (place (x.lines ++ [{ item := item, count := count, amount := c }]))) ∧
              (8 ≤ x.lines.length → exec .minibarTake s = .next (charge touched false true (some x.key))))))))

/-- MINIBAR_RETURN is checked as a take is; a count of 0 is IGNORED. Any other return notes the activity of the door's session
and is STOCK in a RESTOCK session, a refund from the item's line in a GUEST session, and otherwise UNMATCHED with a record. A
refund gives back floor(A × n' / c) of the line's amount A for n' returned of its count c, n' held to c, removes the line at
count 0, and lowers the tally, not below 0; it is never more than the line's amount, and the whole of it for the whole count.
(A count above 15 refused BAD_FIELD after NO_SUCH is the model's reading, log entry 16; the outcome codes IGNORED 0, STOCK 1,
REFUNDED 2, UNMATCHED 3 too, log entry 12; the 4 bytes of the refund in the reply, log entry 13.) -/
def Obligations.ReturnIsRefundedFromTheLine : Prop :=
  ∀ (s : State) (fs : List Byte), s.asked .lock .minibarReturn fs →
    let door := fieldAt fs 0 2
    let item := fieldAt fs 2 1
    let count := fieldAt fs 3 1
    let stamp := s.clock.minute * 60 + s.clock.second
    let record := s.recordNow .minibarUnit
    let touched := (s.session door).elim s fun x => s.setSession door (some { x with active := stamp })
    (768 ≤ door ∨ 32 ≤ item → exec .minibarReturn s = .next (s.answer .lock .badField [])) ∧
    (door < 768 → item < 32 → s.roomOfDoor door = none → exec .minibarReturn s = .next (s.answer .lock .noSuch [])) ∧
    (∀ room, door < 768 → item < 32 → s.roomOfDoor door = some room →
      let unmatched := fun (u : State) (key : Option Nat) =>
        (u.offering [record (.returnUnmatched door room item count key)]).answer .lock .ok [.num 1 3]
      (15 < count → exec .minibarReturn s = .next (s.answer .lock .badField [])) ∧
      (count = 0 → exec .minibarReturn s = .next (s.answer .lock .ok [.num 1 0])) ∧
      (0 < count → count ≤ 15 → s.tablesWf →
        (s.session door = none → exec .minibarReturn s = .next (unmatched s none)) ∧
        (∀ x, s.session door = some x →
          (x.kind = .restock →
            exec .minibarReturn s = .next
              ((touched.offering [record (.stock door room item count .giveBack x.key)]).answer .lock .ok [.num 1 1])) ∧
          (x.kind = .guest → (∀ y ∈ x.lines, y.item ≠ item) →
            exec .minibarReturn s = .next (unmatched touched (some x.key))) ∧
          (∀ front line back, x.kind = .guest → x.lines = front ++ line :: back → line.item = item →
            (∀ y ∈ front ++ back, y.item ≠ item) →
            let n := min count line.count
            let r := line.amount * n / line.count
            let rest : List Line :=
              if line.count - n = 0 then front ++ back
              else front ++ { line with count := line.count - n, amount := line.amount - r } :: back
            let tally := s.tally room
            exec .minibarReturn s = .next
              ((((touched.setSession door (some { x with active := stamp, lines := rest })).setTally room
                { tally with tally := tally.tally - r }).offering
                [record (.refund door item count n r (line.count - n) (line.amount - r) tally.tally x.key)]).answer .lock .ok
                [.num 1 2, .num 1 n, .num 4 r, .num 3 (tally.tally - r), .flag (decide (tally.limit ≤ tally.tally - r))]))))) ∧
    (∀ line : Line, 0 < line.count →
      refundOf line line.count = line.amount ∧ ∀ count, refundOf line count = line.amount * min count line.count / line.count ∧
        refundOf line count ≤ line.amount ∧ (line.refunded count).amount + refundOf line count = line.amount)

/-- MINIBAR_SHUT closes the session of the door with cause SHUT and its record, or finds none; a door above 767 is refused
BAD_FIELD, one that no tally names NO_SUCH. An idle test, due once for each second event, sets a last-activity stamp that lies
ahead of the clock to the clock's, closes with cause IDLE every session idle for the timeout or longer, in ascending order of
door, and leaves every other session. (The count of the tests due, one taken by each IDLE_TEST, is the model's own, log entry
30; the codes CLOSED 0 and NONE 1 of the shut are its reading, log entry 12.) -/
def Obligations.SessionsCloseOnShutAndOnIdle : Prop :=
  (∀ (s : State) (fs : List Byte), s.asked .lock .minibarShut fs →
    let door := fieldAt fs 0 2
    (768 ≤ door → exec .minibarShut s = .next (s.answer .lock .badField [])) ∧
    (door < 768 → s.roomOfDoor door = none → exec .minibarShut s = .next (s.answer .lock .noSuch [])) ∧
    (door < 768 → s.roomOfDoor door ≠ none →
      (s.session door = none → exec .minibarShut s = .next (s.answer .lock .ok [.num 1 1])) ∧
      (s.session door ≠ none →
        exec .minibarShut s = .next
          (((s.setSession door none).offering (s.closingRecords door .shut)).answer .lock .ok [.num 1 0])))) ∧
  (∀ s : State, s.powered = true → 0 < s.mini.idleDue → s.tablesWf →
    let now := s.clock.minute * 60 + s.clock.second
    let idle := fun (x : Session) => x.active ≤ now ∧ s.settings.idleTimeout ≤ now - x.active
    ∃ t : State, exec .idleTest s = .next t ∧
      (∀ d, t.session d = (s.session d).bind fun x => if idle x then none else some { x with active := min x.active now }) ∧
      t =
        { s with
          mini := { s.mini with idleDue := s.mini.idleDue - 1, sessions := t.mini.sessions }
          journal := { s.journal with
            offers := s.journal.offers ++
              (s.mini.sessions.filter fun p => p.2.elim false fun x => decide (idle x)).flatMap fun p =>
                s.closingRecords p.1 .idle } })

/-- PRICE_SET, RATE_SET, TARIFF_LOCK and CREDIT_SET are refused NOT_READY in UNPROVISIONED; PRICE_SET also BAD_FIELD for an
item above 31, PRICE_SET and RATE_SET TARIFF_LOCKED under the lock, CREDIT_SET BAD_FIELD for a room above 511 and ROOM_STATE
for a tally that is not open. Otherwise the price, the rate held to 250, the lock, or the credit limit held to 9,999,999 is
written and the reply carries it. TARIFF_QUERY and TALLY_QUERY reply and change nothing. (TALLY_QUERY leaving out the session
fields without a session and filling an absent door or line with FFh is the model's reading, log entry 14.) -/
def Obligations.TariffAndCreditAreWrittenOrRefused : Prop :=
  ∀ (s : State) (fs : List Byte),
    let no := s.settings.service = .unprovisioned
    let say := fun (st : Status) => s.answer .desk st []
    let item := fieldAt fs 0 1
    let room := fieldAt fs 0 2
    (s.asked .desk .priceSet fs →
      exec .priceSet s = .next
        (if no then say .notReady
        else if 32 ≤ item then say .badField
        else if s.mini.tariffLock = true then say .tariffLocked
        else
          State.answer { s with mini := { s.mini with prices := tablePut 0 s.mini.prices item (fieldAt fs 1 2) } } .desk .ok
            [.num 2 (fieldAt fs 1 2)])) ∧
    (s.asked .desk .rateSet fs →
      exec .rateSet s = .next
        (if no then say .notReady
        else if s.mini.tariffLock = true then say .tariffLocked
        else State.answer { s with mini := { s.mini with rate := min item 250 } } .desk .ok [.num 1 (min item 250)])) ∧
    (s.asked .audit .tariffLock fs →
      exec .tariffLock s = .next
        (if no then s.answer .audit .notReady []
        else State.answer { s with mini := { s.mini with tariffLock := true } } .audit .ok [])) ∧
    (s.asked .desk .creditSet fs →
      let tally := s.tally room
      let limit := min (fieldAt fs 2 3) 9999999
      exec .creditSet s = .next
        (if no then say .notReady
        else if 512 ≤ room then say .badField
        else if tally.isOpen = false then say .roomState
        else
          (s.setTally room { tally with limit := limit }).answer .desk .ok
            [.num 3 limit, .num 3 tally.tally, .flag (decide (limit ≤ tally.tally))])) ∧
    (∀ l, s.asked l .tariffQuery fs →
      exec (.tariffQuery l) s = .next
        (if 32 ≤ item then s.answer l .badField []
        else s.answer l .ok [.num 2 (s.price item), .num 1 s.mini.rate, .flag s.mini.tariffLock])) ∧
    (∀ l, s.asked l .tallyQuery fs →
      let tally := s.tally room
      let x := tally.door.bind s.session
      exec (.tallyQuery l) s = .next
        (if 512 ≤ room ∨ 7 < fieldAt fs 2 1 then s.answer l .badField []
        else
          s.answer l .ok
            ([.flag tally.isOpen, .num 3 tally.limit, .num 3 tally.tally, .flag tally.saturated,
              .flag (decide (tally.limit ≤ tally.tally)), optField 2 tally.door, .flag x.isSome] ++ (x.map sessionFields).getD [] ++
              lineFields (x.bind fun y => y.lines[fieldAt fs 2 1]?))))

/-! ### Group Issue Queue (chapter 6) -/

/-- GROUP_LOAD and GROUP_POINT are refused NOT_READY in UNPROVISIONED and BAD_FIELD for an entry, first or last above 15 or
(load) fields no entry admits; a load at the entry being worked is refused COLLISION with its notice. An accepted load writes
the entry with no progress; an accepted point sets first and last, and during a run the redirect mark. GROUP_QUERY replies and
changes nothing. The fields an entry admits: a mode of 0 with a stay end other than 0, or of 1; 1 to 4 distinct rooms below 512;
up to 7 copies; a generation mode and a minibar right of 0 or 1; the credit limit held to 9,999,999 (every field at its place
in every mode: the model's reading, log entry 28). (The FFh fill of GROUP_QUERY for an entry not loaded is the model's
reading, log entry 14.) -/
def Obligations.GroupEntriesAreLoadedAndPointed : Prop :=
  (∀ fs : List Byte,
    let mode := fieldAt fs 1 1
    let count := fieldAt fs 2 1
    let rooms := (List.range (min count 4)).map fun i => fieldAt fs (3 + 2 * i) 2
    let stayEnd := fieldAt fs 11 4
    let gen := fieldAt fs 19 1
    let bad :=
      1 < mode ∨ (mode = 0 ∧ stayEnd = 0) ∨ count = 0 ∨ 4 < count ∨ (∃ r ∈ rooms, 512 ≤ r) ∨ ¬ rooms.Nodup ∨
        7 < fieldAt fs 18 1 ∨ 1 < gen ∨ 1 < fieldAt fs 30 1
    (bad → groupFieldsOf fs = none) ∧
    (¬ bad →
      groupFieldsOf fs = some
        { mode := if mode = 0 then .checkinIssue stayEnd (min (fieldAt fs 15 3) 9999999) else .issueOnly
          rooms := rooms, copies := fieldAt fs 18 1, gen := if gen = 0 then .new else .copy
          keyStart := fieldAt fs 20 4, keyEnd := fieldAt fs 24 4, zones := BitVec.ofNat 16 (fieldAt fs 28 2)
          minibar := fieldAt fs 30 1 == 1 })) ∧
  ∀ (s : State) (fs : List Byte),
    let no := s.settings.service = .unprovisioned
    let say := fun (st : Status) => s.answer .desk st []
    let a := fieldAt fs 0 1
    let b := fieldAt fs 1 1
    let active := s.group.state = .running ∨ s.group.state = .halting
    (s.asked .desk .groupLoad fs →
      (no → exec .groupLoad s = .next (say .notReady)) ∧
      (¬ no → 15 < a ∨ groupFieldsOf fs = none → exec .groupLoad s = .next (say .badField)) ∧
      (∀ f, ¬ no → a ≤ 15 → groupFieldsOf fs = some f →
        (active → a = s.group.next →
          exec .groupLoad s = .next ((s.noticing .desk 8).answer .desk .collision [])) ∧
        (¬ (active ∧ a = s.group.next) →
          exec .groupLoad s = .next
            ((s.setEntry a { fields := some f, checkedIn := false, issued := 0 }).answer .desk .ok
              [.num 1 a, optField 3 (groupLimit f.mode)])))) ∧
    (s.asked .desk .groupPoint fs →
      let g := { s.group with first := a, last := b, redirect := s.group.redirect || s.group.state != .idle }
      exec .groupPoint s = .next
        (if no then say .notReady
        else if 15 < a ∨ 15 < b then say .badField
        else
          State.answer { s with group := g } .desk .ok
            [.num 1 a, .num 1 b, .num 1 g.next, .num 1 (groupStateCode g.state), .flag g.redirect])) ∧
    (∀ l, s.asked l .groupQuery fs →
      let g := s.group
      exec (.groupQuery l) s = .next
        (if 15 < a then s.answer l .badField []
        else
          s.answer l .ok
            ([.num 1 (groupStateCode g.state), .num 1 g.first, .num 1 g.last, .num 1 g.next, optField 1 g.done,
              .flag g.redirect, .flag g.abort, .flag (g.phase == .waiting), optField 1 (g.startTag.map BitVec.toNat),
              optField 1 (g.stop.map stopCode), optField 2 (g.stop.bind stopRoom)] ++ entryFields (s.entry a))))

/-- GROUP_START is refused NOT_IN_SERVICE outside IN_SERVICE and GROUP_STATE during a run. From IDLE it clears every entry's
progress and starts at first; from STOPPED it resumes at next; it takes the request's tag, clears the abort flag and the stop
reason, replies, and the run makes its tests. The tests of a run: outside IN_SERVICE, or at an entry not loaded, it stops with
that reason and GROUP_STOPPED; an entry that is still to be checked in hands its check-in step; one with copies left asks for
a Desk reply place, holding it and handing the issue step, or waiting; any other is at its boundary. GROUP_PLACE_HOLD, once a
place is free, makes the same tests for a run that waits. (A step handed over arrives at the Credential Manager in the same
step: the model's reading, log entry 4.) -/
def Obligations.GroupStartBeginsTheRunAndItsTests : Prop :=
  (∀ (s : State) (fs : List Byte), s.asked .desk .groupStart fs →
     let tag := s.desk.inProgress.map Request.tag
     (s.settings.service ≠ .inService → exec .groupStart s = .next (s.answer .desk .notInService [])) ∧
     (s.settings.service = .inService →
       (s.group.state = .running ∨ s.group.state = .halting →
         exec .groupStart s = .next (s.answer .desk .groupState [])) ∧
       (s.group.state = .stopped →
         exec .groupStart s = .next
           (State.groupRun
             (State.answer
               { s with
                 group := { s.group with state := .running, abort := false, stop := none, startTag := tag, phase := .rest } }
               .desk .ok [.num 1 s.group.next, .num 1 s.group.first, .num 1 s.group.last, .flag true]))) ∧
       (s.group.state = .idle → s.tablesWf →
         ∃ t : State,
           exec .groupStart s = .next
             (State.groupRun
               (t.answer .desk .ok [.num 1 s.group.first, .num 1 s.group.first, .num 1 s.group.last, .flag false])) ∧
           (∀ n, t.entry n = if n < 16 then { s.entry n with checkedIn := false, issued := 0 } else s.entry n) ∧
           t =
             { s with
               group :=
                 { s.group with
                   entries := t.group.entries, state := .running, next := s.group.first, redirect := false, abort := false
                   stop := none, startTag := tag, phase := .rest } }))) ∧
  (∀ s : State,
     let g := s.group
     let e := s.entry g.next
     let stop := fun (st : Status) =>
       (State.noticing
         { s with group := { g with state := .stopped, stop := some (.refusal st none), abort := false, phase := .rest } }
         .desk 6)
     let phase := fun (p : GroupPhase) => ({ s with group := { g with phase := p } } : State)
     let hand := fun (u : State) => ({ u with cred := { u.cred with waiting := u.cred.waiting ++ [.group] } } : State)
     (s.powered = true → g.phase = .waiting → s.placesTaken .desk < 16 → exec .groupPlaceHold s = .next s.groupRun) ∧
     (s.settings.service ≠ .inService → s.groupRun = stop .notInService) ∧
     (s.settings.service = .inService → e.fields = none → s.groupRun = stop .noSuch) ∧
     (∀ f, s.settings.service = .inService → e.fields = some f →
       let copies := if f.copies = 0 then 8 else f.copies
       let checksIn := ∃ stayEnd limit, f.mode = .checkinIssue stayEnd limit
       (checksIn → e.checkedIn = false → s.groupRun = hand (phase .checkinHanded)) ∧
       (¬ (checksIn ∧ e.checkedIn = false) →
         (e.issued < copies → s.placesTaken .desk < 16 → s.groupRun = hand (phase (.issueHanded true))) ∧
         (e.issued < copies → 16 ≤ s.placesTaken .desk → s.groupRun = phase .waiting) ∧
         (copies ≤ e.issued → s.groupRun = phase .boundary))))

/-- The steps of a run at the Credential Manager. A check-in step whose rooms do not all pass the tests of a check-in stops
the run with the first failing room's reason; else the check-in goes on at the Minibar Accounting Unit. An issue step that is
refused stops the run with its reason and room; else the key is issued (mode NEW for the first copy of a NEW entry, COPY for
every other), the entry counts one copy more, the card image takes the held place as a CARD_IMAGE reply with the start's tag,
and the run goes on; while a Desk reply of several records is still being placed, the reply stays in the held place first (the
model's reading of R133 beside R195, log entry 37). The checks and the application of an issue are those of the statements
IssueKeyIsRefusedAtItsFirstFailure and IssuedKeyIsPendingAndListed. -/
def Obligations.GroupStepsCheckInAndIssue : Prop :=
  ∀ (s : State) (f : GroupFields), s.cmTakes .group = true → (s.entry s.group.next).fields = some f →
    let n := s.group.next
    let e := s.entry n
    let stop := fun (st : Status) (room : Option Nat) =>
      (State.noticing
        { s.taking with
          group := { s.group with state := .stopped, stop := some (.refusal st room), abort := false, phase := .rest } }
        .desk 6)
    (∀ stayEnd limit, s.group.phase = .checkinHanded → f.mode = .checkinIssue stayEnd limit →
      (∀ front room back st, f.rooms = front ++ room :: back → (∀ r ∈ front, s.checkInRefusal r stayEnd = none) →
        s.checkInRefusal room stayEnd = some st → exec .groupCheckinStep s = .next (stop st (some room))) ∧
      ((∀ r ∈ f.rooms, s.checkInRefusal r stayEnd = none) →
        exec .groupCheckinStep s = .next
          { s.taking with
            cred := { s.taking.cred with
              op := some (.checkIn
                { origin := .group n, minute := s.clock.minute, second := s.clock.second, stayEnd := stayEnd, limit := limit
                  rooms := f.rooms, todo := f.rooms
                  closing := (f.rooms.head?.map fun r => (s.room r).state == .occupied).getD false, earlier := none }) } })) ∧
    (∀ held, s.group.phase = .issueHanded held →
      let order : IssueOrder :=
        { rights := .guest (if f.gen = .new ∧ e.issued = 0 then .new else .copy) f.rooms f.zones f.minibar
          start := f.keyStart, stop := f.keyEnd, origin := .group n (e.issued + 1) }
      (∀ st room, s.issueCheck order = .refused st room → exec .groupIssueStep s = .next (stop st room)) ∧
      (∀ key k reused, s.issueCheck order = .accepted key k reused →
        let u := s.taking.issueApply order key k reused
        let v := u.setEntry n { e with issued := e.issued + 1 }
        let reply := cardImageReply s.group.startTag n (e.issued + 1) (u.imageOf key k)
        let placing := ∃ q, s.desk.inProgress = some q ∧ q.answered = true
        (held = false ∨ ¬ placing →
          exec .groupIssueStep s = .next
            (State.groupAfterStep
              { v with
                group := { v.group with phase := .rest }
                desk := { v.desk with replies := v.desk.replies ++ if held = true then [reply] else [] } })) ∧
        (held = true → placing →
          exec .groupIssueStep s = .next { v with group := { v.group with phase := .imageHeld reply } })))

/-- After an applied step the run is at the boundary of a complete entry, stops for a set abort flag, or makes its next tests.
At the boundary done takes next; the run ends IDLE at last, with GROUP_DONE; otherwise next moves on, to first under a
redirect mark, and then a set abort flag or a halt stops the run with GROUP_HALTED, and any other run makes its tests at the
new next. -/
def Obligations.GroupBoundaryMovesTheRunOn : Prop :=
  ∀ s : State,
    let g := s.group
    let e := s.entry g.next
    let halted := fun (u : State) (r : StopReason) =>
      (State.noticing { u with group := { u.group with state := .stopped, stop := some r, phase := .rest } } .desk 7)
    (∀ f, e.fields = some f →
      let done := (e.checkedIn = true ∨ f.mode = .issueOnly) ∧ e.issued = if f.copies = 0 then 8 else f.copies
      (done → s.groupAfterStep = { s with group := { g with phase := .boundary } }) ∧
      (¬ done → g.abort = true → s.groupAfterStep = halted s .abort) ∧
      (¬ done → g.abort = false → s.groupAfterStep = s.groupRun)) ∧
    (s.powered = true → g.phase = .boundary →
      (g.next = g.last →
        exec .entryBoundary s = .next
          (State.noticing
            { s with group := { g with done := some g.next, phase := .rest, state := .idle, redirect := false, abort := false } }
            .desk 5)) ∧
      (g.next ≠ g.last →
        let next := if g.redirect = true then g.first else (g.next + 1) % 16
        let u : State := { s with group := { g with done := some g.next, phase := .rest, next := next, redirect := false } }
        (g.abort = true → exec .entryBoundary s = .next (halted u .abort)) ∧
        (g.abort = false → g.state = .halting → exec .entryBoundary s = .next (halted u .halt)) ∧
        (g.abort = false → g.state ≠ .halting → exec .entryBoundary s = .next u.groupRun)))

/-- GROUP_HALT and GROUP_ABORT are refused NOT_READY in UNPROVISIONED and GROUP_STATE without a run. A halt makes a RUNNING
run HALTING; an abort sets the abort flag and stops at once, with GROUP_HALTED, a run that waits for a reply place; the reply
carries the queue state. A run that waits while a place is free holds it first, as GROUP_PLACE_HOLD does, and the abort then
finds the run as its tests left it (R141 of a FETCH before the abort; of any free place, the model's reading, log entry 42). -/
def Obligations.GroupHaltAndAbortActOnTheRun : Prop :=
  ∀ (s : State) (fs : List Byte),
    let g := s.group
    let active := g.state = .running ∨ g.state = .halting
    (s.asked .desk .groupHalt fs →
      exec .groupHalt s = .next
        (if s.settings.service = .unprovisioned then s.answer .desk .notReady []
        else if ¬ active then s.answer .desk .groupState []
        else State.answer { s with group := { g with state := .halting } } .desk .ok [.num 1 2])) ∧
    (s.asked .desk .groupAbort fs →
      (s.settings.service = .unprovisioned → exec .groupAbort s = .next (s.answer .desk .notReady [])) ∧
      (s.settings.service ≠ .unprovisioned → ¬ active → g.phase ≠ .waiting ∨ 16 ≤ s.placesTaken .desk →
        exec .groupAbort s = .next (s.answer .desk .groupState [])) ∧
      (s.settings.service ≠ .unprovisioned → active → g.phase ≠ .waiting →
        exec .groupAbort s = .next
          (State.answer { s with group := { g with abort := true } } .desk .ok [.num 1 (groupStateCode g.state)])) ∧
      (s.settings.service ≠ .unprovisioned → active → g.phase = .waiting → 16 ≤ s.placesTaken .desk →
        exec .groupAbort s = .next
          ((State.noticing
            { s with group := { g with abort := true, state := .stopped, stop := some .abort, phase := .rest } }
            .desk 7).answer .desk .ok [.num 1 3])) ∧
      (s.settings.service ≠ .unprovisioned → g.phase = .waiting → s.placesTaken .desk < 16 →
        ∃ u : State, exec .groupPlaceHold s = .next u ∧ u = s.groupRun ∧
          (u.group.state = .running ∨ u.group.state = .halting →
            exec .groupAbort s = .next
              (State.answer { u with group := { u.group with abort := true } } .desk .ok
                [.num 1 (groupStateCode u.group.state)])) ∧
          (u.group.state ≠ .running → u.group.state ≠ .halting →
            exec .groupAbort s = .next (u.answer .desk .groupState []))))

/-! ### Entry Journal (chapter 7) -/

/-- The staging input takes the record that was offered first: it joins the end of staging while that holds fewer than 32
records, and is otherwise counted as unstaged, held at 65,535. A RESTART record takes the M and S of its staging.
PROGRAM_START begins programming the head of staging when the journal is NORMAL, the array IDLE, no erase-ahead is due and the
write page is FILLING with a free slot. PROGRAM_COMPLETE with the programmed bytes read back makes the record durable as
newest + 1: its slot holds it and is readable, it leaves staging, a GAP record of the unstaged count takes the freed place
when records were lost, the write position moves on, after slot 63 the page is FULL, and then come the erase-ahead test at slot
32 and the high test; a journal whose newest is 4,294,967,295 then is FAILED with cause SEQUENCE_END (the model's reading of
when, log entry 19). Other bytes retire the page with the number of the slot as its held count: nothing is durable and the
record stays at the head of staging. Retiring a page marks it retired with its held count in the map, at its ring position
while it holds (the model's reading, log entry 18), and raises PAGE_RETIRED; a page with nothing to hold goes OUT at once. The
statement TurnAndErasesTakeTheNextPage says what going OUT and the two tests do. (The write position behind slot 63
and behind a retirement is the model's reading, log entry 38.) -/
def Obligations.StagedRecordsBecomeDurable : Prop :=
  (∀ (s : State) (r : Rec) (rest : List Rec), s.powered = true → s.journal.offers = r :: rest →
     let j := s.journal
     let staged :=
       match r.body with
       | .restart _ => { r with minute := s.clock.minute, second := s.clock.second }
       | _ => r
     (j.staging.length < 32 →
       exec .stageRecord s = .next { s with journal := { j with offers := rest, staging := j.staging ++ [staged] } }) ∧
     (32 ≤ j.staging.length →
       exec .stageRecord s = .next { s with journal := { j with offers := rest, unstaged := min (j.unstaged + 1) 65535 } })) ∧
  (∀ (s : State) (r : Rec) (rest : List Rec), s.tablesWf → s.powered = true → s.journal.staging = r :: rest →
     let j := s.journal
     let w := j.write
     (j.state = .normal → j.writer = .idle → j.eraseAhead = none → s.writeFilling = true → w.slot < 64 →
       j.newest < 4294967295 → exec .programStart s = .next { s with journal := { j with writer := .programming } }) ∧
     (∀ read : List Byte, j.writer = .programming → read.length = 32 →
       let p := s.page w.page
       (read = recordImage (j.newest + 1) r →
         let gap : List Rec :=
           if j.unstaged = 0 then []
           else [{ source := .journalUnit, minute := s.clock.minute, second := s.clock.second, body := .gap j.unstaged }]
         ∃ v : State,
           exec (.programComplete read) s = .next
             (let tested := (if w.slot = 31 then v.eraseAheadTest else v).highTest
             if j.newest + 1 = 4294967295 then tested.failJournal .sequenceEnd else tested) ∧
           v =
             { s with
               journal :=
                 { j with
                   pages := v.journal.pages, newest := j.newest + 1, staging := rest ++ gap, unstaged := 0
                   write := { w with slot := w.slot + 1 }, writer := .idle } } ∧
           (v.page w.page).slot w.slot = read ∧ (v.page w.page).readable = p.readable ++ [w.slot] ∧
           (v.page w.page).fill = (if w.slot = 63 then .full else p.fill) ∧
           (∀ n, n ≠ w.slot → (v.page w.page).slot n = p.slot n) ∧ ∀ q, q ≠ w.page → v.page q = s.page q) ∧
       (read ≠ recordImage (j.newest + 1) r →
         ∃ v : State,
           exec (.programComplete read) s = .next (v.retirePage w.page w.slot) ∧
           v = { s with journal := { j with pages := v.journal.pages, writer := .idle } } ∧
           (v.page w.page).slot w.slot = read ∧ (v.page w.page).readable = p.readable ∧ (v.page w.page).fill = p.fill ∧
           (∀ n, n ≠ w.slot → (v.page w.page).slot n = p.slot n) ∧ ∀ q, q ≠ w.page → v.page q = s.page q))) ∧
  (∀ (s : State) (p held : Nat),
     let j := s.journal
     let retired := (State.noticing
       { s with
         journal :=
           { j with map := { j.map with ring := j.map.ring.map fun x => if x.page = p then { x with held := some held } else x } } }
       .audit 8)
     let nothing := held = 0 ∨ ∀ n ∈ (s.page p).readable, slotSequence ((s.page p).slot n) ≤ j.released
     (nothing → s.retirePage p held = retired.pageOut p) ∧ (¬ nothing → s.retirePage p held = retired))

/-- A record as the writer programs it is 32 bytes that the part reads as a record of its sequence number: its check value
agrees, it does not read erased, and its first four bytes give the number. -/
def Obligations.ProgrammedRecordReadsBackAsARecord : Prop :=
  ∀ (seq : Nat) (r : Rec), seq < 4294967296 → (fieldBytes (recordFields r.body)).length ≤ 19 →
    (recordImage seq r).length = 32 ∧ slotIsRecord (recordImage seq r) = true ∧ slotSequence (recordImage seq r) = seq

/-- TURN, with staging waiting and the write page FULL or retired: with no usable page the writer waits; an ERASED page
becomes the write page at slot 0; a page whose records are all released begins its erase; any other is discarded, its highest
number raising discarded-through and released-through, with JOURNAL_DISCARD. ERASE_START begins the erase of the page an
erase-ahead chose, and its records stop being readable. ERASE_COMPLETE of a page that reads erased leaves it ERASED, or the
write page where the turn waits for it; of any other page it raises PAGE_RETIRED and retires the page with nothing held. A
discard takes the retired pages that now hold nothing above released-through OUT, raises the notice and makes the high test
before its erase begins. The page a turn finds is the first, in ring order behind the write position, that is not retired and
not the write page. The erase-ahead test marks that page when it is FULL, released throughout and not being erased. A page
that goes OUT is replaced by the lowest spare, erased, with SPARES_OUT for the last, or, without a spare, leaves the ring,
with the high test, and below 8 pages the journal is FAILED with cause RING_SHORT; a writer that waits for a page turns again.
The high test compares the unreleased count with 48 times the ring's pages, and raises JOURNAL_HIGH when the mark is newly set;
a failure raises JOURNAL_FAILED, once for its cause, and RING_SHORT takes the place of SEQUENCE_END but not the other way round
(the second notice and that order are the model's reading, log entry 41). (The erase-ahead as a mark that comes before any
program or turn, the place where the search starts, and the wake by a page going OUT are the model's reading, log entry 20; the pages
that a discard takes OUT in the order of their ring positions from the lowest, log entry 44.) -/
def Obligations.TurnAndErasesTakeTheNextPage : Prop :=
  (∀ s : State, s.tablesWf → s.powered = true →
    let j := s.journal
    let due := j.state = .normal ∧ j.writer = .idle ∧ j.staging ≠ [] ∧ s.writeFilling = false ∧ j.eraseAhead = none
    let erase := fun (p : Nat) (forTurn : Bool) (ahead : Option Nat) =>
      State.setPage { s with journal := { j with writer := .erasing p forTurn, eraseAhead := ahead } } p
        { s.page p with readable := [] }
    (due →
      (s.turnTarget = none → exec .turn s = .next { s with journal := { j with writer := .waitingPage } }) ∧
      (∀ e, s.turnTarget = some e →
        ((s.page e.page).fill = .erased →
          exec .turn s = .next
            (State.setPage { s with journal := { j with write := { pos := e.pos, page := e.page, slot := 0 } } } e.page
              { s.page e.page with fill := .filling, readable := [] })) ∧
        ((s.page e.page).fill ≠ .erased → (s.page e.page).within j.released = true →
          exec .turn s = .next (erase e.page true j.eraseAhead)) ∧
        ((s.page e.page).fill ≠ .erased → (s.page e.page).within j.released = false →
          let top := (s.page e.page).sequences.foldl max 0
          ∃ t : State, exec .turn s = .next t ∧
            t = { s with journal := t.journal, audit := { s.audit with notices := t.audit.notices } } ∧
            t.journal.discarded = top ∧ t.journal.released = max j.released top ∧ t.journal.newest = j.newest ∧
            t.journal.staging = j.staging ∧ maskHas t.audit.notices 7 = true ∧
            (t.journal.state = .normal → t.journal.writer = .erasing e.page true) ∧
            let v :=
              State.setPage { s with journal := { j with discarded := top, released := max j.released top } } e.page
                { s.page e.page with readable := [] }
            let u := ((v.pagesOut v.releasedHolders).noticing .audit 7).highTest
            t =
              if u.journal.state = .normal then
                State.setPage { u with journal := { u.journal with writer := .erasing e.page true } } e.page
                  { u.page e.page with readable := [] }
              else u))) ∧
    (∀ p, j.eraseAhead = some p → j.state = .normal → j.writer = .idle →
      exec .eraseStart s = .next (erase p false none)) ∧
    (∀ p forTurn, j.writer = .erasing p forTurn →
      (∀ e, j.map.posOf p = some e →
        exec (.eraseComplete []) s = .next
          (if forTurn = true then
            State.setPage
              { s with journal := { j with writer := .idle, write := { pos := e.pos, page := p, slot := 0 } } } p
              { slots := [], fill := .filling, readable := [] }
          else
            State.setPage { s with journal := { j with writer := .idle } } p { slots := [], fill := .erased, readable := [] })) ∧
      (∀ reads, reads ≠ [] → pageReading 0 reads = true →
        ∃ t : State, exec (.eraseComplete reads) s = .next t ∧
          t = { s with journal := t.journal, audit := { s.audit with notices := t.audit.notices } } ∧
          t.journal.newest = j.newest ∧ t.journal.staging = j.staging ∧ maskHas t.audit.notices 8 = true ∧
          t =
            (State.setPage { s with journal := { j with writer := .idle } } p
              { slots := slotsOf reads, fill := .full, readable := [] }).retirePage p 0))) ∧
  (∀ s : State,
    let j := s.journal
    let free := fun (e : RingPos) => e.held = none ∧ e.page ≠ j.write.page
    (∀ front e back, j.map.ring = front ++ e :: back → free e → j.write.pos < e.pos →
      (∀ x ∈ front, free x → x.pos ≤ j.write.pos) → s.turnTarget = some e) ∧
    ((∀ x ∈ j.map.ring, free x → x.pos ≤ j.write.pos) →
      (∀ front e back, j.map.ring = front ++ e :: back → free e → (∀ x ∈ front, ¬ free x) → s.turnTarget = some e) ∧
      ((∀ x ∈ j.map.ring, ¬ free x) → s.turnTarget = none)) ∧
    (s.turnTarget = none → s.eraseAheadTest = s) ∧
    (∀ e, s.turnTarget = some e →
      let p := s.page e.page
      let due :=
        p.fill = .full ∧ (∀ n ∈ p.readable, slotSequence (p.slot n) ≤ j.released) ∧
          ∀ forTurn, j.writer ≠ .erasing e.page forTurn
      (due → s.eraseAheadTest = { s with journal := { j with eraseAhead := some e.page } }) ∧
      (¬ due → s.eraseAheadTest = s))) ∧
  (∀ (s : State) (p : Nat) (e : RingPos), s.journal.map.posOf p = some e →
    let j := s.journal
    let emptied := s.setPage p { s.page p with readable := [] }
    let awake := if j.writer = .waitingPage then .idle else j.writer
    (∀ spare rest, j.map.spares = spare :: rest →
      let u := emptied.setPage spare Page.blank
      let v : State :=
        { u with
          journal :=
            { u.journal with
              map :=
                { ring := j.map.ring.map fun x => if x.page = p then { pos := e.pos, page := spare, held := none } else x
                  spares := rest, out := j.map.out ++ [p] }
              writer := awake } }
      s.pageOut p = if rest = [] then v.noticing .audit 9 else v) ∧
    (j.map.spares = [] →
      let ring := j.map.ring.filter fun x => x.page != p
      let v : State :=
        { emptied with
          journal := { emptied.journal with map := { ring := ring, spares := [], out := j.map.out ++ [p] }, writer := awake } }
      s.pageOut p = if ring.length < 8 then v.highTest.failJournal .ringShort else v.highTest)) ∧
  (∀ s : State,
    let j := s.journal
    let full := j.map.ring.length * 48 ≤ j.newest - j.released
    let mark := fun (b : Bool) => ({ s with journal := { j with high := b } } : State)
    (full → j.high = true → s.highTest = s) ∧ (full → j.high = false → s.highTest = (mark true).noticing .audit 10) ∧
    (¬ full → s.highTest = mark false) ∧
    (∀ d, j.state = .failed .ringShort ∨ j.state = .failed d → s.failJournal d = s) ∧
    (∀ d, j.state ≠ .failed .ringShort → j.state ≠ .failed d →
      s.failJournal d = State.noticing { s with journal := { j with state := .failed d } } .audit 11))

/-- JOURNAL_READ, JOURNAL_RELEASE and JOURNAL_HEALTH are answered between operations of the page array, and wait while a
program or an erase is in progress (a page waited for is no operation: the model's reading, log entry 21). JOURNAL_READ is
refused JOURNAL_RECOVERING during the scan, whatever its fields (the model's choice, log entry 39), and BAD_FIELD for a
start of 0 or a count of 0 or above 8;
otherwise the head of its answer takes the place held for it, three parts of each chosen record wait for places, and nothing
else changes; one whose reply a link reset discarded only ends. The records chosen are none above newest; else consecutive
readable records, up to the count and not past a hole in the readable numbers (log entry 40), from the least
readable number at or above the start, or from the least of all, with the GAP flag, for a start at or below discarded-through.
The three parts of a record carry its bytes 0 to 11, 12 to 23 and 24 to 31. JOURNAL_RELEASE is refused likewise during the
scan; otherwise the number, held to newest, moves released-through forward when it lies above it, retired pages that hold
nothing more go OUT, the high test is made, and the erase-ahead test from slot 32 on; the reply carries the number, the mark,
the unreleased count and whether it moved. JOURNAL_HEALTH replies with states, pages, marks, counts and write position, during
the scan with FFh for what the scan has not found and the positions scanned, and changes nothing but the draw of that free
value. (No erase-ahead test behind a release that moves no mark, log entry 43, pages OUT from the lowest ring position on, log
entry 44: the model's reading. The unreleased count in 2 bytes and the FFh fields are the model's reading, log entry 14; the positions scanned are a
free value, log entry 9.) -/
def Obligations.JournalIsReadAndReleased : Prop :=
  (∀ (s : State) (fs : List Byte),
    let j := s.journal
    let busy := j.writer = .programming ∨ ∃ p forTurn, j.writer = .erasing p forTurn
    (busy →
      (s.asked .audit .journalRead fs → exec .journalRead s = .next s) ∧
      (s.asked .audit .journalRelease fs → exec .journalRelease s = .next s) ∧
      (∀ l, s.asked l .journalHealth fs → exec (.journalHealth l) s = .next s)) ∧
    (¬ busy → ∀ q, s.audit.inProgress = some q → q.discard = false → s.asked .audit .journalRead fs →
      let start := fieldAt fs 0 4
      let count := fieldAt fs 4 1
      let bad := start = 0 ∨ count = 0 ∨ 8 < count
      (j.state = .recovering → exec .journalRead s = .next (s.answer .audit .journalRecovering [])) ∧
      (j.state ≠ .recovering → bad → exec .journalRead s = .next (s.answer .audit .badField [])) ∧
      (∀ records gap, j.state ≠ .recovering → ¬ bad → s.chooseRecords start count = (records, gap) →
        let flags := (if gap = true then 0x40 else 0) + (if records = [] then 0x80 else 0)
        let head := replyRecord q.tag .ok 0x50
          (BitVec.ofNat 8 flags :: bigEndian 1 records.length ++ bigEndian 4 j.discarded ++ bigEndian 4 j.newest)
        records.length ≤ count ∧
        exec .journalRead s = .next
          { s with
            audit :=
              { s.audit with
                replies := s.audit.replies ++ [head]
                inProgress :=
                  if records = [] then none else some { q with phase := .placing (allParts q.tag records) } } })) ∧
    (¬ busy → ∀ q, s.audit.inProgress = some q → q.discard = true → s.asked .audit .journalRead fs →
      exec .journalRead s = .next { s with audit := { s.audit with inProgress := none } }) ∧
    (¬ busy → s.asked .audit .journalRelease fs →
      let through := min (fieldAt fs 0 4) j.newest
      (j.state = .recovering → exec .journalRelease s = .next (s.answer .audit .journalRecovering [])) ∧
      (j.state ≠ .recovering → through ≤ j.released →
        exec .journalRelease s = .next
          (s.answer .audit .ok [.num 4 through, .num 4 j.released, .num 2 (j.newest - j.released), .flag false])) ∧
      (j.state ≠ .recovering → j.released < through →
        ∃ t : State,
          exec .journalRelease s = .next
            (t.answer .audit .ok [.num 4 through, .num 4 through, .num 2 (j.newest - through), .flag true]) ∧
          t = { s with journal := t.journal, audit := { s.audit with notices := t.audit.notices } } ∧
          t.journal.released = through ∧ t.journal.newest = j.newest ∧ t.journal.discarded = j.discarded ∧
          t.journal.staging = j.staging ∧ t.journal.offers = j.offers ∧
          let v : State := { s with journal := { j with released := through } }
          let u := (v.pagesOut v.releasedHolders).highTest
          t = if 32 ≤ j.write.slot then u.eraseAheadTest else u)) ∧
    (∀ l, ¬ busy → s.asked l .journalHealth fs →
      let ff := fun (w : Nat) => Field.raw (List.replicate w 0xFF#8)
      let retired := j.map.out.length + (j.map.ring.filter fun e => e.held.isSome).length
      (j.state ≠ .recovering →
        exec (.journalHealth l) s = .next
          (s.answer l .ok
            [.num 1 (if j.state = .normal then 0 else 2),
             optField 1 (if j.state = .failed .ringShort then some 0 else if j.state = .failed .sequenceEnd then some 1 else none),
             .num 1 (if j.writer = .waitingPage then 3 else 0), .num 1 j.map.ring.length, .num 1 j.map.spares.length,
             .num 1 retired, .num 2 (j.map.ring.length * 64), .num 4 j.newest, .num 4 j.released, .num 4 j.discarded,
             .num 2 (j.newest - j.released), .num 1 j.staging.length, .num 2 j.unstaged, .flag j.high, .num 1 j.write.pos,
             .num 1 j.write.page, .num 1 j.write.slot])) ∧
      (j.state = .recovering →
        ∃ scanned, scanned ≤ j.map.ring.length ∧
          exec (.journalHealth l) s = .next
            (State.answer { s with fresh := s.fresh + 1 } l .ok
              [.num 1 1, ff 1, ff 1, ff 1, ff 1, ff 1, ff 2, ff 4, ff 4, ff 4, ff 2, .num 1 j.staging.length, .num 2 j.unstaged,
               ff 1, ff 1, ff 1, ff 1, .num 1 scanned])))) ∧
  (∀ (s : State) (start count : Nat), 1 ≤ start → 1 ≤ count →
    let j := s.journal
    let readable := j.map.ring.flatMap fun e =>
      (s.page e.page).readable.map fun n => (slotSequence ((s.page e.page).slot n), (s.page e.page).slot n)
    let numbers := readable.map Prod.fst
    let low := if start ≤ j.discarded then 1 else start
    let chosen := s.chooseRecords start count
    (j.newest < start → chosen = ([], false)) ∧
    (start ≤ j.newest → (∀ n ∈ numbers, n < low) → chosen = ([], false)) ∧
    (∀ first ∈ numbers, start ≤ j.newest → low ≤ first → (∀ n ∈ numbers, low ≤ n → first ≤ n) →
      chosen.2 = decide (start ≤ j.discarded) ∧ 1 ≤ chosen.1.length ∧ chosen.1.length ≤ count ∧
      (∀ i bs, chosen.1[i]? = some bs → (first + i, bs) ∈ readable) ∧
      (chosen.1.length = count ∨ first + chosen.1.length ∉ numbers))) ∧
  (∀ (tag : Byte) (bs : List Byte) (rest : List (List Byte)), bs.length = 32 →
    allParts tag [] = [] ∧
    allParts tag (bs :: rest) =
      [[tag, 0#8, 0x50#8, 1#8] ++ bs.take 12, [tag, 0#8, 0x50#8, 2#8] ++ (bs.drop 12).take 12,
       [tag, 0#8, 0x50#8, if rest = [] then 0x83#8 else 3#8] ++ bs.drop 24 ++ List.replicate 4 0#8] ++ allParts tag rest)

/-! ### Site Settings (chapter 8) -/

/-- SITE_WRITE is refused WRITE_ONCE outside UNPROVISIONED and BAD_FIELD for a number of 0, a wing above 15 or a weekday above
6; otherwise it writes the record and moves to CONFIGURING. COMMISSION moves CONFIGURING with a set clock to IN_SERVICE, is OK
without a move in IN_SERVICE, and is refused NOT_READY otherwise with the state and the clock-set flag. DECOMMISSION moves
IN_SERVICE to CONFIGURING, is OK without a move in CONFIGURING, and is refused NOT_READY in UNPROVISIONED. Every move offers a
SERVICE_CHANGE record, raises the Lock notice and replies with the old and new state. (The empty content of an OK reply that
moves nothing is the model's reading, log entry 14.) -/
def Obligations.ServiceStateMovesByItsThreeRequests : Prop :=
  ∀ (s : State) (fs : List Byte),
    let old := s.settings.service
    let move := fun (l : LinkId) (kind : ReqKind) (new : Service) (site : Option SiteRecord) (record : Option SiteRecord) =>
      (((({ s with settings := { s.settings with service := new, record := record } } : State).offering
        [s.recordNow .siteSettings (.serviceChange old new kind l site)]).noticing .lock 3).answer l .ok
        [.num 1 (serviceCode old), .num 1 (serviceCode new)])
    (s.asked .desk .siteWrite fs →
      let r : SiteRecord := { number := fieldAt fs 0 2, wing := fieldAt fs 2 1, epoch := fieldAt fs 3 1 }
      exec .siteWrite s = .next
        (if old ≠ .unprovisioned then s.answer .desk .writeOnce []
        else if r.number = 0 ∨ 15 < r.wing ∨ 6 < r.epoch then s.answer .desk .badField []
        else move .desk .siteWrite .configuring (some r) (some r))) ∧
    (s.asked .desk .commission fs →
      exec .commission s = .next
        (if old = .inService then s.answer .desk .ok []
        else if old = .configuring ∧ s.clock.isSet = true then move .desk .commission .inService none s.settings.record
        else s.answer .desk .notReady [.num 1 (serviceCode old), .flag s.clock.isSet])) ∧
    (s.asked .audit .decommission fs →
      exec .decommission s = .next
        (if old = .unprovisioned then s.answer .audit .notReady []
        else if old = .configuring then s.answer .audit .ok []
        else move .audit .decommission .configuring none s.settings.record))

/-- SETTINGS_SET is refused NOT_READY in UNPROVISIONED and BAD_FIELD for a change flag above 1 (the model's reading, log entry
16); otherwise each flagged value, held to its range, replaces its setting, and the reply carries the settings and which
values were held. FENCE_DESK and UNFENCE_DESK move the fence to a value it does not hold with a SECURITY record and the Desk
notice, a fence making a RUNNING group run HALTING, and answer with the fence; a fence already so changes nothing. Both wait
while a Desk request that its block has taken, a check-in, a check-out or a DOOR_SET, is not complete, so that the fence follows
it; every step keeps that none is so while the fence is on. IDENTIFY and SITE_QUERY reply and change nothing. (The change flag of a SETTINGS_SET standing behind each value is the model's reading,
log entry 28.) -/
def Obligations.SettingsFenceAndIdentityRequests : Prop :=
  (∀ s t : State, s.fenceFollowsTheDesk → step s = .next t → t.fenceFollowsTheDesk) ∧
  ∀ (s : State) (fs : List Byte),
    let x := s.settings
    let taken := ∃ r, s.desk.inProgress = some r ∧ r.phase = .taken
    (taken →
      (s.asked .audit .fenceDesk fs → exec .fenceDesk s = .next s) ∧
      (s.asked .audit .unfenceDesk fs → exec .unfenceDesk s = .next s)) ∧
    (s.asked .desk .settingsSet fs →
      let hold := fun (low high n : Nat) => max low (min n high)
      let value := fun (o w low high now : Nat) => if fieldAt fs (o + w) 1 = 1 then hold low high (fieldAt fs o w) else now
      let held := fun (o w low high : Nat) =>
        decide (fieldAt fs (o + w) 1 = 1) && (hold low high (fieldAt fs o w) != fieldAt fs o w)
      let y :=
        { x with
          grace := value 0 1 0 120 x.grace, encodeDeadline := value 2 1 1 60 x.encodeDeadline
          idleTimeout := value 4 2 60 900 x.idleTimeout }
      exec .settingsSet s = .next
        (if x.service = .unprovisioned then s.answer .desk .notReady []
        else if 1 < fieldAt fs 1 1 ∨ 1 < fieldAt fs 3 1 ∨ 1 < fieldAt fs 6 1 then s.answer .desk .badField []
        else
          State.answer { s with settings := y } .desk .ok
            [.num 1 y.grace, .num 1 y.encodeDeadline, .num 2 y.idleTimeout, .flag (held 0 1 0 120), .flag (held 2 1 1 60),
             .flag (held 4 2 60 900)])) ∧
    (s.asked .audit .fenceDesk fs → ¬ taken →
      let g := s.group
      exec .fenceDesk s = .next
        ((if x.fence = true then s
          else
            ((({ s with
              settings := { x with fence := true }
              group := { g with state := if g.state = .running then .halting else g.state } } : State).offering
              [s.recordNow .siteSettings (.security (.fenceChange true))]).noticing .desk 9)).answer .audit .ok [.flag true])) ∧
    (s.asked .audit .unfenceDesk fs → ¬ taken →
      exec .unfenceDesk s = .next
        ((if x.fence = false then s
          else
            ((({ s with settings := { x with fence := false } } : State).offering
              [s.recordNow .siteSettings (.security (.fenceChange false))]).noticing .desk 9)).answer .audit .ok [.flag false])) ∧
    (∀ l, s.asked l .identify fs →
      exec (.identify l) s = .next
        (s.answer l .ok
          [.num 2 0x2E51, .num 2 0x6024, .num 1 1, .num 1 (match l with | .desk => 1 | .lock => 2 | .audit => 3), .num 2 512,
           .num 2 2048, .num 1 8, .num 1 4, .num 2 768, .num 1 16, .num 1 16, .num 2 256, .num 1 32, .num 1 32, .num 1 8,
           .num 1 16, .num 1 32, .num 1 136, .num 1 64, .num 1 16, .num 1 16])) ∧
    (∀ l, s.asked l .siteQuery fs →
      exec (.siteQuery l) s = .next
        (s.answer l .ok
          [.num 1 (serviceCode x.service), optField 2 (x.record.map SiteRecord.number),
           optField 1 (x.record.map SiteRecord.wing), optField 1 (x.record.map SiteRecord.epoch), .num 1 x.grace,
           .num 1 x.encodeDeadline, .num 2 x.idleTimeout, .flag x.fence, .flag s.mini.tariffLock, .flag s.clock.isSet]))

/-! ### Link ports (chapter 9) -/

/-- WRITE_SLOT: a slot index at or above the ring length, or in the owned range, changes no slot, sets the last ring error
SLOT_RANGE or SLOT_OWNED and the notice RING_ERROR; otherwise the 16 bytes replace the slot's contents; neither refusal halts
the ring, and head, tail and owned count stay. A frame cut before its last byte has no effect. xSDO carries 0 throughout (the
bytes of the last frame on xSDO are the model's own view of the pin, log entry 23). -/
def Obligations.WriteSlotWritesASlotNotOwned : Prop :=
  ∀ (s : State) (l : LinkId) (bytes : List Byte), s.powered = true →
    let k := s.link l
    let n := fieldAt bytes 0 1
    let out := fun (u : Link) => s.setLink l { u with sdo := List.replicate bytes.length 0#8 }
    let error := fun (e : RingError) => { k with lastError := some e, notices := k.notices ||| 4#16 }
    (bytes.length < 17 → exec (.writeSlot l bytes) s = .next (out k)) ∧
    (17 ≤ bytes.length →
      (k.len ≤ n → exec (.writeSlot l bytes) s = .next (out (error .slotRange))) ∧
      (n < k.len → (n + k.len - k.head) % k.len < (k.tail + k.len - k.head) % k.len →
        exec (.writeSlot l bytes) s = .next (out (error .slotOwned))) ∧
      (n < k.len → (k.tail + k.len - k.head) % k.len ≤ (n + k.len - k.head) % k.len →
        ∃ slots,
          exec (.writeSlot l bytes) s = .next (out { k with slots := slots }) ∧
          (s.tablesWf → tableLook blankSlot slots n = (bytes.drop 1).take 16) ∧
          ∀ m, m ≠ n → tableLook blankSlot slots m = k.slot m))

/-- POST: a new tail at or above the ring length, or one that would lower the owned count, is refused with TAIL_RANGE or
TAIL_BACK and RING_ERROR, and in strict mode halts a RUNNING ring at head; any other becomes the tail. RING: a length below 2
or above 16 is refused LENGTH_RANGE; otherwise it sets length, strict mode and enables (bits without a notice are kept 0: log
entry 22), head and tail 0, and a RUNNING ring. RESUME of a halted ring makes it RUNNING, past the stray slot or to the
offending slot. -/
def Obligations.RingFramesMoveTheRing : Prop :=
  ∀ (s : State) (l : LinkId) (bytes : List Byte), s.powered = true →
    let k := s.link l
    let out := fun (u : Link) => s.setLink l { u with sdo := List.replicate bytes.length 0#8 }
    let a := fieldAt bytes 0 1
    let error := fun (u : Link) (e : RingError) => { u with lastError := some e, notices := u.notices ||| 4#16 }
    let owned := (k.tail + k.len - k.head) % k.len
    let halting := fun (c : HaltCause) =>
      if k.strict = true ∧ k.halt = none then { k with halt := some (c, k.head) } else k
    exec (.post l bytes) s = .next
      (out
        (if bytes.length < 1 then k
        else if k.len ≤ a then error (halting .tailRange) .tailRange
        else if (a + k.len - k.head) % k.len < owned then error (halting .tailBack) .tailBack
        else { k with tail := a })) ∧
    exec (.ring l bytes) s = .next
      (out
        (if bytes.length < 4 then k
        else if a < 2 ∨ 16 < a then error k .lengthRange
        else
          { k with
            len := a, strict := fieldAt bytes 1 1 != 0, enables := BitVec.ofNat 16 (fieldAt bytes 2 2) &&& noticeMask l
            head := 0, tail := 0, halt := none })) ∧
    (k.halt = none → exec (.resume l bytes) s = .next (out k)) ∧
    (∀ c slot, k.halt = some (c, slot) →
      (c = .tailRange ∨ c = .tailBack → exec (.resume l bytes) s = .next (out { k with halt := none })) ∧
      (c = .noLead → exec (.resume l bytes) s = .next (out { k with halt := none, head := (k.head + 1) % k.len })) ∧
      (∀ n j, c = .missingExt → k.markAt 0 = .lead n → k.offending n = some j →
        exec (.resume l bytes) s = .next (out { k with halt := none, head := (k.head + j) % k.len })))

/-- FETCH returns the reply count, head and the oldest reply (16 zero bytes for none) and, when the whole frame is clocked,
removes that reply. STATUS returns the twelve bytes of the link's state and changes nothing else. CLEAR clears the flags of
its mask. A frame of an unknown code raises LINK_ERROR alone. What the master clocks beyond the returned bytes reads 0. xATTN is
asserted exactly while a reply is queued or a notice whose enable is on is set. (The bits of the flags byte of STATUS, strict
0, halted 1, in progress 2, place held 3, are the model's reading, log entry 12.) -/
def Obligations.FetchStatusAndNoticeFrames : Prop :=
  ∀ (s : State) (l : LinkId), s.powered = true →
    let k := s.link l
    let held := decide (l = .desk) &&
      match s.group.phase with
      | .issueHanded b => b
      | .imageHeld _ => true
      | _ => false
    (k.attention = true ↔ k.replies ≠ [] ∨ k.notices &&& k.enables ≠ 0#16) ∧
    let cut := fun (bs : List Byte) (n : Nat) => bs.take n ++ List.replicate (n - bs.length) 0#8
    (∀ n,
      let shown := bigEndian 1 k.replies.length ++ bigEndian 1 k.head ++ k.replies.head?.getD (List.replicate 16 0#8)
      (n < 18 → exec (.fetch l n) s = .next (s.setLink l { k with sdo := cut shown n })) ∧
      (18 ≤ n → exec (.fetch l n) s = .next (s.setLink l { k with sdo := cut shown n, replies := k.replies.tail }))) ∧
    (∀ n,
      exec (.status l n) s = .next
        (s.setLink l
          { k with
            sdo := cut
              (bigEndian 1 k.head ++ bigEndian 1 k.tail ++ bigEndian 1 k.len ++
                [BitVec.ofNat 8
                  (k.strict.toNat + 2 * k.halt.isSome.toNat + 4 * k.inProgress.isSome.toNat + 8 * held.toNat)] ++
                bigEndian 1 (k.halt.elim 0 fun h => haltCode h.1) ++ bigEndian 1 (k.halt.elim 0 Prod.snd) ++
                bigEndian 1 (k.lastError.elim 0 ringErrorCode) ++ bigEndian 1 k.replies.length ++
                bigEndian 2 k.notices.toNat ++ bigEndian 2 k.enables.toNat)
              n })) ∧
    (∀ bytes,
      exec (.clear l bytes) s = .next
        (s.setLink l
          { k with
            sdo := List.replicate bytes.length 0#8
            notices :=
              if bytes.length < 2 then k.notices else k.notices &&& ~~~(BitVec.ofNat 16 (fieldAt bytes 0 2)) })) ∧
    (∀ code bytes,
      exec (.unknownFrame l code bytes) s = .next
        (s.setLink l { k with sdo := List.replicate bytes.length 0#8, notices := k.notices ||| 2#16 }))

/-- LINK_RESET empties its own link's ring, replies and notices and returns its ring settings to default with every enable on;
a request in progress goes on with its reply to be discarded, and a reply being placed in parts ends. A Desk link reset also
makes a RUNNING group run HALTING and takes the place it holds; a card image that waits in that place is discarded and the run
goes on (the model's reading, log entry 37). The other links and every other block stay as they are. -/
def Obligations.LinkResetRestoresItsOwnLink : Prop :=
  ∀ (s : State) (l : LinkId) (bytes : List Byte), s.powered = true →
    let k := s.link l
    let kept :=
      match k.inProgress with
      | none => none
      | some r => match r.phase with
        | .placing _ => none
        | .handed => some { r with discard := true }
        | .taken => some { r with discard := true }
    let fresh : Link :=
      { len := 16, slots := k.slots, head := 0, tail := 0, strict := false, halt := none, lastError := none, inProgress := kept
        replies := [], notices := 0#16, enables := noticeMask l, sdo := List.replicate bytes.length 0#8 }
    let g := s.group
    exec (.linkReset l bytes) s = .next
      (if l = .desk then
        let u := fun (phase : GroupPhase) =>
          ({ s.setLink l fresh with
            group := { g with state := if g.state = .running then .halting else g.state, phase := phase } } : State)
        match g.phase with
        | .issueHanded _ => u (.issueHanded false)
        | .imageHeld _ => (u .rest).groupAfterStep
        | phase => u phase
      else s.setLink l fresh)

/-- TAKE_REQUEST, with a RUNNING ring that owns a slot, no request in progress and a free reply place. A slot at head that is
no lead, or a lead whose owned followers are not all extensions, is a sequence error with its SEQ_ERROR reply: the slots are
skipped, or in strict mode the ring halts at head. A complete request of a kind the link may send, with the slot count of its
kind, becomes the request in progress, handed to its owning block; otherwise it is answered NOT_PERMITTED or BAD_FIELD; its
slots are taken either way. A lead whose slots are not all owned yet waits. PLACE_REPLY_RECORD, with a free place, puts the
next waiting reply record of a reply in parts into the reply queue, and ends the request in progress with the last; without a
request being placed in parts it changes nothing. Behind the last record of a Desk reply stands the card image that the group
run held for it, and the run goes on (the model's reading of R133 beside R195, log entry 37). (A refusal by the Link Unit
carries the current M and S for a SET_TIME, the room's state for a CHECK_IN, the service state and the clock-set flag for a
COMMISSION, and no content for any other kind: the model's reading, log entry 15; FFh for the state of a room above 511, log
entry 14; the hand-over to the Credential Manager in the same step, log entry 4.) -/
def Obligations.RequestsAreTakenAndLaterRepliesPlaced : Prop :=
  (∀ (s : State) (l : LinkId), s.powered = true →
     let k := s.link l
     let owned := (k.tail + k.len - k.head) % k.len
     let byte := fun (n : Nat) => (k.slot k.head)[n]?.getD 0#8
     let code := (byte 2).toNat
     let place := fun (u : Link) (st : Status) (kind : Nat) (content : List Byte) =>
       s.setLink l { u with replies := u.replies ++ [replyRecord (byte 1) st kind content] }
     let own := fun (n : Nat) =>
       let room := fieldAt (k.fieldArea n) 0 2
       if kindOfCode code = some .setTime then bigEndian 4 s.clock.minute ++ bigEndian 1 s.clock.second
       else if kindOfCode code = some .checkIn then
         bigEndian 1 (if room < 512 then roomStateCode (s.room room).state else 0xFF)
       else if kindOfCode code = some .commission then
         bigEndian 1 (serviceCode s.settings.service) ++ bigEndian 1 s.clock.isSet.toNat
       else []
     let step := fun (n : Nat) => { k with head := (k.head + n) % k.len }
     let fault := fun (c : HaltCause) (next : Nat) => if k.strict = true then { k with halt := some (c, k.head) } else step next
     k.head < k.len → k.halt = none → k.inProgress = none → 0 < owned → s.placesTaken l < 16 →
     ((∀ n, k.markAt 0 ≠ .lead n) →
       exec (.takeRequest l) s = .next
         (place (fault .noLead 1) .seqError 0 (bigEndian 1 1 ++ bigEndian 1 k.head))) ∧
     (∀ n, k.markAt 0 = .lead n →
       (k.len < n + 2 → exec (.takeRequest l) s = .next (place (step 1) .badField code (own 0))) ∧
       (n + 2 ≤ k.len →
         (∀ j, k.offending n = some j →
           exec (.takeRequest l) s = .next
             (place (fault .missingExt j) .seqError code (bigEndian 1 2 ++ bigEndian 1 ((k.head + j) % k.len)))) ∧
         (k.offending n = none → owned ≤ n → exec (.takeRequest l) s = .next s) ∧
         (k.offending n = none → n < owned →
           (kindOfCode code = none → exec (.takeRequest l) s = .next (place (step (n + 1)) .notPermitted code [])) ∧
           (∀ kind, kindOfCode code = some kind →
             (permitted kind l = false →
               exec (.takeRequest l) s = .next (place (step (n + 1)) .notPermitted code (own n))) ∧
             (permitted kind l = true → n + 1 ≠ slotCount kind →
               exec (.takeRequest l) s = .next (place (step (n + 1)) .badField code (own n))) ∧
             (permitted kind l = true → n + 1 = slotCount kind →
               let r : Request := { tag := byte 1, kind := kind, fields := k.fieldArea n, phase := .handed, discard := false }
               let u := s.setLink l { step (n + 1) with inProgress := some r }
               exec (.takeRequest l) s = .next
                 (if credentialKind kind = true then
                   { u with cred := { u.cred with waiting := u.cred.waiting ++ [if l = .audit then .audit else .desk] } }
                 else u))))))) ∧
  (∀ (s : State) (l : LinkId), s.powered = true → s.placesTaken l < 16 →
     let k := s.link l
     let waits := l = .desk ∧ ∃ image, s.group.phase = .imageHeld image
     (∀ r a rest, k.inProgress = some r → r.phase = .placing (a :: rest) → ¬ waits ∨ rest ≠ [] →
       exec (.placeReplyRecord l) s = .next
         (s.setLink l
           { k with
             replies := k.replies ++ [a]
             inProgress := if rest = [] then none else some { r with phase := .placing rest } })) ∧
     (∀ r a image, k.inProgress = some r → r.phase = .placing [a] → l = .desk → s.group.phase = .imageHeld image →
       exec (.placeReplyRecord l) s = .next
         (State.groupAfterStep
           { s with
             desk := { s.desk with replies := s.desk.replies ++ [a, image], inProgress := none }
             group := { s.group with phase := .rest } })) ∧
     (¬ waits → (∀ r, k.inProgress = some r → r.answered = false) → exec (.placeReplyRecord l) s = .next s))

/-! ### Starts and power (section 8.6) -/

/-- A cold start gives every block its values after reset, keeping the page map, the slots of the pages (those of a cut
program or erase as the array reads them) and the flags for its RESTART record; the journal is RECOVERING. The end of the scan
sets the marks from what it found, the state, and offers the RESTART record. The records found are, on a page in use, the slots
up to the first that is no record, and on a retired page the slots below its held count that do not read erased; newest is the
greatest number found, the oldest durable the lowest from which every number up to newest was found, and one copy of each of
these is readable. Each ring page keeps its slots, its readable records are those chosen on it, and it is FILLING, ERASED or
FULL: FILLING when it holds the newest record, is not retired and reads erased behind it, with the write position behind that
record. Then retired pages with nothing readable go OUT, and with no record found the first ring position takes the write
position at slot 0. (The model's readings and choices: values after reset, log entry 3; emptied offers, log entry 7; the
RESTART fields, the oldest durable number of no record being absent among them, log entry 25; pages OUT from the lowest ring
position on, log entry 44; the corner cases of the scan, among them which of two copies of a number counts, log entry 27;
marks, pages and readable records before the scan, log entry 32; the write position behind the newest record also on a page that
is FULL or retired, log entry 38.) -/
def Obligations.ColdStartAndScanRestoreThePart : Prop :=
  (∀ (s : State) (slotRead : List Byte) (pageRead : List (Nat × List Byte)), s.tablesWf →
    ∃ t : State, exec (.coldStart slotRead pageRead) s = .next t ∧
      t =
        { State.reset with
          pending := s.pending, fresh := s.fresh
          journal :=
            { State.reset.journal with
              pages := t.journal.pages, map := s.journal.map, coldFence := s.settings.fence, coldLock := s.mini.tariffLock } } ∧
      ∀ p,
        let kept := (s.page p).slots
        t.page p =
          { slots :=
              match s.journal.writer with
              | .programming =>
                if p = s.journal.write.page then tablePut erasedSlot kept s.journal.write.slot (asSlot slotRead) else kept
              | .erasing q _ => if p = q then slotsOf pageRead else kept
              | _ => kept
            fill := .erased, readable := [] }) ∧
  (∀ s : State,
    let r := s.scan
    let ring := s.journal.map.ring
    let found := fun (e : RingPos) (n : Nat) =>
      e ∈ ring ∧
        match e.held with
        | none => n < 64 ∧ ∀ m, m ≤ n → slotIsRecord ((s.page e.page).slot m) = true
        | some held => n < held ∧ (s.page e.page).slot n ≠ erasedSlot
    let seq := fun (e : RingPos) (n : Nat) => slotSequence ((s.page e.page).slot n)
    ((∀ e n, ¬ found e n) → r = { newest := 0, oldest := none, readable := [], holder := none }) ∧
    ((∃ e n, found e n) →
      (∀ e n, found e n → seq e n ≤ r.newest) ∧
      ∃ low, r.oldest = some low ∧ low ≤ r.newest ∧ (1 < low → ∀ e n, found e n → seq e n ≠ low - 1) ∧
        (r.readable.map Found.seq).Nodup ∧ (∀ k, k ∈ r.readable.map Found.seq ↔ low ≤ k ∧ k ≤ r.newest) ∧
        (∀ x ∈ r.readable, ∃ e, found e x.slot ∧ e.page = x.page ∧ seq e x.slot = x.seq) ∧
        ∃ x ∈ r.readable, r.holder = some x ∧ x.seq = r.newest)) ∧
  (∀ s : State, s.tablesWf → s.powered = true → s.journal.state = .recovering →
    (s.journal.map.ring.map RingPos.page).Nodup →
    let j := s.journal
    let r := s.scan
    let mark := r.oldest.elim r.newest fun n => n - 1
    let behind := fun (x : Found) =>
      (∃ e ∈ j.map.ring, e.page = x.page ∧ e.held = none) ∧ x.slot + 1 < 64 ∧
        ∀ n, x.slot < n → (s.page x.page).slot n = erasedSlot
    ∃ v : State,
      v =
        { s with
          journal :=
            { j with
              pages := v.journal.pages, newest := r.newest, released := mark, discarded := mark, write := v.journal.write } } ∧
      (∀ p, p ∉ j.map.ring.map RingPos.page → v.page p = s.page p) ∧
      (∀ e ∈ j.map.ring,
        let p := v.page e.page
        let isWrite := ∃ x, r.holder = some x ∧ x.page = e.page ∧ behind x
        p.slots = (s.page e.page).slots ∧ p.readable.Nodup ∧
          (∀ n, n ∈ p.readable ↔ n < 64 ∧ ∃ x ∈ r.readable, x.page = e.page ∧ x.slot = n) ∧
          (isWrite → p.fill = .filling) ∧
          (¬ isWrite → p.fill = if (s.page e.page).slots = [] then .erased else .full)) ∧
      (∀ x e, r.holder = some x → e ∈ j.map.ring → e.page = x.page →
        v.journal.write = { pos := e.pos, page := x.page, slot := x.slot + 1 }) ∧
      (r.holder = none → v.journal.write = j.write) ∧
      let unread := (j.map.ring.filter fun e => e.held.isSome && (v.page e.page).readable.isEmpty).map RingPos.page
      let outs := v.pagesOut unread
      let placed : State :=
        match r.holder, outs.journal.map.ring with
        | none, e :: _ =>
          let u : State := { outs with journal := { outs.journal with write := { pos := e.pos, page := e.page, slot := 0 } } }
          if e.held = none ∧ (outs.page e.page).slots = [] then
            u.setPage e.page { outs.page e.page with fill := .filling, readable := [] }
          else u
        | _, _ => outs
      let judged : State :=
        if placed.journal.map.ring.length < 8 then placed.failJournal .ringShort
        else if r.newest = 4294967295 then placed.failJournal .sequenceEnd
        else { placed with journal := { placed.journal with state := .normal } }
      ∃ report : RestartReport,
        exec .scanComplete s = .next (judged.highTest.offering [s.recordNow .journalUnit (.restart report)])) ∧
  (∀ s : State, s.powered = true → s.journal.state = .recovering →
    let r := s.scan
    let mark := r.oldest.elim r.newest fun n => n - 1
    ∃ t : State, exec .scanComplete s = .next t ∧
      t = { s with journal := t.journal, audit := { s.audit with notices := t.audit.notices } } ∧
      t.journal.newest = r.newest ∧ t.journal.released = mark ∧ t.journal.discarded = mark ∧
      t.journal.staging = s.journal.staging ∧
      t.journal.state =
        (if t.journal.map.ring.length < 8 then .failed .ringShort
        else if r.newest = 4294967295 then .failed .sequenceEnd
        else .normal) ∧
      ∃ report : RestartReport,
        t.journal.offers = s.journal.offers ++ [s.recordNow .journalUnit (.restart report)] ∧ report.cause = none ∧
          report.newest = some r.newest ∧ report.oldest = r.oldest ∧ report.fenceWasOn = s.journal.coldFence ∧
          report.lockWasOn = s.journal.coldLock ∧ report.stagingLost = true)

/-- Main power lost, the clock runs on and its events reach no receiver. A warm start completes the operations already taken
(leaving the state `u`), then drops the waiting ones: fence, tariff lock, allowance, sessions, sweep, repeat memories and
links return to their start values, an active run is STOPPED with WARM_START, everything else is kept, and a WARM RESTART
record is offered. RESETn without main power changes nothing. What the operations taken complete to: a check-in or a check-out
that waits at its tally-close, and a DOOR_SET that waits for its release, assignment or session-close, leave after the warm
start what they leave when their own next command comes first (a check-in at its tally-open: the statement
TallyOpenChecksTheRoomIn); a presentation or a privacy operation is dropped; a program whose slot reads whole is made durable
as PROGRAM_COMPLETE does, and any other leaves its bytes in the slot and the page FULL. (The model's readings and choices:
RESETn without power, log entry 31; the order in which operations complete, log entry 26; kept offers, log entry 7; the values
of the RESTART record, log entry 25.) -/
def Obligations.PowerLossAndWarmStartKeepTheRetainedDomain : Prop :=
  (∀ (s : State) (cause : WarmCause) (slotRead : List Byte), s.powered = true →
    let warm := exec (.warmStart cause slotRead)
    ((∀ op, s.cred.op = some (.checkIn op) → op.todo.length ≤ 4) → ∀ t, exec .tallyClose s = .next t → warm s = warm t) ∧
    (s.cred.op = none → ∀ i ∈ [Instr.minibarRelease, .minibarDoorAssignment, .doorSetSessionClose],
      ∀ t, exec i s = .next t → warm s = warm t) ∧
    (∀ op, s.eval.op = some op →
      (∃ c, op = .present c) ∨ (∃ c room kind m x, op = .sessionOpen c room kind m x) ∨ (∃ d room on, op = .privacy d room on) →
      warm s = warm { s with eval := { s.eval with op := none } }) ∧
    (∀ r rest, s.cred.op = none → s.eval.op = none → s.journal.writer = .programming → s.journal.staging = r :: rest →
      slotRead.length = 32 →
      let w := s.journal.write
      (slotRead = recordImage (s.journal.newest + 1) r →
        exec (.programComplete slotRead) s = .next (s.finishTaken slotRead)) ∧
      (slotRead ≠ recordImage (s.journal.newest + 1) r →
        s.finishTaken slotRead =
          State.setPage { s with journal := { s.journal with writer := .idle } } w.page
            { s.page w.page with slots := tablePut erasedSlot (s.page w.page).slots w.slot slotRead, fill := .full }))) ∧
  ∀ s : State,
    exec .mainPowerLoss s = .next { s with powered := false } ∧
    (s.powered = false → s.clock.isSet = true → s.clock.minute < 4294967295 →
      exec .secondEvent s = .next
        { s with
          clock :=
            if s.clock.second < 59 then { s.clock with second := s.clock.second + 1 }
            else { s.clock with second := 0, minute := s.clock.minute + 1 } }) ∧
    (s.powered = false → s.clock.isSet = true → s.clock.minute = 4294967295 →
      exec .secondEvent s = .next
        { s with clock := { s.clock with second := if s.clock.second < 59 then s.clock.second + 1 else 0 } }) ∧
    (s.powered = false → s.clock.isSet = false → exec .secondEvent s = .next s) ∧
    (∀ slotRead, s.powered = false → exec (.warmStart .pin slotRead) s = .next s) ∧
    (∀ cause slotRead, s.powered = true ∨ cause = .power → s.tablesWf →
      let u := s.finishTaken slotRead
      let active := u.group.state = .running ∨ u.group.state = .halting
      (s.cred.op = none → s.eval.op = none → s.journal.writer ≠ .programming → u = { s with powered := true }) ∧
      ∃ (t : State) (report : RestartReport), exec (.warmStart cause slotRead) s = .next t ∧
        t =
          { u with
            settings := { u.settings with fence := false }
            clock := { u.clock with sweep := { position := none, pendingPass := false, passes := 0 } }
            cred := { u.cred with allowance := 0, waiting := [] }
            eval := { u.eval with doors := t.eval.doors }
            mini := { u.mini with tariffLock := false, sessions := [], idleDue := 0 }
            group :=
              if active then { u.group with state := .stopped, stop := some .warmStart, abort := false, phase := .rest }
              else { u.group with phase := .rest }
            journal := { u.journal with offers := u.journal.offers ++ [u.recordNow .journalUnit (.restart report)] }
            desk := .started .desk, lock := .started .lock, audit := .started .audit } ∧
        (∀ n, t.door n = { u.door n with memory := none, repeats := 0 }) ∧ t.eval.op = none ∧
        report.cause = some cause ∧ report.fenceWasOn = s.settings.fence ∧ report.lockWasOn = s.mini.tariffLock ∧
        report.sessionsClosed = u.mini.sessions.length ∧
        report.runStopped = if active then some u.group.next else none)
end

