-- ==== Sys2Proof/Laws/State.lean ====
section
/-! SUPPORT. What each update of State leaves unchanged: one lemma per field and update. -/

namespace Sys2Proof.Machine

/-! #### setRoom -/

@[simp] theorem State.setRoom_pending (s : State) (n : Nat) (r : Room) : (s.setRoom n r).pending = s.pending := rfl
@[simp] theorem State.setRoom_powered (s : State) (n : Nat) (r : Room) : (s.setRoom n r).powered = s.powered := rfl
@[simp] theorem State.setRoom_fresh (s : State) (n : Nat) (r : Room) : (s.setRoom n r).fresh = s.fresh := rfl
@[simp] theorem State.setRoom_settings (s : State) (n : Nat) (r : Room) : (s.setRoom n r).settings = s.settings := rfl
@[simp] theorem State.setRoom_clock (s : State) (n : Nat) (r : Room) : (s.setRoom n r).clock = s.clock := rfl
@[simp] theorem State.setRoom_eval (s : State) (n : Nat) (r : Room) : (s.setRoom n r).eval = s.eval := rfl
@[simp] theorem State.setRoom_mini (s : State) (n : Nat) (r : Room) : (s.setRoom n r).mini = s.mini := rfl
@[simp] theorem State.setRoom_group (s : State) (n : Nat) (r : Room) : (s.setRoom n r).group = s.group := rfl
@[simp] theorem State.setRoom_journal (s : State) (n : Nat) (r : Room) : (s.setRoom n r).journal = s.journal := rfl
@[simp] theorem State.setRoom_desk (s : State) (n : Nat) (r : Room) : (s.setRoom n r).desk = s.desk := rfl
@[simp] theorem State.setRoom_lock (s : State) (n : Nat) (r : Room) : (s.setRoom n r).lock = s.lock := rfl
@[simp] theorem State.setRoom_audit (s : State) (n : Nat) (r : Room) : (s.setRoom n r).audit = s.audit := rfl

/-! #### setKey -/

@[simp] theorem State.setKey_pending (s : State) (n : Nat) (k : Option KeyRec) : (s.setKey n k).pending = s.pending := rfl
@[simp] theorem State.setKey_powered (s : State) (n : Nat) (k : Option KeyRec) : (s.setKey n k).powered = s.powered := rfl
@[simp] theorem State.setKey_fresh (s : State) (n : Nat) (k : Option KeyRec) : (s.setKey n k).fresh = s.fresh := rfl
@[simp] theorem State.setKey_settings (s : State) (n : Nat) (k : Option KeyRec) : (s.setKey n k).settings = s.settings := rfl
@[simp] theorem State.setKey_clock (s : State) (n : Nat) (k : Option KeyRec) : (s.setKey n k).clock = s.clock := rfl
@[simp] theorem State.setKey_eval (s : State) (n : Nat) (k : Option KeyRec) : (s.setKey n k).eval = s.eval := rfl
@[simp] theorem State.setKey_mini (s : State) (n : Nat) (k : Option KeyRec) : (s.setKey n k).mini = s.mini := rfl
@[simp] theorem State.setKey_group (s : State) (n : Nat) (k : Option KeyRec) : (s.setKey n k).group = s.group := rfl
@[simp] theorem State.setKey_journal (s : State) (n : Nat) (k : Option KeyRec) : (s.setKey n k).journal = s.journal := rfl
@[simp] theorem State.setKey_desk (s : State) (n : Nat) (k : Option KeyRec) : (s.setKey n k).desk = s.desk := rfl
@[simp] theorem State.setKey_lock (s : State) (n : Nat) (k : Option KeyRec) : (s.setKey n k).lock = s.lock := rfl
@[simp] theorem State.setKey_audit (s : State) (n : Nat) (k : Option KeyRec) : (s.setKey n k).audit = s.audit := rfl

/-! #### setWatch -/

@[simp] theorem State.setWatch_pending (s : State) (w : List WatchEntry) : (s.setWatch w).pending = s.pending := rfl
@[simp] theorem State.setWatch_powered (s : State) (w : List WatchEntry) : (s.setWatch w).powered = s.powered := rfl
@[simp] theorem State.setWatch_fresh (s : State) (w : List WatchEntry) : (s.setWatch w).fresh = s.fresh := rfl
@[simp] theorem State.setWatch_settings (s : State) (w : List WatchEntry) : (s.setWatch w).settings = s.settings := rfl
@[simp] theorem State.setWatch_clock (s : State) (w : List WatchEntry) : (s.setWatch w).clock = s.clock := rfl
@[simp] theorem State.setWatch_eval (s : State) (w : List WatchEntry) : (s.setWatch w).eval = s.eval := rfl
@[simp] theorem State.setWatch_mini (s : State) (w : List WatchEntry) : (s.setWatch w).mini = s.mini := rfl
@[simp] theorem State.setWatch_group (s : State) (w : List WatchEntry) : (s.setWatch w).group = s.group := rfl
@[simp] theorem State.setWatch_journal (s : State) (w : List WatchEntry) : (s.setWatch w).journal = s.journal := rfl
@[simp] theorem State.setWatch_desk (s : State) (w : List WatchEntry) : (s.setWatch w).desk = s.desk := rfl
@[simp] theorem State.setWatch_lock (s : State) (w : List WatchEntry) : (s.setWatch w).lock = s.lock := rfl
@[simp] theorem State.setWatch_audit (s : State) (w : List WatchEntry) : (s.setWatch w).audit = s.audit := rfl

/-! #### cmHand -/

@[simp] theorem State.cmHand_pending (s : State) (c : CmSource) : (s.cmHand c).pending = s.pending := rfl
@[simp] theorem State.cmHand_powered (s : State) (c : CmSource) : (s.cmHand c).powered = s.powered := rfl
@[simp] theorem State.cmHand_fresh (s : State) (c : CmSource) : (s.cmHand c).fresh = s.fresh := rfl
@[simp] theorem State.cmHand_settings (s : State) (c : CmSource) : (s.cmHand c).settings = s.settings := rfl
@[simp] theorem State.cmHand_clock (s : State) (c : CmSource) : (s.cmHand c).clock = s.clock := rfl
@[simp] theorem State.cmHand_eval (s : State) (c : CmSource) : (s.cmHand c).eval = s.eval := rfl
@[simp] theorem State.cmHand_mini (s : State) (c : CmSource) : (s.cmHand c).mini = s.mini := rfl
@[simp] theorem State.cmHand_group (s : State) (c : CmSource) : (s.cmHand c).group = s.group := rfl
@[simp] theorem State.cmHand_journal (s : State) (c : CmSource) : (s.cmHand c).journal = s.journal := rfl
@[simp] theorem State.cmHand_desk (s : State) (c : CmSource) : (s.cmHand c).desk = s.desk := rfl
@[simp] theorem State.cmHand_lock (s : State) (c : CmSource) : (s.cmHand c).lock = s.lock := rfl
@[simp] theorem State.cmHand_audit (s : State) (c : CmSource) : (s.cmHand c).audit = s.audit := rfl

/-! #### cmPop -/

@[simp] theorem State.cmPop_pending (s : State) : (s.cmPop).pending = s.pending := rfl
@[simp] theorem State.cmPop_powered (s : State) : (s.cmPop).powered = s.powered := rfl
@[simp] theorem State.cmPop_fresh (s : State) : (s.cmPop).fresh = s.fresh := rfl
@[simp] theorem State.cmPop_settings (s : State) : (s.cmPop).settings = s.settings := rfl
@[simp] theorem State.cmPop_clock (s : State) : (s.cmPop).clock = s.clock := rfl
@[simp] theorem State.cmPop_eval (s : State) : (s.cmPop).eval = s.eval := rfl
@[simp] theorem State.cmPop_mini (s : State) : (s.cmPop).mini = s.mini := rfl
@[simp] theorem State.cmPop_group (s : State) : (s.cmPop).group = s.group := rfl
@[simp] theorem State.cmPop_journal (s : State) : (s.cmPop).journal = s.journal := rfl
@[simp] theorem State.cmPop_desk (s : State) : (s.cmPop).desk = s.desk := rfl
@[simp] theorem State.cmPop_lock (s : State) : (s.cmPop).lock = s.lock := rfl
@[simp] theorem State.cmPop_audit (s : State) : (s.cmPop).audit = s.audit := rfl

/-! #### setDoor -/

@[simp] theorem State.setDoor_pending (s : State) (n : Nat) (d : Door) : (s.setDoor n d).pending = s.pending := rfl
@[simp] theorem State.setDoor_powered (s : State) (n : Nat) (d : Door) : (s.setDoor n d).powered = s.powered := rfl
@[simp] theorem State.setDoor_fresh (s : State) (n : Nat) (d : Door) : (s.setDoor n d).fresh = s.fresh := rfl
@[simp] theorem State.setDoor_settings (s : State) (n : Nat) (d : Door) : (s.setDoor n d).settings = s.settings := rfl
@[simp] theorem State.setDoor_clock (s : State) (n : Nat) (d : Door) : (s.setDoor n d).clock = s.clock := rfl
@[simp] theorem State.setDoor_cred (s : State) (n : Nat) (d : Door) : (s.setDoor n d).cred = s.cred := rfl
@[simp] theorem State.setDoor_mini (s : State) (n : Nat) (d : Door) : (s.setDoor n d).mini = s.mini := rfl
@[simp] theorem State.setDoor_group (s : State) (n : Nat) (d : Door) : (s.setDoor n d).group = s.group := rfl
@[simp] theorem State.setDoor_journal (s : State) (n : Nat) (d : Door) : (s.setDoor n d).journal = s.journal := rfl
@[simp] theorem State.setDoor_desk (s : State) (n : Nat) (d : Door) : (s.setDoor n d).desk = s.desk := rfl
@[simp] theorem State.setDoor_lock (s : State) (n : Nat) (d : Door) : (s.setDoor n d).lock = s.lock := rfl
@[simp] theorem State.setDoor_audit (s : State) (n : Nat) (d : Door) : (s.setDoor n d).audit = s.audit := rfl

/-! #### evalDone -/

@[simp] theorem State.evalDone_pending (s : State) : (s.evalDone).pending = s.pending := rfl
@[simp] theorem State.evalDone_powered (s : State) : (s.evalDone).powered = s.powered := rfl
@[simp] theorem State.evalDone_fresh (s : State) : (s.evalDone).fresh = s.fresh := rfl
@[simp] theorem State.evalDone_settings (s : State) : (s.evalDone).settings = s.settings := rfl
@[simp] theorem State.evalDone_clock (s : State) : (s.evalDone).clock = s.clock := rfl
@[simp] theorem State.evalDone_cred (s : State) : (s.evalDone).cred = s.cred := rfl
@[simp] theorem State.evalDone_mini (s : State) : (s.evalDone).mini = s.mini := rfl
@[simp] theorem State.evalDone_group (s : State) : (s.evalDone).group = s.group := rfl
@[simp] theorem State.evalDone_journal (s : State) : (s.evalDone).journal = s.journal := rfl
@[simp] theorem State.evalDone_desk (s : State) : (s.evalDone).desk = s.desk := rfl
@[simp] theorem State.evalDone_lock (s : State) : (s.evalDone).lock = s.lock := rfl
@[simp] theorem State.evalDone_audit (s : State) : (s.evalDone).audit = s.audit := rfl

/-! #### evalGo -/

@[simp] theorem State.evalGo_pending (s : State) (o : EvalOp) : (s.evalGo o).pending = s.pending := rfl
@[simp] theorem State.evalGo_powered (s : State) (o : EvalOp) : (s.evalGo o).powered = s.powered := rfl
@[simp] theorem State.evalGo_fresh (s : State) (o : EvalOp) : (s.evalGo o).fresh = s.fresh := rfl
@[simp] theorem State.evalGo_settings (s : State) (o : EvalOp) : (s.evalGo o).settings = s.settings := rfl
@[simp] theorem State.evalGo_clock (s : State) (o : EvalOp) : (s.evalGo o).clock = s.clock := rfl
@[simp] theorem State.evalGo_cred (s : State) (o : EvalOp) : (s.evalGo o).cred = s.cred := rfl
@[simp] theorem State.evalGo_mini (s : State) (o : EvalOp) : (s.evalGo o).mini = s.mini := rfl
@[simp] theorem State.evalGo_group (s : State) (o : EvalOp) : (s.evalGo o).group = s.group := rfl
@[simp] theorem State.evalGo_journal (s : State) (o : EvalOp) : (s.evalGo o).journal = s.journal := rfl
@[simp] theorem State.evalGo_desk (s : State) (o : EvalOp) : (s.evalGo o).desk = s.desk := rfl
@[simp] theorem State.evalGo_lock (s : State) (o : EvalOp) : (s.evalGo o).lock = s.lock := rfl
@[simp] theorem State.evalGo_audit (s : State) (o : EvalOp) : (s.evalGo o).audit = s.audit := rfl

/-! #### setTally -/

@[simp] theorem State.setTally_pending (s : State) (n : Nat) (x : Tally) : (s.setTally n x).pending = s.pending := rfl
@[simp] theorem State.setTally_powered (s : State) (n : Nat) (x : Tally) : (s.setTally n x).powered = s.powered := rfl
@[simp] theorem State.setTally_fresh (s : State) (n : Nat) (x : Tally) : (s.setTally n x).fresh = s.fresh := rfl
@[simp] theorem State.setTally_settings (s : State) (n : Nat) (x : Tally) : (s.setTally n x).settings = s.settings := rfl
@[simp] theorem State.setTally_clock (s : State) (n : Nat) (x : Tally) : (s.setTally n x).clock = s.clock := rfl
@[simp] theorem State.setTally_cred (s : State) (n : Nat) (x : Tally) : (s.setTally n x).cred = s.cred := rfl
@[simp] theorem State.setTally_eval (s : State) (n : Nat) (x : Tally) : (s.setTally n x).eval = s.eval := rfl
@[simp] theorem State.setTally_group (s : State) (n : Nat) (x : Tally) : (s.setTally n x).group = s.group := rfl
@[simp] theorem State.setTally_journal (s : State) (n : Nat) (x : Tally) : (s.setTally n x).journal = s.journal := rfl
@[simp] theorem State.setTally_desk (s : State) (n : Nat) (x : Tally) : (s.setTally n x).desk = s.desk := rfl
@[simp] theorem State.setTally_lock (s : State) (n : Nat) (x : Tally) : (s.setTally n x).lock = s.lock := rfl
@[simp] theorem State.setTally_audit (s : State) (n : Nat) (x : Tally) : (s.setTally n x).audit = s.audit := rfl

/-! #### setSession -/

@[simp] theorem State.setSession_pending (s : State) (n : Nat) (x : Option Session) : (s.setSession n x).pending = s.pending := rfl
@[simp] theorem State.setSession_powered (s : State) (n : Nat) (x : Option Session) : (s.setSession n x).powered = s.powered := rfl
@[simp] theorem State.setSession_fresh (s : State) (n : Nat) (x : Option Session) : (s.setSession n x).fresh = s.fresh := rfl
@[simp] theorem State.setSession_settings (s : State) (n : Nat) (x : Option Session) : (s.setSession n x).settings = s.settings := rfl
@[simp] theorem State.setSession_clock (s : State) (n : Nat) (x : Option Session) : (s.setSession n x).clock = s.clock := rfl
@[simp] theorem State.setSession_cred (s : State) (n : Nat) (x : Option Session) : (s.setSession n x).cred = s.cred := rfl
@[simp] theorem State.setSession_eval (s : State) (n : Nat) (x : Option Session) : (s.setSession n x).eval = s.eval := rfl
@[simp] theorem State.setSession_group (s : State) (n : Nat) (x : Option Session) : (s.setSession n x).group = s.group := rfl
@[simp] theorem State.setSession_journal (s : State) (n : Nat) (x : Option Session) : (s.setSession n x).journal = s.journal := rfl
@[simp] theorem State.setSession_desk (s : State) (n : Nat) (x : Option Session) : (s.setSession n x).desk = s.desk := rfl
@[simp] theorem State.setSession_lock (s : State) (n : Nat) (x : Option Session) : (s.setSession n x).lock = s.lock := rfl
@[simp] theorem State.setSession_audit (s : State) (n : Nat) (x : Option Session) : (s.setSession n x).audit = s.audit := rfl

/-! #### setZone -/

@[simp] theorem State.setZone_pending (s : State) (n : Nat) (z : Zone) : (s.setZone n z).pending = s.pending := rfl
@[simp] theorem State.setZone_powered (s : State) (n : Nat) (z : Zone) : (s.setZone n z).powered = s.powered := rfl
@[simp] theorem State.setZone_fresh (s : State) (n : Nat) (z : Zone) : (s.setZone n z).fresh = s.fresh := rfl
@[simp] theorem State.setZone_settings (s : State) (n : Nat) (z : Zone) : (s.setZone n z).settings = s.settings := rfl
@[simp] theorem State.setZone_cred (s : State) (n : Nat) (z : Zone) : (s.setZone n z).cred = s.cred := rfl
@[simp] theorem State.setZone_eval (s : State) (n : Nat) (z : Zone) : (s.setZone n z).eval = s.eval := rfl
@[simp] theorem State.setZone_mini (s : State) (n : Nat) (z : Zone) : (s.setZone n z).mini = s.mini := rfl
@[simp] theorem State.setZone_group (s : State) (n : Nat) (z : Zone) : (s.setZone n z).group = s.group := rfl
@[simp] theorem State.setZone_journal (s : State) (n : Nat) (z : Zone) : (s.setZone n z).journal = s.journal := rfl
@[simp] theorem State.setZone_desk (s : State) (n : Nat) (z : Zone) : (s.setZone n z).desk = s.desk := rfl
@[simp] theorem State.setZone_lock (s : State) (n : Nat) (z : Zone) : (s.setZone n z).lock = s.lock := rfl
@[simp] theorem State.setZone_audit (s : State) (n : Nat) (z : Zone) : (s.setZone n z).audit = s.audit := rfl

/-! #### setBand -/

@[simp] theorem State.setBand_pending (s : State) (n w : Nat) (b : Band) : (s.setBand n w b).pending = s.pending := rfl
@[simp] theorem State.setBand_powered (s : State) (n w : Nat) (b : Band) : (s.setBand n w b).powered = s.powered := rfl
@[simp] theorem State.setBand_fresh (s : State) (n w : Nat) (b : Band) : (s.setBand n w b).fresh = s.fresh := rfl
@[simp] theorem State.setBand_settings (s : State) (n w : Nat) (b : Band) : (s.setBand n w b).settings = s.settings := rfl
@[simp] theorem State.setBand_cred (s : State) (n w : Nat) (b : Band) : (s.setBand n w b).cred = s.cred := rfl
@[simp] theorem State.setBand_eval (s : State) (n w : Nat) (b : Band) : (s.setBand n w b).eval = s.eval := rfl
@[simp] theorem State.setBand_mini (s : State) (n w : Nat) (b : Band) : (s.setBand n w b).mini = s.mini := rfl
@[simp] theorem State.setBand_group (s : State) (n w : Nat) (b : Band) : (s.setBand n w b).group = s.group := rfl
@[simp] theorem State.setBand_journal (s : State) (n w : Nat) (b : Band) : (s.setBand n w b).journal = s.journal := rfl
@[simp] theorem State.setBand_desk (s : State) (n w : Nat) (b : Band) : (s.setBand n w b).desk = s.desk := rfl
@[simp] theorem State.setBand_lock (s : State) (n w : Nat) (b : Band) : (s.setBand n w b).lock = s.lock := rfl
@[simp] theorem State.setBand_audit (s : State) (n w : Nat) (b : Band) : (s.setBand n w b).audit = s.audit := rfl

/-! #### setEntry -/

@[simp] theorem State.setEntry_pending (s : State) (n : Nat) (e : GroupEntry) : (s.setEntry n e).pending = s.pending := rfl
@[simp] theorem State.setEntry_powered (s : State) (n : Nat) (e : GroupEntry) : (s.setEntry n e).powered = s.powered := rfl
@[simp] theorem State.setEntry_fresh (s : State) (n : Nat) (e : GroupEntry) : (s.setEntry n e).fresh = s.fresh := rfl
@[simp] theorem State.setEntry_settings (s : State) (n : Nat) (e : GroupEntry) : (s.setEntry n e).settings = s.settings := rfl
@[simp] theorem State.setEntry_clock (s : State) (n : Nat) (e : GroupEntry) : (s.setEntry n e).clock = s.clock := rfl
@[simp] theorem State.setEntry_cred (s : State) (n : Nat) (e : GroupEntry) : (s.setEntry n e).cred = s.cred := rfl
@[simp] theorem State.setEntry_eval (s : State) (n : Nat) (e : GroupEntry) : (s.setEntry n e).eval = s.eval := rfl
@[simp] theorem State.setEntry_mini (s : State) (n : Nat) (e : GroupEntry) : (s.setEntry n e).mini = s.mini := rfl
@[simp] theorem State.setEntry_journal (s : State) (n : Nat) (e : GroupEntry) : (s.setEntry n e).journal = s.journal := rfl
@[simp] theorem State.setEntry_desk (s : State) (n : Nat) (e : GroupEntry) : (s.setEntry n e).desk = s.desk := rfl
@[simp] theorem State.setEntry_lock (s : State) (n : Nat) (e : GroupEntry) : (s.setEntry n e).lock = s.lock := rfl
@[simp] theorem State.setEntry_audit (s : State) (n : Nat) (e : GroupEntry) : (s.setEntry n e).audit = s.audit := rfl

/-! #### groupPhase -/

@[simp] theorem State.groupPhase_pending (s : State) (p : GroupPhase) : (s.groupPhase p).pending = s.pending := rfl
@[simp] theorem State.groupPhase_powered (s : State) (p : GroupPhase) : (s.groupPhase p).powered = s.powered := rfl
@[simp] theorem State.groupPhase_fresh (s : State) (p : GroupPhase) : (s.groupPhase p).fresh = s.fresh := rfl
@[simp] theorem State.groupPhase_settings (s : State) (p : GroupPhase) : (s.groupPhase p).settings = s.settings := rfl
@[simp] theorem State.groupPhase_clock (s : State) (p : GroupPhase) : (s.groupPhase p).clock = s.clock := rfl
@[simp] theorem State.groupPhase_cred (s : State) (p : GroupPhase) : (s.groupPhase p).cred = s.cred := rfl
@[simp] theorem State.groupPhase_eval (s : State) (p : GroupPhase) : (s.groupPhase p).eval = s.eval := rfl
@[simp] theorem State.groupPhase_mini (s : State) (p : GroupPhase) : (s.groupPhase p).mini = s.mini := rfl
@[simp] theorem State.groupPhase_journal (s : State) (p : GroupPhase) : (s.groupPhase p).journal = s.journal := rfl
@[simp] theorem State.groupPhase_desk (s : State) (p : GroupPhase) : (s.groupPhase p).desk = s.desk := rfl
@[simp] theorem State.groupPhase_lock (s : State) (p : GroupPhase) : (s.groupPhase p).lock = s.lock := rfl
@[simp] theorem State.groupPhase_audit (s : State) (p : GroupPhase) : (s.groupPhase p).audit = s.audit := rfl

/-! #### setPage -/

@[simp] theorem State.setPage_pending (s : State) (n : Nat) (p : Page) : (s.setPage n p).pending = s.pending := rfl
@[simp] theorem State.setPage_powered (s : State) (n : Nat) (p : Page) : (s.setPage n p).powered = s.powered := rfl
@[simp] theorem State.setPage_fresh (s : State) (n : Nat) (p : Page) : (s.setPage n p).fresh = s.fresh := rfl
@[simp] theorem State.setPage_settings (s : State) (n : Nat) (p : Page) : (s.setPage n p).settings = s.settings := rfl
@[simp] theorem State.setPage_clock (s : State) (n : Nat) (p : Page) : (s.setPage n p).clock = s.clock := rfl
@[simp] theorem State.setPage_cred (s : State) (n : Nat) (p : Page) : (s.setPage n p).cred = s.cred := rfl
@[simp] theorem State.setPage_eval (s : State) (n : Nat) (p : Page) : (s.setPage n p).eval = s.eval := rfl
@[simp] theorem State.setPage_mini (s : State) (n : Nat) (p : Page) : (s.setPage n p).mini = s.mini := rfl
@[simp] theorem State.setPage_group (s : State) (n : Nat) (p : Page) : (s.setPage n p).group = s.group := rfl
@[simp] theorem State.setPage_desk (s : State) (n : Nat) (p : Page) : (s.setPage n p).desk = s.desk := rfl
@[simp] theorem State.setPage_lock (s : State) (n : Nat) (p : Page) : (s.setPage n p).lock = s.lock := rfl
@[simp] theorem State.setPage_audit (s : State) (n : Nat) (p : Page) : (s.setPage n p).audit = s.audit := rfl

/-! #### setJournal -/

@[simp] theorem State.setJournal_pending (s : State) (j : Journal) : (s.setJournal j).pending = s.pending := rfl
@[simp] theorem State.setJournal_powered (s : State) (j : Journal) : (s.setJournal j).powered = s.powered := rfl
@[simp] theorem State.setJournal_fresh (s : State) (j : Journal) : (s.setJournal j).fresh = s.fresh := rfl
@[simp] theorem State.setJournal_settings (s : State) (j : Journal) : (s.setJournal j).settings = s.settings := rfl
@[simp] theorem State.setJournal_clock (s : State) (j : Journal) : (s.setJournal j).clock = s.clock := rfl
@[simp] theorem State.setJournal_cred (s : State) (j : Journal) : (s.setJournal j).cred = s.cred := rfl
@[simp] theorem State.setJournal_eval (s : State) (j : Journal) : (s.setJournal j).eval = s.eval := rfl
@[simp] theorem State.setJournal_mini (s : State) (j : Journal) : (s.setJournal j).mini = s.mini := rfl
@[simp] theorem State.setJournal_group (s : State) (j : Journal) : (s.setJournal j).group = s.group := rfl
@[simp] theorem State.setJournal_desk (s : State) (j : Journal) : (s.setJournal j).desk = s.desk := rfl
@[simp] theorem State.setJournal_lock (s : State) (j : Journal) : (s.setJournal j).lock = s.lock := rfl
@[simp] theorem State.setJournal_audit (s : State) (j : Journal) : (s.setJournal j).audit = s.audit := rfl

/-! #### offer -/

@[simp] theorem State.offer_pending (s : State) (r : Rec) : (s.offer r).pending = s.pending := rfl
@[simp] theorem State.offer_powered (s : State) (r : Rec) : (s.offer r).powered = s.powered := rfl
@[simp] theorem State.offer_fresh (s : State) (r : Rec) : (s.offer r).fresh = s.fresh := rfl
@[simp] theorem State.offer_settings (s : State) (r : Rec) : (s.offer r).settings = s.settings := rfl
@[simp] theorem State.offer_clock (s : State) (r : Rec) : (s.offer r).clock = s.clock := rfl
@[simp] theorem State.offer_cred (s : State) (r : Rec) : (s.offer r).cred = s.cred := rfl
@[simp] theorem State.offer_eval (s : State) (r : Rec) : (s.offer r).eval = s.eval := rfl
@[simp] theorem State.offer_mini (s : State) (r : Rec) : (s.offer r).mini = s.mini := rfl
@[simp] theorem State.offer_group (s : State) (r : Rec) : (s.offer r).group = s.group := rfl
@[simp] theorem State.offer_desk (s : State) (r : Rec) : (s.offer r).desk = s.desk := rfl
@[simp] theorem State.offer_lock (s : State) (r : Rec) : (s.offer r).lock = s.lock := rfl
@[simp] theorem State.offer_audit (s : State) (r : Rec) : (s.offer r).audit = s.audit := rfl

/-! #### offerAt -/

@[simp] theorem State.offerAt_pending (s : State) (c : Source) (m x : Nat) (b : RecBody) : (s.offerAt c m x b).pending = s.pending := rfl
@[simp] theorem State.offerAt_powered (s : State) (c : Source) (m x : Nat) (b : RecBody) : (s.offerAt c m x b).powered = s.powered := rfl
@[simp] theorem State.offerAt_fresh (s : State) (c : Source) (m x : Nat) (b : RecBody) : (s.offerAt c m x b).fresh = s.fresh := rfl
@[simp] theorem State.offerAt_settings (s : State) (c : Source) (m x : Nat) (b : RecBody) : (s.offerAt c m x b).settings = s.settings := rfl
@[simp] theorem State.offerAt_clock (s : State) (c : Source) (m x : Nat) (b : RecBody) : (s.offerAt c m x b).clock = s.clock := rfl
@[simp] theorem State.offerAt_cred (s : State) (c : Source) (m x : Nat) (b : RecBody) : (s.offerAt c m x b).cred = s.cred := rfl
@[simp] theorem State.offerAt_eval (s : State) (c : Source) (m x : Nat) (b : RecBody) : (s.offerAt c m x b).eval = s.eval := rfl
@[simp] theorem State.offerAt_mini (s : State) (c : Source) (m x : Nat) (b : RecBody) : (s.offerAt c m x b).mini = s.mini := rfl
@[simp] theorem State.offerAt_group (s : State) (c : Source) (m x : Nat) (b : RecBody) : (s.offerAt c m x b).group = s.group := rfl
@[simp] theorem State.offerAt_desk (s : State) (c : Source) (m x : Nat) (b : RecBody) : (s.offerAt c m x b).desk = s.desk := rfl
@[simp] theorem State.offerAt_lock (s : State) (c : Source) (m x : Nat) (b : RecBody) : (s.offerAt c m x b).lock = s.lock := rfl
@[simp] theorem State.offerAt_audit (s : State) (c : Source) (m x : Nat) (b : RecBody) : (s.offerAt c m x b).audit = s.audit := rfl

/-! #### offerNow -/

@[simp] theorem State.offerNow_pending (s : State) (c : Source) (b : RecBody) : (s.offerNow c b).pending = s.pending := rfl
@[simp] theorem State.offerNow_powered (s : State) (c : Source) (b : RecBody) : (s.offerNow c b).powered = s.powered := rfl
@[simp] theorem State.offerNow_fresh (s : State) (c : Source) (b : RecBody) : (s.offerNow c b).fresh = s.fresh := rfl
@[simp] theorem State.offerNow_settings (s : State) (c : Source) (b : RecBody) : (s.offerNow c b).settings = s.settings := rfl
@[simp] theorem State.offerNow_clock (s : State) (c : Source) (b : RecBody) : (s.offerNow c b).clock = s.clock := rfl
@[simp] theorem State.offerNow_cred (s : State) (c : Source) (b : RecBody) : (s.offerNow c b).cred = s.cred := rfl
@[simp] theorem State.offerNow_eval (s : State) (c : Source) (b : RecBody) : (s.offerNow c b).eval = s.eval := rfl
@[simp] theorem State.offerNow_mini (s : State) (c : Source) (b : RecBody) : (s.offerNow c b).mini = s.mini := rfl
@[simp] theorem State.offerNow_group (s : State) (c : Source) (b : RecBody) : (s.offerNow c b).group = s.group := rfl
@[simp] theorem State.offerNow_desk (s : State) (c : Source) (b : RecBody) : (s.offerNow c b).desk = s.desk := rfl
@[simp] theorem State.offerNow_lock (s : State) (c : Source) (b : RecBody) : (s.offerNow c b).lock = s.lock := rfl
@[simp] theorem State.offerNow_audit (s : State) (c : Source) (b : RecBody) : (s.offerNow c b).audit = s.audit := rfl

/-! #### credOffer -/

@[simp] theorem State.credOffer_pending (s : State) (b : RecBody) : (s.credOffer b).pending = s.pending := rfl
@[simp] theorem State.credOffer_powered (s : State) (b : RecBody) : (s.credOffer b).powered = s.powered := rfl
@[simp] theorem State.credOffer_fresh (s : State) (b : RecBody) : (s.credOffer b).fresh = s.fresh := rfl
@[simp] theorem State.credOffer_settings (s : State) (b : RecBody) : (s.credOffer b).settings = s.settings := rfl
@[simp] theorem State.credOffer_clock (s : State) (b : RecBody) : (s.credOffer b).clock = s.clock := rfl
@[simp] theorem State.credOffer_cred (s : State) (b : RecBody) : (s.credOffer b).cred = s.cred := rfl
@[simp] theorem State.credOffer_eval (s : State) (b : RecBody) : (s.credOffer b).eval = s.eval := rfl
@[simp] theorem State.credOffer_mini (s : State) (b : RecBody) : (s.credOffer b).mini = s.mini := rfl
@[simp] theorem State.credOffer_group (s : State) (b : RecBody) : (s.credOffer b).group = s.group := rfl
@[simp] theorem State.credOffer_desk (s : State) (b : RecBody) : (s.credOffer b).desk = s.desk := rfl
@[simp] theorem State.credOffer_lock (s : State) (b : RecBody) : (s.credOffer b).lock = s.lock := rfl
@[simp] theorem State.credOffer_audit (s : State) (b : RecBody) : (s.credOffer b).audit = s.audit := rfl

/-! #### miniOffer -/

@[simp] theorem State.miniOffer_pending (s : State) (b : RecBody) : (s.miniOffer b).pending = s.pending := rfl
@[simp] theorem State.miniOffer_powered (s : State) (b : RecBody) : (s.miniOffer b).powered = s.powered := rfl
@[simp] theorem State.miniOffer_fresh (s : State) (b : RecBody) : (s.miniOffer b).fresh = s.fresh := rfl
@[simp] theorem State.miniOffer_settings (s : State) (b : RecBody) : (s.miniOffer b).settings = s.settings := rfl
@[simp] theorem State.miniOffer_clock (s : State) (b : RecBody) : (s.miniOffer b).clock = s.clock := rfl
@[simp] theorem State.miniOffer_cred (s : State) (b : RecBody) : (s.miniOffer b).cred = s.cred := rfl
@[simp] theorem State.miniOffer_eval (s : State) (b : RecBody) : (s.miniOffer b).eval = s.eval := rfl
@[simp] theorem State.miniOffer_mini (s : State) (b : RecBody) : (s.miniOffer b).mini = s.mini := rfl
@[simp] theorem State.miniOffer_group (s : State) (b : RecBody) : (s.miniOffer b).group = s.group := rfl
@[simp] theorem State.miniOffer_desk (s : State) (b : RecBody) : (s.miniOffer b).desk = s.desk := rfl
@[simp] theorem State.miniOffer_lock (s : State) (b : RecBody) : (s.miniOffer b).lock = s.lock := rfl
@[simp] theorem State.miniOffer_audit (s : State) (b : RecBody) : (s.miniOffer b).audit = s.audit := rfl

/-! #### evalOffer -/

@[simp] theorem State.evalOffer_pending (s : State) (m x : Nat) (b : RecBody) : (s.evalOffer m x b).pending = s.pending := rfl
@[simp] theorem State.evalOffer_powered (s : State) (m x : Nat) (b : RecBody) : (s.evalOffer m x b).powered = s.powered := rfl
@[simp] theorem State.evalOffer_fresh (s : State) (m x : Nat) (b : RecBody) : (s.evalOffer m x b).fresh = s.fresh := rfl
@[simp] theorem State.evalOffer_settings (s : State) (m x : Nat) (b : RecBody) : (s.evalOffer m x b).settings = s.settings := rfl
@[simp] theorem State.evalOffer_clock (s : State) (m x : Nat) (b : RecBody) : (s.evalOffer m x b).clock = s.clock := rfl
@[simp] theorem State.evalOffer_cred (s : State) (m x : Nat) (b : RecBody) : (s.evalOffer m x b).cred = s.cred := rfl
@[simp] theorem State.evalOffer_eval (s : State) (m x : Nat) (b : RecBody) : (s.evalOffer m x b).eval = s.eval := rfl
@[simp] theorem State.evalOffer_mini (s : State) (m x : Nat) (b : RecBody) : (s.evalOffer m x b).mini = s.mini := rfl
@[simp] theorem State.evalOffer_group (s : State) (m x : Nat) (b : RecBody) : (s.evalOffer m x b).group = s.group := rfl
@[simp] theorem State.evalOffer_desk (s : State) (m x : Nat) (b : RecBody) : (s.evalOffer m x b).desk = s.desk := rfl
@[simp] theorem State.evalOffer_lock (s : State) (m x : Nat) (b : RecBody) : (s.evalOffer m x b).lock = s.lock := rfl
@[simp] theorem State.evalOffer_audit (s : State) (m x : Nat) (b : RecBody) : (s.evalOffer m x b).audit = s.audit := rfl

/-! #### setLink -/

@[simp] theorem State.setLink_pending (s : State) (l : LinkId) (k : Link) : (s.setLink l k).pending = s.pending := by
  cases l <;> rfl
@[simp] theorem State.setLink_powered (s : State) (l : LinkId) (k : Link) : (s.setLink l k).powered = s.powered := by
  cases l <;> rfl
@[simp] theorem State.setLink_fresh (s : State) (l : LinkId) (k : Link) : (s.setLink l k).fresh = s.fresh := by
  cases l <;> rfl
@[simp] theorem State.setLink_settings (s : State) (l : LinkId) (k : Link) : (s.setLink l k).settings = s.settings := by
  cases l <;> rfl
@[simp] theorem State.setLink_clock (s : State) (l : LinkId) (k : Link) : (s.setLink l k).clock = s.clock := by
  cases l <;> rfl
@[simp] theorem State.setLink_cred (s : State) (l : LinkId) (k : Link) : (s.setLink l k).cred = s.cred := by
  cases l <;> rfl
@[simp] theorem State.setLink_eval (s : State) (l : LinkId) (k : Link) : (s.setLink l k).eval = s.eval := by
  cases l <;> rfl
@[simp] theorem State.setLink_mini (s : State) (l : LinkId) (k : Link) : (s.setLink l k).mini = s.mini := by
  cases l <;> rfl
@[simp] theorem State.setLink_group (s : State) (l : LinkId) (k : Link) : (s.setLink l k).group = s.group := by
  cases l <;> rfl
@[simp] theorem State.setLink_journal (s : State) (l : LinkId) (k : Link) : (s.setLink l k).journal = s.journal := by
  cases l <;> rfl

/-! #### raise -/

@[simp] theorem State.raise_pending (s : State) (n : Notice) : (s.raise n).pending = s.pending := by
  cases n <;> first | rfl | (rename_i l; cases l <;> rfl)
@[simp] theorem State.raise_powered (s : State) (n : Notice) : (s.raise n).powered = s.powered := by
  cases n <;> first | rfl | (rename_i l; cases l <;> rfl)
@[simp] theorem State.raise_fresh (s : State) (n : Notice) : (s.raise n).fresh = s.fresh := by
  cases n <;> first | rfl | (rename_i l; cases l <;> rfl)
@[simp] theorem State.raise_settings (s : State) (n : Notice) : (s.raise n).settings = s.settings := by
  cases n <;> first | rfl | (rename_i l; cases l <;> rfl)
@[simp] theorem State.raise_clock (s : State) (n : Notice) : (s.raise n).clock = s.clock := by
  cases n <;> first | rfl | (rename_i l; cases l <;> rfl)
@[simp] theorem State.raise_cred (s : State) (n : Notice) : (s.raise n).cred = s.cred := by
  cases n <;> first | rfl | (rename_i l; cases l <;> rfl)
@[simp] theorem State.raise_eval (s : State) (n : Notice) : (s.raise n).eval = s.eval := by
  cases n <;> first | rfl | (rename_i l; cases l <;> rfl)
@[simp] theorem State.raise_mini (s : State) (n : Notice) : (s.raise n).mini = s.mini := by
  cases n <;> first | rfl | (rename_i l; cases l <;> rfl)
@[simp] theorem State.raise_group (s : State) (n : Notice) : (s.raise n).group = s.group := by
  cases n <;> first | rfl | (rename_i l; cases l <;> rfl)
@[simp] theorem State.raise_journal (s : State) (n : Notice) : (s.raise n).journal = s.journal := by
  cases n <;> first | rfl | (rename_i l; cases l <;> rfl)

/-! #### answer -/

@[simp] theorem State.answer_pending (s : State) (l : LinkId) (st : Status) (fs : List Field) : (s.answer l st fs).pending = s.pending := by
  unfold State.answer; split <;> simp
@[simp] theorem State.answer_powered (s : State) (l : LinkId) (st : Status) (fs : List Field) : (s.answer l st fs).powered = s.powered := by
  unfold State.answer; split <;> simp
@[simp] theorem State.answer_fresh (s : State) (l : LinkId) (st : Status) (fs : List Field) : (s.answer l st fs).fresh = s.fresh := by
  unfold State.answer; split <;> simp
@[simp] theorem State.answer_settings (s : State) (l : LinkId) (st : Status) (fs : List Field) : (s.answer l st fs).settings = s.settings := by
  unfold State.answer; split <;> simp
@[simp] theorem State.answer_clock (s : State) (l : LinkId) (st : Status) (fs : List Field) : (s.answer l st fs).clock = s.clock := by
  unfold State.answer; split <;> simp
@[simp] theorem State.answer_cred (s : State) (l : LinkId) (st : Status) (fs : List Field) : (s.answer l st fs).cred = s.cred := by
  unfold State.answer; split <;> simp
@[simp] theorem State.answer_eval (s : State) (l : LinkId) (st : Status) (fs : List Field) : (s.answer l st fs).eval = s.eval := by
  unfold State.answer; split <;> simp
@[simp] theorem State.answer_mini (s : State) (l : LinkId) (st : Status) (fs : List Field) : (s.answer l st fs).mini = s.mini := by
  unfold State.answer; split <;> simp
@[simp] theorem State.answer_group (s : State) (l : LinkId) (st : Status) (fs : List Field) : (s.answer l st fs).group = s.group := by
  unfold State.answer; split <;> simp
@[simp] theorem State.answer_journal (s : State) (l : LinkId) (st : Status) (fs : List Field) : (s.answer l st fs).journal = s.journal := by
  unfold State.answer; split <;> simp

/-! #### markTaken -/

@[simp] theorem State.markTaken_pending (s : State) (l : LinkId) : (s.markTaken l).pending = s.pending := by
  unfold State.markTaken; split <;> simp
@[simp] theorem State.markTaken_powered (s : State) (l : LinkId) : (s.markTaken l).powered = s.powered := by
  unfold State.markTaken; split <;> simp
@[simp] theorem State.markTaken_fresh (s : State) (l : LinkId) : (s.markTaken l).fresh = s.fresh := by
  unfold State.markTaken; split <;> simp
@[simp] theorem State.markTaken_settings (s : State) (l : LinkId) : (s.markTaken l).settings = s.settings := by
  unfold State.markTaken; split <;> simp
@[simp] theorem State.markTaken_clock (s : State) (l : LinkId) : (s.markTaken l).clock = s.clock := by
  unfold State.markTaken; split <;> simp
@[simp] theorem State.markTaken_cred (s : State) (l : LinkId) : (s.markTaken l).cred = s.cred := by
  unfold State.markTaken; split <;> simp
@[simp] theorem State.markTaken_eval (s : State) (l : LinkId) : (s.markTaken l).eval = s.eval := by
  unfold State.markTaken; split <;> simp
@[simp] theorem State.markTaken_mini (s : State) (l : LinkId) : (s.markTaken l).mini = s.mini := by
  unfold State.markTaken; split <;> simp
@[simp] theorem State.markTaken_group (s : State) (l : LinkId) : (s.markTaken l).group = s.group := by
  unfold State.markTaken; split <;> simp
@[simp] theorem State.markTaken_journal (s : State) (l : LinkId) : (s.markTaken l).journal = s.journal := by
  unfold State.markTaken; split <;> simp

/-! #### Links read back -/

@[simp] theorem State.link_setLink_same (s : State) (l : LinkId) (k : Link) : (s.setLink l k).link l = k := by cases l <;> rfl

theorem State.link_setLink_other (s : State) (l l' : LinkId) (k : Link) (h : l' ≠ l) :
    (s.setLink l k).link l' = s.link l' := by
  cases l <;> cases l' <;> first | rfl | exact absurd rfl h

theorem State.link_setLink (s : State) (l l' : LinkId) (k : Link) :
    (s.setLink l k).link l' = if l' = l then k else s.link l' := by
  cases l <;> cases l' <;> rfl

theorem State.link_raise (s : State) (n : Notice) (l : LinkId) :
    (s.raise n).link l = if l = noticeLink n then (s.link l).withNotice (noticeNumber n) else s.link l := by
  rw [State.raise, State.link_setLink]
  split
  · next h => rw [h]
  · rfl

@[simp] theorem State.setLink_link (s : State) (l : LinkId) : s.setLink l (s.link l) = s := by cases l <;> rfl

@[simp] theorem State.setLink_setLink (s : State) (l : LinkId) (k k' : Link) :
    (s.setLink l k).setLink l k' = s.setLink l k' := by cases l <;> rfl

end Sys2Proof.Machine
end

