-- ==== Sys2Proof/Laws/Tables.lean ====
section
/-! SUPPORT. The sparse tables: what a write reads back as, and that every write keeps the canonical form. -/

namespace Sys2Proof.Machine

variable {α : Type}

/-- A lower bound of a table's indices may be lowered. -/
theorem tableWfFrom_mono [DecidableEq α] (d : α) (t : Table α) (a b : Nat) (h : b ≤ a) (w : tableWfFrom d a t = true) :
    tableWfFrom d b t = true := by
  cases t with
  | nil => rfl
  | cons x rest =>
    obtain ⟨j, v⟩ := x
    simp only [tableWfFrom, Bool.and_eq_true, decide_eq_true_eq] at w ⊢
    exact ⟨⟨le_trans h w.1.1, w.1.2⟩, w.2⟩

/-- An index below every listed index reads as the default. -/
theorem tableLook_below [DecidableEq α] (d : α) (t : Table α) (low k : Nat) (w : tableWfFrom d low t = true) (h : k < low) :
    tableLook d t k = d := by
  induction t generalizing low with
  | nil => rfl
  | cons x rest ih =>
    obtain ⟨j, v⟩ := x
    simp only [tableWfFrom, Bool.and_eq_true, decide_eq_true_eq] at w
    have hj : j ≠ k := by omega
    simp only [tableLook, if_neg hj]
    exact ih (j + 1) w.2 (by omega)

/-- Removing an entry keeps the canonical form. -/
theorem tableErase_wf [DecidableEq α] (d : α) (t : Table α) (low k : Nat) (w : tableWfFrom d low t = true) :
    tableWfFrom d low (tableErase t k) = true := by
  induction t generalizing low with
  | nil => rfl
  | cons x rest ih =>
    obtain ⟨j, v⟩ := x
    simp only [tableWfFrom, Bool.and_eq_true, decide_eq_true_eq] at w
    by_cases hj : j = k
    · simp only [tableErase, if_pos hj]
      exact tableWfFrom_mono d rest (j + 1) low (by omega) w.2
    · simp only [tableErase, if_neg hj, tableWfFrom, Bool.and_eq_true, decide_eq_true_eq]
      exact ⟨w.1, ih (j + 1) w.2⟩

/-- Inserting a record other than the default keeps the canonical form. -/
theorem tableInsert_wf [DecidableEq α] (d : α) (t : Table α) (low k : Nat) (a : α) (w : tableWfFrom d low t = true)
    (h : low ≤ k) (ha : a ≠ d) : tableWfFrom d low (tableInsert t k a) = true := by
  induction t generalizing low with
  | nil => simp [tableInsert, tableWfFrom, h, ha]
  | cons x rest ih =>
    obtain ⟨j, v⟩ := x
    simp only [tableWfFrom, Bool.and_eq_true, decide_eq_true_eq] at w
    unfold tableInsert
    split
    · next hk =>
      simp only [tableWfFrom, Bool.and_eq_true, decide_eq_true_eq]
      exact ⟨⟨h, ha⟩, ⟨by omega, w.1.2⟩, w.2⟩
    · split
      · next hk hj =>
        simp only [tableWfFrom, Bool.and_eq_true, decide_eq_true_eq]
        subst hj
        exact ⟨⟨h, ha⟩, w.2⟩
      · next hk hj =>
        simp only [tableWfFrom, Bool.and_eq_true, decide_eq_true_eq]
        exact ⟨w.1, ih (j + 1) w.2 (by omega)⟩

/-- Every write keeps the canonical form. -/
theorem tablePut_wf [DecidableEq α] (d : α) (t : Table α) (k : Nat) (a : α) (w : tableWf d t = true) :
    tableWf d (tablePut d t k a) = true := by
  unfold tablePut
  split
  · exact tableErase_wf d t 0 k w
  · next ha => exact tableInsert_wf d t 0 k a w (Nat.zero_le k) ha

/-- An inserted record reads back. -/
theorem tableLook_insert_same (d : α) (t : Table α) (k : Nat) (a : α) : tableLook d (tableInsert t k a) k = a := by
  induction t with
  | nil => simp [tableInsert, tableLook]
  | cons x rest ih =>
    obtain ⟨j, v⟩ := x
    unfold tableInsert
    split
    · simp [tableLook]
    · split
      · simp [tableLook]
      · next _ hj => simp only [tableLook, if_neg hj]; exact ih

/-- An insertion leaves every other index as it was. -/
theorem tableLook_insert_other (d : α) (t : Table α) (k n : Nat) (a : α) (h : n ≠ k) :
    tableLook d (tableInsert t k a) n = tableLook d t n := by
  induction t with
  | nil => simp [tableInsert, tableLook, Ne.symm h]
  | cons x rest ih =>
    obtain ⟨j, v⟩ := x
    unfold tableInsert
    split
    · simp [tableLook, Ne.symm h]
    · split
      · next _ hj => subst hj; simp [tableLook, Ne.symm h]
      · simp only [tableLook, ih]

/-- A removal leaves every other index as it was. -/
theorem tableLook_erase_other (d : α) (t : Table α) (k n : Nat) (h : n ≠ k) :
    tableLook d (tableErase t k) n = tableLook d t n := by
  induction t with
  | nil => rfl
  | cons x rest ih =>
    obtain ⟨j, v⟩ := x
    by_cases hj : j = k
    · subst hj; simp [tableErase, tableLook, Ne.symm h]
    · simp only [tableErase, if_neg hj, tableLook, ih]

/-- A removed index of a canonical table reads as the default. -/
theorem tableLook_erase_same [DecidableEq α] (d : α) (t : Table α) (low k : Nat) (w : tableWfFrom d low t = true) :
    tableLook d (tableErase t k) k = d := by
  induction t generalizing low with
  | nil => rfl
  | cons x rest ih =>
    obtain ⟨j, v⟩ := x
    simp only [tableWfFrom, Bool.and_eq_true, decide_eq_true_eq] at w
    by_cases hj : j = k
    · simp only [tableErase, if_pos hj]
      exact tableLook_below d rest (j + 1) k w.2 (by omega)
    · simp only [tableErase, if_neg hj, tableLook]
      exact ih (j + 1) w.2

/-- A write leaves every other index as it was. -/
theorem tableLook_put_other [DecidableEq α] (d : α) (t : Table α) (k n : Nat) (a : α) (h : n ≠ k) :
    tableLook d (tablePut d t k a) n = tableLook d t n := by
  unfold tablePut
  split
  · exact tableLook_erase_other d t k n h
  · exact tableLook_insert_other d t k n a h

/-- A record written to a canonical table reads back. -/
theorem tableLook_put_same [DecidableEq α] (d : α) (t : Table α) (k : Nat) (a : α) (w : tableWf d t = true) :
    tableLook d (tablePut d t k a) k = a := by
  unfold tablePut
  split
  · next h => rw [h]; exact tableLook_erase_same d t 0 k w
  · exact tableLook_insert_same d t k a

/-- A record other than the default reads back from any table. -/
theorem tableLook_put_ne [DecidableEq α] (d : α) (t : Table α) (k : Nat) (a : α) (h : a ≠ d) :
    tableLook d (tablePut d t k a) k = a := by
  rw [tablePut, if_neg h]; exact tableLook_insert_same d t k a

end Sys2Proof.Machine
end

