-- ==== Sys2Proof/Laws/Credentials.lean ====
section
/-! SUPPORT. What the shared operations of the Credential Manager can do: lists, generations, cancelling, freeing. -/

namespace Sys2Proof.Machine

theorem State.room_setRoom_same (s : State) (n : Nat) (r : Room) (w : tableWf Room.blank s.cred.rooms = true) :
    (s.setRoom n r).room n = r := tableLook_put_same _ _ _ _ w

theorem State.room_setRoom_other (s : State) (n m : Nat) (r : Room) (h : m ≠ n) : (s.setRoom n r).room m = s.room m :=
  tableLook_put_other _ _ _ _ _ h

theorem State.key_setKey_same (s : State) (n : Nat) (k : Option KeyRec) (w : tableWf none s.cred.keys = true) :
    (s.setKey n k).key n = k := tableLook_put_same _ _ _ _ w

theorem State.key_setKey_other (s : State) (n m : Nat) (k : Option KeyRec) (h : m ≠ n) : (s.setKey n k).key m = s.key m :=
  tableLook_put_other _ _ _ _ _ h

theorem State.door_setDoor_same (s : State) (n : Nat) (d : Door) (w : tableWf Door.blank s.eval.doors = true) :
    (s.setDoor n d).door n = d := tableLook_put_same _ _ _ _ w

theorem State.door_setDoor_other (s : State) (n m : Nat) (d : Door) (h : m ≠ n) : (s.setDoor n d).door m = s.door m :=
  tableLook_put_other _ _ _ _ _ h

theorem State.tally_setTally_same (s : State) (n : Nat) (t : Tally) (w : tableWf Tally.blank s.mini.tallies = true) :
    (s.setTally n t).tally n = t := tableLook_put_same _ _ _ _ w

theorem State.tally_setTally_other (s : State) (n m : Nat) (t : Tally) (h : m ≠ n) : (s.setTally n t).tally m = s.tally m :=
  tableLook_put_other _ _ _ _ _ h

theorem State.session_setSession_same (s : State) (n : Nat) (x : Option Session) (w : tableWf none s.mini.sessions = true) :
    (s.setSession n x).session n = x := tableLook_put_same _ _ _ _ w

theorem State.session_setSession_other (s : State) (n m : Nat) (x : Option Session) (h : m ≠ n) :
    (s.setSession n x).session m = s.session m := tableLook_put_other _ _ _ _ _ h

/-- An operation that touches no part of the state but the room table. -/
def onlyRooms (s t : State) : Prop := t = { s with cred := { s.cred with rooms := t.cred.rooms } }

theorem State.unlist_recompute_frame (s : State) (key room : Nat) : onlyRooms s ((s.unlist key room).recompute room) := rfl

theorem onlyRooms_refl (s : State) : onlyRooms s s := rfl

theorem onlyRooms_trans {s t u : State} (h : onlyRooms s t) (g : onlyRooms t u) : onlyRooms s u := by
  unfold onlyRooms at *
  rw [h] at g
  exact g

/-- A key leaving its lists changes nothing but rooms. -/
theorem State.leaveLists_frame (s : State) (n : Nat) (k : KeyRec) : onlyRooms s (s.leaveLists n k) := by
  unfold State.leaveLists
  generalize k.entries = es
  induction es generalizing s with
  | nil => rfl
  | cons e es ih => exact onlyRooms_trans (s.unlist_recompute_frame n e.room) (ih _)

theorem State.leaveLists_wf (s : State) (n : Nat) (k : KeyRec) (w : tableWf Room.blank s.cred.rooms = true) :
    tableWf Room.blank (s.leaveLists n k).cred.rooms = true := by
  unfold State.leaveLists
  generalize k.entries = es
  induction es generalizing s with
  | nil => exact w
  | cons e es ih => exact ih _ (tablePut_wf _ _ _ _ (tablePut_wf _ _ _ _ w))

/-- The list of a room after a key has left the list of one room. -/
theorem State.unlist_keyList (s : State) (n room r : Nat) (w : tableWf Room.blank s.cred.rooms = true) :
    ((s.unlist n room).recompute room).room r =
      if r = room then
        { (s.room room) with
          keyList := (s.room room).keyList.filter fun k => k != n
          ig := (((s.unlist n room).recompute room).room room).ig }
      else s.room r := by
  split
  · rename_i h
    subst h
    rw [State.recompute, State.room_setRoom_same _ _ _ (tablePut_wf _ _ _ _ w), State.unlist, State.room_setRoom_same _ _ _ w]
  · rename_i h
    rw [State.recompute, State.room_setRoom_other _ _ _ _ h, State.unlist, State.room_setRoom_other _ _ _ _ h]

/-- What a key leaving its lists does to a room: the key is off the list, and nothing else but ig moves. -/
theorem State.leaveLists_room (s : State) (n : Nat) (k : KeyRec) (r : Nat) (w : tableWf Room.blank s.cred.rooms = true) :
    (s.leaveLists n k).room r =
      if r ∈ k.entries.map Entry.room then
        { s.room r with
          keyList := (s.room r).keyList.filter fun k => k != n
          ig := ((s.leaveLists n k).room r).ig }
      else s.room r := by
  unfold State.leaveLists
  generalize k.entries = es
  induction es generalizing s with
  | nil => simp
  | cons e es ih =>
    have w' : tableWf Room.blank ((s.unlist n e.room).recompute e.room).cred.rooms = true :=
      tablePut_wf _ _ _ _ (tablePut_wf _ _ _ _ w)
    rw [List.foldl_cons, ih _ w', State.unlist_keyList s n e.room r w]
    by_cases h : r = e.room
    · subst h
      by_cases g : e.room ∈ es.map Entry.room <;> simp [g]
    · by_cases g : r ∈ es.map Entry.room <;> simp [g, h]

/-- The cancelling of a key: its record, and nothing else but rooms and keys. -/
theorem State.cancelKey_key (s : State) (n : Nat) (k : KeyRec) (reason : CancelReason) (w : tableWf none s.cred.keys = true) :
    (s.cancelKey n k reason).key n = some (k.cancelled reason s.clock.minute) := by
  have h := s.leaveLists_frame n k
  unfold onlyRooms at h
  unfold State.cancelKey
  rw [State.key_setKey_same]
  rw [h]
  exact w

theorem State.cancelKey_other (s : State) (n m : Nat) (k : KeyRec) (reason : CancelReason) (h : m ≠ n) :
    (s.cancelKey n k reason).key m = s.key m := by
  have g := s.leaveLists_frame n k
  unfold onlyRooms at g
  unfold State.cancelKey
  rw [State.key_setKey_other _ _ _ _ h, g]
  rfl

theorem State.cancelKey_frame (s : State) (n : Nat) (k : KeyRec) (reason : CancelReason) :
    s.cancelKey n k reason =
      { s with cred := { s.cred with rooms := (s.leaveLists n k).cred.rooms, keys := (s.cancelKey n k reason).cred.keys } } := by
  have g := s.leaveLists_frame n k
  unfold onlyRooms at g
  unfold State.cancelKey State.setKey
  rw [g]

theorem State.freeKey_frame (s : State) (n : Nat) (k : KeyRec) :
    s.freeKey n k =
      { s with cred := { s.cred with rooms := (s.leaveLists n k).cred.rooms, keys := (s.freeKey n k).cred.keys } } := by
  have g := s.leaveLists_frame n k
  unfold onlyRooms at g
  unfold State.freeKey State.setKey
  rw [g]

theorem State.freeKey_key (s : State) (n : Nat) (k : KeyRec) (w : tableWf none s.cred.keys = true) :
    (s.freeKey n k).key n = none := by
  have h := s.leaveLists_frame n k
  unfold onlyRooms at h
  unfold State.freeKey
  rw [State.key_setKey_same]
  rw [h]
  exact w

theorem State.freeKey_other (s : State) (n m : Nat) (k : KeyRec) (h : m ≠ n) : (s.freeKey n k).key m = s.key m := by
  have g := s.leaveLists_frame n k
  unfold onlyRooms at g
  unfold State.freeKey
  rw [State.key_setKey_other _ _ _ _ h, g]
  rfl

/-- A key that left its lists is on no list of a room it names. -/
theorem State.leaveLists_off (s : State) (n : Nat) (k : KeyRec) (e : Entry) (h : e ∈ k.entries)
    (w : tableWf Room.blank s.cred.rooms = true) : n ∉ ((s.leaveLists n k).room e.room).keyList := by
  rw [s.leaveLists_room n k e.room w, if_pos (List.mem_map_of_mem h)]
  simp

end Sys2Proof.Machine
end

