-- ==== Sys2Proof/Laws/GroupAndJournal.lean ====
section
/-! SUPPORT. What the group run's hold of a reply place and a journal failure can do: the lemmas that proofs cite in place of
unfolding them. -/

namespace Sys2Proof.Machine

/-! #### The hold of a reply place (R133, R141) -/

/-- A waiting run with a free place makes its tests. -/
theorem State.groupHoldPlace_waiting (s : State) (h : s.group.phase = .waiting) (f : s.placeFree .desk = true) :
    s.groupHoldPlace = s.groupRun := if_pos ⟨h, f⟩

/-- A run that waits for nothing is left alone. -/
theorem State.groupHoldPlace_notWaiting (s : State) (h : s.group.phase ≠ .waiting) : s.groupHoldPlace = s :=
  if_neg fun c => h c.1

/-- A run that waits while no place is free goes on waiting. -/
theorem State.groupHoldPlace_full (s : State) (f : s.placeFree .desk = false) : s.groupHoldPlace = s :=
  if_neg fun c => by simp [f] at c

/-- Asking for a place that is free holds it and hands the step. -/
theorem State.groupAskPlace_free (s : State) (f : s.placeFree .desk = true) :
    s.groupAskPlace = (s.groupPhase (.issueHanded true)).cmHand .group := if_pos f

/-- With a place free, the tests leave no run waiting. -/
theorem State.groupRun_phase (s : State) (f : s.placeFree .desk = true) : s.groupRun.group.phase ≠ .waiting := by
  unfold State.groupRun
  dsimp only
  split
  · simp [State.groupStop]
  · split
    · simp [State.groupStop]
    · split
      · simp [State.groupPhase, State.cmHand]
      · split
        · simp [State.groupAskPlace_free s f, State.groupPhase, State.cmHand]
        · simp [State.groupPhase]

/-! #### A journal failure (R149, R158) -/

/-- A journal FAILED for this cause, or for the ring, stays as it is. -/
theorem State.failJournal_stays (s : State) (c : FailCause)
    (h : s.journal.state = .failed .ringShort ∨ s.journal.state = .failed c) : s.failJournal c = s := if_pos h

/-- Any other becomes FAILED with this cause and raises the notice. -/
theorem State.failJournal_fails (s : State) (c : FailCause) (h : s.journal.state ≠ .failed .ringShort)
    (h' : s.journal.state ≠ .failed c) :
    s.failJournal c = (s.setJournal { s.journal with state := .failed c }).raise .journalFailed :=
  if_neg (not_or.mpr ⟨h, h'⟩)

end Sys2Proof.Machine
end

