-- ==== Sys2Proof/Laws/Minibar.lean ====
section
/-! SUPPORT. What the shared operations of the Minibar Accounting Unit can do: closing a session, a tally-close, a charge. -/

namespace Sys2Proof.Machine

/-- Closing the session of a door removes it from the pool and offers its record, and changes nothing else. -/
theorem State.closeSession_spec (s : State) (door : Nat) (cause : CloseCause) :
    s.closeSession door cause =
      { s with
        mini := { s.mini with sessions := (s.closeSession door cause).mini.sessions }
        journal := { s.journal with offers := s.journal.offers ++ s.closingRecords door cause } } := by
  unfold State.closeSession State.closingRecords
  cases h : s.session door with
  | none => simp
  | some x =>
    simp [State.miniOffer, State.offerNow, State.offerAt, State.offer, State.recordNow, List.foldl_map]
    rfl

theorem State.closeSession_session (s : State) (door d : Nat) (cause : CloseCause) (w : tableWf none s.mini.sessions = true) :
    (s.closeSession door cause).session d = if d = door then none else s.session d := by
  unfold State.closeSession
  cases h : s.session door with
  | none =>
    by_cases e : d = door
    · simp [e, h]
    · simp [e]
  | some x =>
    by_cases e : d = door
    · rw [if_pos e, e]
      exact State.session_setSession_same s door none w
    · rw [if_neg e]
      exact State.session_setSession_other s door d none e

/-- A tally-close closes the session on the room's minibar, clears the open flag, and changes nothing else. -/
theorem State.closeTally_spec (s : State) (room : Nat) (cause : CloseCause) :
    s.closeTally room cause =
      { s with
        mini :=
          { s.mini with
            tallies := tablePut Tally.blank s.mini.tallies room { s.tally room with isOpen := false }
            sessions := (s.closeTally room cause).mini.sessions }
        journal := { s.journal with
          offers := s.journal.offers ++ ((s.tally room).door.elim [] fun d => s.closingRecords d cause) } } := by
  unfold State.closeTally
  cases h : (s.tally room).door with
  | none => simp [State.setTally]
  | some d =>
    simp only [Option.elim_some]
    have e := s.closeSession_spec d cause
    have t : (s.closeSession d cause).tally room = s.tally room := by
      rw [e]
      rfl
    rw [State.setTally, t]
    rw [e]

theorem State.closeTally_session (s : State) (room d : Nat) (cause : CloseCause) (w : tableWf none s.mini.sessions = true) :
    (s.closeTally room cause).session d = if (s.tally room).door = some d then none else s.session d := by
  unfold State.closeTally
  cases h : (s.tally room).door with
  | none => simp [State.session, State.setTally]
  | some x =>
    have e := s.closeSession_session x d cause w
    simp only [State.session, State.setTally] at e ⊢
    rw [e]
    by_cases g : d = x
    · simp [g]
    · rw [if_neg g, if_neg fun q => g (Option.some.inj q).symm]

theorem State.closeTally_tally (s : State) (room : Nat) (cause : CloseCause) (w : tableWf Tally.blank s.mini.tallies = true) :
    (s.closeTally room cause).tally room = { s.tally room with isOpen := false } := by
  rw [State.closeTally_spec]
  exact tableLook_put_same _ _ _ _ w

theorem State.closeTally_other (s : State) (room n : Nat) (cause : CloseCause) (h : n ≠ room) :
    (s.closeTally room cause).tally n = s.tally n := by
  rw [State.closeTally_spec]
  exact tableLook_put_other _ _ _ _ _ h

/-- A charge leaves the tally at most 9,999,999 (R105, R117). -/
theorem Tally.charged_le (t : Tally) (c : Nat) : (t.charged c).tally ≤ Config.maxTally := Nat.min_le_right _ _

/-- A refund never exceeds the line (R122). -/
theorem refundOf_le (x : Line) (count : Nat) : refundOf x count ≤ x.amount := by
  unfold refundOf
  by_cases h : x.count = 0
  · simp [h]
  · apply Nat.div_le_of_le_mul
    rw [Nat.mul_comm x.count]
    exact Nat.mul_le_mul_left _ (Nat.min_le_right _ _)

end Sys2Proof.Machine
end

