-- ==== Sys2Proof/Laws/PerInstr.lean ====
section
/-! SUPPORT. The family Formed: a well-formed command that serves a request names a link on which its kind is permitted. -/

namespace Sys2Proof.Laws.Formed

open Sys2Proof.Machine

/-- The request kind of a well-formed command is permitted on its link (10, section 10.2). -/
def Statement (i : Instr) : Prop := i.wellFormed = true → ∀ k l, rowRequest i = some (k, l) → permitted k l = true

theorem coldStart (slotRead : List Byte) (pageRead : List (Nat × List Byte)) : Statement (.coldStart slotRead pageRead) := by
  intro _ k l h; cases h
theorem warmStart (cause : WarmCause) (slotRead : List Byte) : Statement (.warmStart cause slotRead) := by
  intro _ k l h; cases h
theorem scanComplete : Statement (.scanComplete) := by
  intro _ k l h; cases h
theorem secondEvent : Statement (.secondEvent) := by
  intro _ k l h; cases h
theorem sweepKeyVisit : Statement (.sweepKeyVisit) := by
  intro _ k l h; cases h
theorem sweepWatchVisit : Statement (.sweepWatchVisit) := by
  intro _ k l h; cases h
theorem sweepAllowanceVisit : Statement (.sweepAllowanceVisit) := by
  intro _ k l h; cases h
theorem idleTest : Statement (.idleTest) := by
  intro _ k l h; cases h
theorem setTime : Statement (.setTime) := by
  intro _ k l h; cases h; decide
theorem timeQuery (l : LinkId) : Statement (.timeQuery l) := by
  intro w k l' h; cases h; revert w; cases l <;> decide
theorem zoneSet : Statement (.zoneSet) := by
  intro _ k l h; cases h; decide
theorem zoneLockdown : Statement (.zoneLockdown) := by
  intro _ k l h; cases h; decide
theorem zoneQuery (l : LinkId) : Statement (.zoneQuery l) := by
  intro w k l' h; cases h; revert w; cases l <;> decide
theorem scheduleSet : Statement (.scheduleSet) := by
  intro _ k l h; cases h; decide
theorem scheduleQuery (l : LinkId) : Statement (.scheduleQuery l) := by
  intro w k l' h; cases h; revert w; cases l <;> decide
theorem checkIn : Statement (.checkIn) := by
  intro _ k l h; cases h; decide
theorem tallyOpen : Statement (.tallyOpen) := by
  intro _ k l h; cases h
theorem checkOut : Statement (.checkOut) := by
  intro _ k l h; cases h; decide
theorem tallyClose : Statement (.tallyClose) := by
  intro _ k l h; cases h
theorem extendStay : Statement (.extendStay) := by
  intro _ k l h; cases h; decide
theorem roomSetReady : Statement (.roomSetReady) := by
  intro _ k l h; cases h; decide
theorem roomSetOut : Statement (.roomSetOut) := by
  intro _ k l h; cases h; decide
theorem roomSetBack : Statement (.roomSetBack) := by
  intro _ k l h; cases h; decide
theorem roomSetLabel : Statement (.roomSetLabel) := by
  intro _ k l h; cases h; decide
theorem roomQuery (l : LinkId) : Statement (.roomQuery l) := by
  intro w k l' h; cases h; revert w; cases l <;> decide
theorem privacyOperation : Statement (.privacyOperation) := by
  intro _ k l h; cases h
theorem issueKey : Statement (.issueKey) := by
  intro _ k l h; cases h; decide
theorem confirmEncode : Statement (.confirmEncode) := by
  intro _ k l h; cases h; decide
theorem cancelKey : Statement (.cancelKey) := by
  intro _ k l h; cases h; decide
theorem reportLost : Statement (.reportLost) := by
  intro _ k l h; cases h; decide
theorem keyQuery (l : LinkId) : Statement (.keyQuery l) := by
  intro w k l' h; cases h; revert w; cases l <;> decide
theorem watchAdd : Statement (.watchAdd) := by
  intro _ k l h; cases h; decide
theorem watchRemove : Statement (.watchRemove) := by
  intro _ k l h; cases h; decide
theorem watchQuery (l : LinkId) : Statement (.watchQuery l) := by
  intro w k l' h; cases h; revert w; cases l <;> decide
theorem emergencyAllow : Statement (.emergencyAllow) := by
  intro _ k l h; cases h; decide
theorem present : Statement (.present) := by
  intro _ k l h; cases h; decide
theorem presentationOperation : Statement (.presentationOperation) := by
  intro _ k l h; cases h
theorem sessionOpen : Statement (.sessionOpen) := by
  intro _ k l h; cases h
theorem doorReportClosed : Statement (.doorReportClosed) := by
  intro _ k l h; cases h; decide
theorem doorReportHeldOpen : Statement (.doorReportHeldOpen) := by
  intro _ k l h; cases h; decide
theorem doorReportForced : Statement (.doorReportForced) := by
  intro _ k l h; cases h; decide
theorem doorReportPrivacyOn : Statement (.doorReportPrivacyOn) := by
  intro _ k l h; cases h; decide
theorem doorReportPrivacyOff : Statement (.doorReportPrivacyOff) := by
  intro _ k l h; cases h; decide
theorem doorSet : Statement (.doorSet) := by
  intro _ k l h; cases h; decide
theorem minibarDoorAssignment : Statement (.minibarDoorAssignment) := by
  intro _ k l h; cases h
theorem minibarRelease : Statement (.minibarRelease) := by
  intro _ k l h; cases h
theorem doorSetSessionClose : Statement (.doorSetSessionClose) := by
  intro _ k l h; cases h
theorem doorQuery (l : LinkId) : Statement (.doorQuery l) := by
  intro w k l' h; cases h; revert w; cases l <;> decide
theorem minibarTake : Statement (.minibarTake) := by
  intro _ k l h; cases h; decide
theorem minibarReturn : Statement (.minibarReturn) := by
  intro _ k l h; cases h; decide
theorem minibarShut : Statement (.minibarShut) := by
  intro _ k l h; cases h; decide
theorem priceSet : Statement (.priceSet) := by
  intro _ k l h; cases h; decide
theorem rateSet : Statement (.rateSet) := by
  intro _ k l h; cases h; decide
theorem tariffLock : Statement (.tariffLock) := by
  intro _ k l h; cases h; decide
theorem tariffQuery (l : LinkId) : Statement (.tariffQuery l) := by
  intro w k l' h; cases h; revert w; cases l <;> decide
theorem creditSet : Statement (.creditSet) := by
  intro _ k l h; cases h; decide
theorem tallyQuery (l : LinkId) : Statement (.tallyQuery l) := by
  intro w k l' h; cases h; revert w; cases l <;> decide
theorem groupLoad : Statement (.groupLoad) := by
  intro _ k l h; cases h; decide
theorem groupPoint : Statement (.groupPoint) := by
  intro _ k l h; cases h; decide
theorem groupStart : Statement (.groupStart) := by
  intro _ k l h; cases h; decide
theorem groupCheckinStep : Statement (.groupCheckinStep) := by
  intro _ k l h; cases h
theorem groupPlaceHold : Statement (.groupPlaceHold) := by
  intro _ k l h; cases h
theorem groupIssueStep : Statement (.groupIssueStep) := by
  intro _ k l h; cases h
theorem entryBoundary : Statement (.entryBoundary) := by
  intro _ k l h; cases h
theorem groupHalt : Statement (.groupHalt) := by
  intro _ k l h; cases h; decide
theorem groupAbort : Statement (.groupAbort) := by
  intro _ k l h; cases h; decide
theorem groupQuery (l : LinkId) : Statement (.groupQuery l) := by
  intro w k l' h; cases h; revert w; cases l <;> decide
theorem stageRecord : Statement (.stageRecord) := by
  intro _ k l h; cases h
theorem programStart : Statement (.programStart) := by
  intro _ k l h; cases h
theorem programComplete (readBack : List Byte) : Statement (.programComplete readBack) := by
  intro _ k l h; cases h
theorem turn : Statement (.turn) := by
  intro _ k l h; cases h
theorem eraseStart : Statement (.eraseStart) := by
  intro _ k l h; cases h
theorem eraseComplete (pageRead : List (Nat × List Byte)) : Statement (.eraseComplete pageRead) := by
  intro _ k l h; cases h
theorem journalRead : Statement (.journalRead) := by
  intro _ k l h; cases h; decide
theorem journalRelease : Statement (.journalRelease) := by
  intro _ k l h; cases h; decide
theorem journalHealth (l : LinkId) : Statement (.journalHealth l) := by
  intro w k l' h; cases h; revert w; cases l <;> decide
theorem siteWrite : Statement (.siteWrite) := by
  intro _ k l h; cases h; decide
theorem commission : Statement (.commission) := by
  intro _ k l h; cases h; decide
theorem decommission : Statement (.decommission) := by
  intro _ k l h; cases h; decide
theorem settingsSet : Statement (.settingsSet) := by
  intro _ k l h; cases h; decide
theorem fenceDesk : Statement (.fenceDesk) := by
  intro _ k l h; cases h; decide
theorem unfenceDesk : Statement (.unfenceDesk) := by
  intro _ k l h; cases h; decide
theorem identify (l : LinkId) : Statement (.identify l) := by
  intro w k l' h; cases h; revert w; cases l <;> decide
theorem siteQuery (l : LinkId) : Statement (.siteQuery l) := by
  intro w k l' h; cases h; revert w; cases l <;> decide
theorem writeSlot (l : LinkId) (bytes : List Byte) : Statement (.writeSlot l bytes) := by
  intro _ k l h; cases h
theorem post (l : LinkId) (bytes : List Byte) : Statement (.post l bytes) := by
  intro _ k l h; cases h
theorem fetch (l : LinkId) (clocked : Nat) : Statement (.fetch l clocked) := by
  intro _ k l h; cases h
theorem status (l : LinkId) (clocked : Nat) : Statement (.status l clocked) := by
  intro _ k l h; cases h
theorem clear (l : LinkId) (bytes : List Byte) : Statement (.clear l bytes) := by
  intro _ k l h; cases h
theorem ring (l : LinkId) (bytes : List Byte) : Statement (.ring l bytes) := by
  intro _ k l h; cases h
theorem resume (l : LinkId) (bytes : List Byte) : Statement (.resume l bytes) := by
  intro _ k l h; cases h
theorem linkReset (l : LinkId) (bytes : List Byte) : Statement (.linkReset l bytes) := by
  intro _ k l h; cases h
theorem unknownFrame (l : LinkId) (code : Byte) (bytes : List Byte) : Statement (.unknownFrame l code bytes) := by
  intro _ k l h; cases h
theorem takeRequest (l : LinkId) : Statement (.takeRequest l) := by
  intro _ k l h; cases h
theorem placeReplyRecord (l : LinkId) : Statement (.placeReplyRecord l) := by
  intro _ k l h; cases h
theorem mainPowerLoss : Statement (.mainPowerLoss) := by
  intro _ k l h; cases h

end Sys2Proof.Laws.Formed
end

