-- ==== Sys2Proof/Laws/Requests.lean ====
section
/-! SUPPORT. What taking and answering a request can do: the lemmas that proofs cite in place of unfolding them. -/

namespace Sys2Proof.Machine

/-! #### Taking a request -/

theorem State.serveFrom_none (s s' : State) (l : LinkId) (k : ReqKind) (ready : Bool) (body : List Byte → State → State)
    (h : s.serving l k = none) : s.serveFrom l k ready s' body = s := by
  simp [State.serveFrom, h]

theorem State.serveFrom_notReady (s s' : State) (l : LinkId) (k : ReqKind) (body : List Byte → State → State) :
    s.serveFrom l k false s' body = s := by
  unfold State.serveFrom
  split <;> rfl

theorem State.serveFrom_fenced (s s' : State) (l : LinkId) (k : ReqKind) (body : List Byte → State → State) (fs : List Byte)
    (h : s.serving l k = some fs) (f : s'.fenced l = true) :
    s.serveFrom l k true s' body = s'.answer l .fenced (s'.refusalFields k fs) := by
  simp [State.serveFrom, h, f]

theorem State.serveFrom_some (s s' : State) (l : LinkId) (k : ReqKind) (body : List Byte → State → State) (fs : List Byte)
    (h : s.serving l k = some fs) (f : s'.fenced l = false) : s.serveFrom l k true s' body = body fs s' := by
  simp [State.serveFrom, h, f]

/-- A request is answered FENCED, is served by its body, or is left waiting. -/
theorem State.serveFrom_cases (s s' : State) (l : LinkId) (k : ReqKind) (ready : Bool) (body : List Byte → State → State) :
    s.serveFrom l k ready s' body = s ∨ (∃ fs, s.serveFrom l k ready s' body = s'.answer l .fenced (s'.refusalFields k fs)) ∨
      ∃ fs, s.serving l k = some fs ∧ s.serveFrom l k ready s' body = body fs s' := by
  unfold State.serveFrom
  cases h : s.serving l k with
  | none => exact .inl rfl
  | some fs =>
    cases ready with
    | false => exact .inl rfl
    | true =>
      cases f : s'.fenced l with
      | true => exact .inr (.inl ⟨fs, by simp⟩)
      | false => exact .inr (.inr ⟨fs, rfl, by simp⟩)

theorem State.serve_asked {s : State} {l : LinkId} {k : ReqKind} {fs : List Byte} (h : s.asked l k fs)
    (body : List Byte → State → State) : s.serve l k body = body fs s :=
  State.serveFrom_some s s l k body fs h.1 h.2

theorem State.serveCm_asked {s : State} {l : LinkId} {k : ReqKind} {fs : List Byte} (h : s.askedCm l k fs)
    (body : List Byte → State → State) : s.serveCm l k body = body fs s.cmPop := by
  unfold State.serveCm
  rw [h.2]
  exact State.serveFrom_some s s.cmPop l k body fs h.1.1 h.1.2

theorem State.serveEval_asked {s : State} {l : LinkId} {k : ReqKind} {fs : List Byte} (h : s.askedEval l k fs)
    (body : List Byte → State → State) : s.serveEval l k body = body fs s := by
  unfold State.serveEval
  rw [h.2]
  exact State.serveFrom_some s s l k body fs h.1.1 h.1.2

theorem State.serveRoomSet_asked {s : State} {fs : List Byte} (a : Nat) (h : s.askedCm .desk .roomSet fs)
    (ha : fieldAt fs 2 1 = a) (body : Nat → List Byte → State → State) :
    s.serveRoomSet a body =
      if s.settings.service = .unprovisioned then s.cmPop.answer .desk .notReady []
      else if Config.rooms ≤ fieldAt fs 0 2 then s.cmPop.answer .desk .badField []
      else if 3 < a then s.cmPop.answer .desk .badField []
      else body (fieldAt fs 0 2) fs s.cmPop := by
  have hc : s.cmTakes .desk = true := h.2
  simp only [State.serveRoomSet, h.1.1, hc, Option.getD_some, ha, beq_self_eq_true, Bool.true_or, Bool.and_self]
  rw [State.serveFrom_some s s.cmPop .desk .roomSet _ fs h.1.1 h.1.2]
  rw [ha]
  rfl

theorem State.serveDoorReport_asked {s : State} {fs : List Byte} (a : Nat) (h : s.askedEval .lock .doorReport fs)
    (ha : fieldAt fs 2 1 = a) (body : Nat → State → State) :
    s.serveDoorReport a body =
      if Config.doors ≤ fieldAt fs 0 2 ∨ 4 < a then s.answer .lock .badField [] else body (fieldAt fs 0 2) s := by
  simp only [State.serveDoorReport, h.1.1, h.2, Option.getD_some, ha, beq_self_eq_true, Bool.true_or, Bool.and_self,
    Option.isNone_none]
  rw [State.serveFrom_some s s .lock .doorReport _ fs h.1.1 h.1.2, ha]

/-- The page array is busy exactly during a program or an erase (R149). -/
theorem Writer.busy_iff (w : Writer) : w.busy = true ↔ w = .programming ∨ ∃ p forTurn, w = .erasing p forTurn := by
  cases w <;> simp [Writer.busy]

/-- A Journal Unit request waits while the page array is busy (R159). -/
theorem State.serveJournal_busy {s : State} (h : s.journal.writer.busy = true) (l : LinkId) (k : ReqKind)
    (body : List Byte → State → State) : s.serveJournal l k body = s := by
  unfold State.serveJournal
  rw [h]
  exact State.serveFrom_notReady s s l k body

theorem State.serveJournal_asked {s : State} {l : LinkId} {k : ReqKind} {fs : List Byte} (h : s.asked l k fs)
    (w : s.journal.writer.busy = false) (body : List Byte → State → State) : s.serveJournal l k body = body fs s := by
  unfold State.serveJournal
  rw [w]
  exact State.serveFrom_some s s l k body fs h.1 h.2

/-- A refused SET_TIME carries M and S (R3). -/
theorem State.refusalFields_setTime (s : State) (fs : List Byte) :
    s.refusalFields .setTime fs = [.num 4 s.clock.minute, .num 1 s.clock.second] := rfl

/-- A refused CHECK_IN carries the room's state (R27). -/
theorem State.refusalFields_checkIn (s : State) (fs : List Byte) :
    s.refusalFields .checkIn fs = [s.roomStateField (fieldAt fs 0 2)] := rfl

/-- A refused COMMISSION carries the service state and the clock-set flag (R174). -/
theorem State.refusalFields_commission (s : State) (fs : List Byte) :
    s.refusalFields .commission fs = [.num 1 (serviceCode s.settings.service), .flag s.clock.isSet] := rfl

/-- No other kind's rule gives every refusal a field. -/
theorem State.refusalFields_other (s : State) (k : ReqKind) (fs : List Byte) (h : k ≠ .setTime) (h' : k ≠ .checkIn)
    (h'' : k ≠ .commission) : s.refusalFields k fs = [] := by
  simp [State.refusalFields, h, h', h'']

/-- What a fence request waits for: a Desk request in progress that its owning block has taken (R181). -/
theorem State.deskTaken_iff (s : State) : s.deskTaken = true ↔ ∃ r, s.desk.inProgress = some r ∧ r.phase = .taken := by
  unfold State.deskTaken
  cases s.desk.inProgress <;> simp

/-- The content of the Link Unit's own refusal of a kind of the part. -/
theorem State.linkRefusal_kind (s : State) (l : LinkId) (n : Nat) (k : ReqKind)
    (h : kindOfCode (s.link l).kindAtHead = some k) :
    s.linkRefusal l n = fieldBytes (s.refusalFields k ((s.link l).fieldArea n)) := by
  simp [State.linkRefusal, h]

/-- The content of the Link Unit's own refusal of a code that names no kind. -/
theorem State.linkRefusal_none (s : State) (l : LinkId) (n : Nat) (h : kindOfCode (s.link l).kindAtHead = none) :
    s.linkRefusal l n = [] := by
  simp [State.linkRefusal, h, fieldBytes, placeFields]

/-! #### Answering a request -/

theorem State.answer_none (s : State) (l : LinkId) (st : Status) (fs : List Field) (h : (s.link l).inProgress = none) :
    s.answer l st fs = s := by
  simp [State.answer, h]

theorem State.answer_some (s : State) (l : LinkId) (st : Status) (fs : List Field) (r : Request)
    (h : (s.link l).inProgress = some r) :
    s.answer l st fs = s.setLink l ((s.link l).answerWith (replySeries r.tag st (kindCode r.kind) (fieldBytes fs))) := by
  simp [State.answer, h]

theorem Link.answerWith_single (k : Link) (r : Request) (a : Reply) (h : k.inProgress = some r) (n : r.answered = false)
    (d : r.discard = false) : k.answerWith [a] = { k with replies := k.replies ++ [a], inProgress := none } := by
  simp [Link.answerWith, h, n, d]

theorem replySeries_short (tag : Byte) (st : Status) (kind : Nat) (c : List Byte) (h : c.length ≤ 13) :
    replySeries tag st kind c = [replyRecord tag st kind c] := by
  simp [replySeries, h]

/-- A handed request whose reply has at most 13 content bytes gets one reply record and is over. -/
theorem State.answer_short (s : State) (l : LinkId) (st : Status) (fs : List Field) (r : Request)
    (h : (s.link l).inProgress = some r) (n : r.answered = false) (d : r.discard = false) (len : (fieldBytes fs).length ≤ 13) :
    s.answer l st fs =
      s.setLink l
        { s.link l with
          replies := (s.link l).replies ++ [replyRecord r.tag st (kindCode r.kind) (fieldBytes fs)], inProgress := none } := by
  rw [State.answer_some s l st fs r h, replySeries_short _ _ _ _ len, Link.answerWith_single _ r _ h n d]

theorem bigEndian_length (w v : Nat) : (bigEndian w v).length = w := by
  induction w with
  | zero => rfl
  | succ w ih => simp [bigEndian, ih]

theorem fitBytes_length (n : Nat) (bs : List Byte) : (fitBytes n bs).length = n := by
  simp [fitBytes]; omega

theorem replyRecord_length (tag : Byte) (st : Status) (kind : Nat) (c : List Byte) : (replyRecord tag st kind c).length = 16 := by
  simp [replyRecord, fitBytes_length]

/-! #### Placing the records of a reply in parts -/

/-- Where no card image waits, placing a record is placing it on its link. -/
theorem State.placeRecord_no_image (s : State) (l : LinkId) (h : l = .desk → ∀ image, s.group.phase ≠ .imageHeld image) :
    s.placeRecord l = s.setLink l (s.link l).placeNext := by
  cases l with
  | desk =>
    have e : (s.setLink .desk (s.link .desk).placeNext).group.phase = s.group.phase := rfl
    unfold State.placeRecord
    cases p : s.group.phase <;> simp only [e, p]
    exact absurd p (h rfl _)
  | lock => rfl
  | audit => rfl

/-- Behind the last record of a Desk reply stands the card image that waited for it, and the run goes on (R133, R195). -/
theorem State.placeRecord_image (s : State) (image : Reply) (h : s.group.phase = .imageHeld image)
    (last : s.desk.placeNext.inProgress.elim false Request.answered = false) :
    s.placeRecord .desk = (s.setLink .desk s.desk.placeNext).placeImage image := by
  have e : (s.setLink .desk (s.link .desk).placeNext).group.phase = .imageHeld image := h
  unfold State.placeRecord
  simp only [e]
  exact if_neg (by simpa [State.deskPlacing, State.setLink, State.link] using last)

/-! #### What a reply leaves unchanged on the other links -/

theorem State.answer_link_other (s : State) (l m : LinkId) (st : Status) (fs : List Field) (h : m ≠ l) :
    (s.answer l st fs).link m = s.link m := by
  unfold State.answer
  split
  · rfl
  · cases l <;> cases m <;> first | rfl | exact absurd rfl h

end Sys2Proof.Machine
end

