-- ==== Sys2Proof/Tests/Slice0.lean ====
section
/-! SUPPORT. Small tests: the checks of well-formedness, single steps of the manual's worked examples, and, for every statement
that has hypotheses, a theorem `meets_<statement>` that shows concrete states and operands meeting them. -/

namespace Sys2Proof.Tests
set_option Elab.async false
open Sys2Proof Sys2Proof.Machine

/-! ### Well-formedness: each check refuses an ill-formed term -/

theorem test_wellFormed_slot : (Instr.programComplete (List.replicate 32 0#8)).wellFormed = true ∧
    (Instr.programComplete (List.replicate 31 0#8)).wellFormed = false ∧
    (Instr.warmStart .pin (List.replicate 33 0#8)).wellFormed = false ∧ (Instr.coldStart [] []).wellFormed = false := by decide

theorem test_wellFormed_page : (Instr.eraseComplete [(0, List.replicate 32 0#8), (63, List.replicate 32 1#8)]).wellFormed = true ∧
    (Instr.eraseComplete [(64, List.replicate 32 0#8)]).wellFormed = false ∧
    (Instr.eraseComplete [(3, List.replicate 32 0#8), (3, List.replicate 32 0#8)]).wellFormed = false ∧
    (Instr.eraseComplete [(3, List.replicate 32 0xFF#8)]).wellFormed = false ∧
    (Instr.eraseComplete [(3, List.replicate 30 0#8)]).wellFormed = false := by decide

theorem test_wellFormed_query_links : ([.zoneQuery .lock, .scheduleQuery .lock, .roomQuery .lock, .keyQuery .lock, .watchQuery .lock,
      .doorQuery .lock, .tariffQuery .lock, .tallyQuery .lock, .groupQuery .lock, .journalHealth .lock].all
        fun i => !Instr.wellFormed i) = true ∧
    ([.zoneQuery .audit, .journalHealth .desk, .timeQuery .lock, .identify .lock, .siteQuery .lock].all Instr.wellFormed) = true := by
  decide

theorem test_wellFormed_unknown_frame : (Instr.unknownFrame .desk 0#8 []).wellFormed = true ∧
    (Instr.unknownFrame .desk 9#8 []).wellFormed = true ∧ (Instr.unknownFrame .desk 8#8 []).wellFormed = false ∧
    (Instr.unknownFrame .desk 1#8 []).wellFormed = false := by decide

/-! ### The frames of R187 -/

theorem test_frame_codes : frameCommand .desk [] = none ∧ frameCommand .desk [0x02#8, 5#8] = some (.post .desk [5#8]) ∧
    frameCommand .lock (0x03#8 :: List.replicate 18 0#8) = some (.fetch .lock 18) ∧
    frameCommand .audit [0x09#8] = some (.unknownFrame .audit 9#8 []) ∧
    frameCommand .audit [0x00#8, 1#8] = some (.unknownFrame .audit 0#8 [1#8]) := by decide

/-- The four frames whose bytes are most easily confused. -/
theorem test_frame_ring_resume : frameCommand .desk [0x06#8, 8#8, 1#8, 0#8, 4#8] = some (.ring .desk [8#8, 1#8, 0#8, 4#8]) ∧
    frameCommand .desk [0x07#8] = some (.resume .desk []) ∧ frameCommand .desk [0x08#8, 0xA5#8] = some (.linkReset .desk [0xA5#8]) ∧
    frameCommand .desk [0x05#8, 0#8, 4#8] = some (.clear .desk [0#8, 4#8]) := by decide

/-! ### Helpers -/

/-- A state with a request of kind `k` and field area `fs` handed on link `l`, and waiting at the Credential Manager too. -/
def asking (l : LinkId) (k : ReqKind) (fs : List Byte) (s : State) : State :=
  let r : Request := { tag := 9#8, kind := k, fields := fs, phase := .handed, discard := false }
  { s.setLink l { s.link l with inProgress := some r } with cred := { s.cred with waiting := [sourceOf l] } }

/-- The state after a command. -/
def after (i : Instr) (s : State) : State :=
  match exec i s with
  | .next t => t
  | .fault _ => s
  | .refused _ => s

/-- The status, kind and content of the newest reply on a link after a command. -/
def reply (i : Instr) (l : LinkId) (s : State) : List Nat :=
  (((after i s).link l).replies.getLast?.getD []).drop 1 |>.map BitVec.toNat

/-- The status of the newest reply on a link after a command. -/
def status (i : Instr) (l : LinkId) (s : State) : Option Nat := (reply i l s).head?

/-- The records that a command offers. -/
def offered (i : Instr) (s : State) : List RecBody :=
  ((after i s).journal.offers.drop s.journal.offers.length).map Rec.body

/-- Numbers of the given widths as the bytes of a field area. -/
def area (ns : List (Nat × Nat)) : List Byte := ns.flatMap fun p => bigEndian p.1 p.2

/-- A key of the tests. -/
def aKey (status : KeyStatus) (rights : KeyRights) (issued start stop : Nat) : KeyRec :=
  { status := status, rights := rights, issued := issued, start := start, stop := stop, origin := none }

/-- The wing of the manual's evening at room 212 (chapter 4), its presentations and its minibar. -/
def wing : State :=
  { State.reset with
    settings := { State.reset.settings with
      service := .inService, record := some { number := 4120, wing := 2, epoch := 3 }, grace := 60 }
    clock := { State.reset.clock with
      minute := 2000000, isSet := true
      zones := [(3, { band := { opens := 420, closes := 1320 }, guestAllowed := true, lockdown := false })]
      schedules := [(33, { opens := 1320, closes := 360 })] }
    cred := { State.reset.cred with
      rooms := [(37, { label := some 212, state := .occupied, cg := 255#8, ig := 0#8, keyList := [101, 102, 140], privacy := false
                       stay := some { checkIn := 1999000, stayEnd := 2000500 } })]
      keys :=
        [(101, some (aKey (.live 4021337) (.guest [{ room := 37, gen := 255#8 }] 0#16 false) 1999000 1999000 2000500)),
         (102, some (aKey (.live 4021338) (.guest [{ room := 37, gen := 255#8 }] 0#16 false) 1999001 1999001 2000500)),
         (140, some (aKey (.live 4388190) (.guest [{ room := 37, gen := 0#8 }] 8#16 true) 1999900 1999900 2000500)),
         (150, some (aKey (.pending 2000005) (.service 4#16 2) 1999995 1999995 2000400)),
         (151, some (aKey (.cancelled .desk 1998560 (some 90)) .emergency 1998000 1998000 1999000)),
         (900, some (aKey (.live 4100900) (.staff 12#16 4 false) 1990000 1990000 2100000))] }
    eval := { State.reset.eval with
      doors :=
        [(74, { place := .room 37, zone := 2, enabled := true, unlock := 0, condition := .closed, memory := none, repeats := 0 }),
         (75, { place := .minibar 37, zone := 2, enabled := true, unlock := 8, condition := .closed, memory := none, repeats := 0 }),
         (210, { place := .zone, zone := 3, enabled := true, unlock := 6, condition := .closed, memory := none, repeats := 0 })] }
    mini := { State.reset.mini with
      prices := [(4, 450), (9, 350)], rate := 125
      tallies := [(37, { isOpen := true, limit := 10000, tally := 8700, saturated := false, door := some 75 })] }
    journal := { State.reset.journal with state := .normal, pages := [(0, { slots := [], fill := .filling, readable := [] })] } }

/-- The clock of a state set. -/
def at_ (minute second : Nat) (s : State) : State := { s with clock := { s.clock with minute := minute, second := second } }

/-- The service state of a state set, with a site record exactly when it is provisioned. -/
def serviceIs (x : Service) (s : State) : State :=
  { s with settings := { s.settings with
      service := x, record := if x = .unprovisioned then none else some { number := 4120, wing := 2, epoch := 3 } } }

/-- The wing with key 140's GUEST session at the minibar door. -/
def evening : State :=
  wing.setSession 75 (some { kind := .guest, room := 37, key := 140, opened := 120000030, active := 120000030, lines := [] })

/-- The canonical form as one test. -/
def tablesOk (s : State) : Bool :=
  tableWf Room.blank s.cred.rooms && tableWf none s.cred.keys && tableWf Door.blank s.eval.doors && tableWf 0 s.mini.prices &&
    tableWf Tally.blank s.mini.tallies && tableWf none s.mini.sessions && tableWf Zone.blank s.clock.zones &&
    tableWf Band.blank s.clock.schedules && tableWf GroupEntry.blank s.group.entries && tableWf Page.blank s.journal.pages &&
    tableWf blankSlot s.desk.slots && tableWf blankSlot s.lock.slots && tableWf blankSlot s.audit.slots &&
    s.journal.pages.all fun e => tableWf erasedSlot e.2.slots

theorem tablesWf_of_ok (s : State) (h : tablesOk s = true) : s.tablesWf := by
  simp only [tablesOk, Bool.and_eq_true] at h
  obtain ⟨⟨⟨⟨⟨⟨⟨⟨⟨⟨⟨⟨⟨a, b⟩, c⟩, d⟩, e⟩, f⟩, g⟩, i⟩, j⟩, k⟩, x⟩, y⟩, z⟩, w⟩ := h
  exact ⟨a, b, c, d, e, f, g, i, j, k, fun l => by cases l <;> assumption, fun p m => List.all_eq_true.mp w p m⟩

theorem wing_tablesWf : wing.tablesWf := tablesWf_of_ok _ (by decide +kernel)

theorem asking_tablesWf (l : LinkId) (k : ReqKind) (fs : List Byte) (s : State) (h : s.tablesWf) : (asking l k fs s).tablesWf := by
  cases l <;> exact ⟨h.1, h.2.1, h.2.2.1, h.2.2.2.1, h.2.2.2.2.1, h.2.2.2.2.2.1, h.2.2.2.2.2.2.1, h.2.2.2.2.2.2.2.1,
    h.2.2.2.2.2.2.2.2.1, h.2.2.2.2.2.2.2.2.2.1, fun m => by
      have H := h.2.2.2.2.2.2.2.2.2.2.1
      cases m <;> first | exact H .desk | exact H .lock | exact H .audit, h.2.2.2.2.2.2.2.2.2.2.2⟩

theorem asking_serving (l : LinkId) (k : ReqKind) (fs : List Byte) (s : State) (h : s.powered = true) :
    (asking l k fs s).serving l k = some fs := by
  cases l <;> simp [State.serving, asking, State.link, State.setLink, h]

/-- A request asked in a powered state without the fence is handed to a block that serves it. -/
theorem asking_asked (l : LinkId) (k : ReqKind) (fs : List Byte) (s : State) (h : s.powered = true) (f : s.settings.fence = false) :
    (asking l k fs s).asked l k fs :=
  ⟨asking_serving l k fs s h, by cases l <;> simp [State.fenced, asking, State.setLink, f]⟩

theorem asking_askedCm (l : LinkId) (k : ReqKind) (fs : List Byte) (s : State) (h : s.powered = true) (f : s.settings.fence = false)
    (c : s.cred.op = none) (e : s.eval.op = none) : (asking l k fs s).askedCm l k fs :=
  ⟨asking_asked l k fs s h f, by
    cases l <;> simp [State.cmTakes, asking, State.setLink, Evaluator.atCredentials, h, c, e, sourceOf]⟩

theorem asking_askedEval (l : LinkId) (k : ReqKind) (fs : List Byte) (s : State) (h : s.powered = true) (f : s.settings.fence = false)
    (e : s.eval.op = none) : (asking l k fs s).askedEval l k fs :=
  ⟨asking_asked l k fs s h f, by cases l <;> exact e⟩

/-- The requests of the wing are served, whatever their fields: the common hypotheses of the request statements. -/
theorem wing_asked (l : LinkId) (k : ReqKind) (fs : List Byte) : (asking l k fs wing).asked l k fs := asking_asked l k fs wing rfl rfl
theorem wing_askedCm (l : LinkId) (k : ReqKind) (fs : List Byte) : (asking l k fs wing).askedCm l k fs :=
  asking_askedCm l k fs wing rfl rfl rfl rfl
theorem wing_askedEval (l : LinkId) (k : ReqKind) (fs : List Byte) : (asking l k fs wing).askedEval l k fs :=
  asking_askedEval l k fs wing rfl rfl rfl

/-! ### The part as a whole -/

/-- The wing with two commands waiting. -/
def waiting : State := { wing with pending := [.secondEvent, .idleTest] }

theorem meets_StepRunsTheFrontCommandOrIdles :
    waiting.pending = .secondEvent :: [.idleTest] ∧ (after .secondEvent { waiting with pending := [.idleTest] }).clock.second = 1 ∧
    wing.pending = [] ∧ step wing = .next wing := ⟨rfl, by decide +kernel, rfl, rfl⟩

theorem wing_rooms (r : Nat) (h : r ≠ 37) : wing.room r = Room.blank ∧ wing.tally r = Tally.blank := by
  constructor <;> simp [State.room, State.tally, tableLook, wing, h.symm]

theorem wing_talliesMatchRooms : wing.talliesMatchRooms := by
  intro r
  by_cases h : r = 37
  · subst h; decide +kernel
  · rw [(wing_rooms r h).1, (wing_rooms r h).2]; decide

/-- A check-in in progress of rooms 40 and 41: room 40 is done, its tally open and the room still VACANT. -/
def halfIn : State :=
  { wing.setTally 40 { Tally.blank with isOpen := true } with
    cred := { wing.cred with
      op := some (.checkIn { origin := .group 4, minute := 2000000, second := 0, stayEnd := 2001000, limit := 500, rooms := [40, 41]
                             todo := [41], closing := false, earlier := none }) } }

theorem halfIn_talliesMatchRooms : halfIn.talliesMatchRooms := by
  refine ⟨by decide, ?_, by decide +kernel⟩
  intro r h
  simp only [List.mem_cons, List.not_mem_nil, or_false, not_or] at h
  have e : halfIn.tally r = wing.tally r := by
    simp [State.tally, tableLook, halfIn, wing, State.setTally, tablePut, tableInsert, Tally.blank, Ne.symm h.1]
  rw [e]
  exact wing_talliesMatchRooms r

theorem meets_EveryStepKeepsTheTablesCanonical : waiting.tablesWf ∧ waiting.talliesMatchRooms ∧ halfIn.talliesMatchRooms ∧
    ∃ t, step waiting = .next t ∧ t.clock.second = 1 :=
  ⟨tablesWf_of_ok _ (by decide +kernel), wing_talliesMatchRooms, halfIn_talliesMatchRooms, _, rfl, by decide +kernel⟩

theorem meets_EveryStepKeepsTheReplyQueuesBounded : waiting.repliesBounded ∧ ∃ t, step waiting = .next t ∧ t.clock.second = 1 :=
  ⟨fun l => by cases l <;> decide +kernel, _, rfl, by decide +kernel⟩

/-- Sixteen replies on a link, the most that the bound admits. -/
def sixteenReplies : Link := { State.reset.desk with replies := List.replicate 16 (List.replicate 16 0#8) }

theorem meets_repliesBounded_at_sixteen : ({ waiting with desk := sixteenReplies } : State).repliesBounded :=
  fun l => by cases l <;> decide +kernel

/-- A pool of 32 sessions, the most that the bound admits. -/
theorem meets_poolBounded_at_thirtyTwo : ({ waiting with mini := { waiting.mini with
    sessions := (List.range 32).map fun i => (i, some { kind := SessionKind.guest, room := 1, key := 1, opened := 1, active := 1, lines := [] }) } }
      : State).poolBounded := by
  unfold State.poolBounded; decide +kernel

theorem wing_inRanges : wing.inRanges := by
  refine ⟨by constructor <;> decide +kernel, by constructor <;> decide +kernel, by unfold State.allowanceBounded; decide +kernel,
    by unfold State.recordMatchesService; decide +kernel, by unfold State.watchBounded; decide +kernel,
    by unfold State.settingsInRange; decide +kernel, by unfold State.talliesBounded; decide +kernel,
    fun l => by cases l <;> decide +kernel⟩

/-- No page of a journal that lists none holds a readable record. -/
theorem no_pages_marksLawful (s : State) (h : s.journal.pages = []) (w : s.journal.writer = .idle)
    (d : s.journal.discarded ≤ s.journal.released) (r : s.journal.released ≤ s.journal.newest) : s.marksLawful := by
  have page : ∀ p, s.page p = Page.blank := by intro p; simp [State.page, h, tableLook]
  refine ⟨fun _ => ⟨d, r⟩, fun _ => ⟨w, fun p => by rw [page]; rfl⟩, ?_, ?_⟩
  · intro p n m; rw [page] at m; cases m
  · intro _ n m; rw [page] at m; cases m

/-- The wing with its marks all at the greatest number, and the part in its recovery scan. -/
def marksAtTop : State := { waiting with
  journal := { waiting.journal with pages := [], newest := 4294967295, released := 4294967295, discarded := 4294967295 } }

theorem meets_EveryStepKeepsTheRanges : waiting.inRanges ∧ marksAtTop.tablesWf ∧ marksAtTop.marksLawful ∧
    State.reset.marksLawful ∧ ∃ t, step waiting = .next t ∧ t.clock.second = 1 :=
  ⟨wing_inRanges, tablesWf_of_ok _ (by decide +kernel), no_pages_marksLawful _ rfl rfl (by decide) (by decide),
    no_pages_marksLawful _ rfl rfl (by decide) (by decide), _, rfl, by decide +kernel⟩

/-- The wing with the Desk fence on. -/
def fencedWing : State := { wing with settings := { wing.settings with fence := true } }

theorem meets_DeskFenceAnswersFencedAndChangesNothing : rowRequest .setTime = some (.setTime, .desk) ∧
    rowRequest .issueKey = some (.issueKey, .desk) ∧ fencedWing.settings.fence = true ∧
    reply .setTime .desk (asking .desk .setTime [] fencedWing) = [2, 1, 0, 0x1E, 0x84, 0x80, 0] ++ List.replicate 8 0 ∧
    ([37, 60, 512].map fun n => (reply .checkIn .desk (asking .desk .checkIn (area [(2, n)]) fencedWing)).take 4) =
      [[2, 0x10, 1, 0], [2, 0x10, 0, 0], [2, 0x10, 0xFF, 0]] ∧
    (reply .commission .desk (asking .desk .commission [] fencedWing)).take 5 = [2, kindCode .commission, 2, 1, 0] ∧
    reply .issueKey .desk (asking .desk .issueKey [] fencedWing) = [2, 0x18] ++ List.replicate 13 0 ∧
    exec .setTime fencedWing = .next fencedWing := by
  refine ⟨rfl, rfl, rfl, by decide +kernel, by decide +kernel, by decide +kernel, by decide +kernel, rfl⟩

/-- Blocks that are not ready: the Credential Manager with an operation taken, the evaluator with one, the array programming and
erasing; a page waited for holds nothing up. Each action code of a ROOM_SET, and a code that none names. -/
theorem meets_fence_ready_clauses :
    let busyCm : State := { fencedWing with cred := { fencedWing.cred with op := some (.checkOut 37 2 0 2) } }
    let busyEval : State := { fencedWing with eval := { fencedWing.eval with op := some (.privacy 74 37 true) } }
    let array := fun (w : Writer) => ({ fencedWing with journal := { fencedWing.journal with writer := w } } : State)
    ([fencedWing, busyCm].map fun s => status .issueKey .desk (asking .desk .issueKey [] s)) = [some 2, none] ∧
    ([fencedWing, busyEval].map fun s => status .doorSet .desk (asking .desk .doorSet [] s)) = [some 2, none] ∧
    ([Writer.idle, .waitingPage, .programming, .erasing 3 true].map fun w =>
      status (.journalHealth .desk) .desk (asking .desk .journalHealth [] (array w))) = [some 2, some 2, none, none] ∧
    ([0, 1, 2, 3, 4].map fun a => [Instr.roomSetReady, .roomSetOut, .roomSetBack, .roomSetLabel].map fun i =>
      status i .desk (asking .desk .roomSet (area [(2, 0), (1, a)]) fencedWing)) =
      [[some 2, none, none, none], [none, some 2, none, none], [none, none, some 2, none], [none, none, none, some 2],
       [some 2, some 2, some 2, some 2]] := by
  refine ⟨?_, ?_, ?_, ?_⟩ <;> decide +kernel

/-- A request in progress, and the same one after a link reset, with a reply of the greatest length that stands in one record. -/
theorem meets_AnswerPlacesOneReplyRecord :
    let r : Request := { tag := 9#8, kind := .timeQuery, fields := [], phase := .handed, discard := false }
    let fs : List Field := [.num 4 1, .num 4 2, .num 4 3, .num 1 4]
    ((asking .lock .timeQuery [] wing).link .lock).inProgress = some r ∧ r.answered = false ∧ (fieldBytes fs).length = 13 ∧
    (((wing.setLink .lock { wing.lock with inProgress := some { r with discard := true } }).answer .lock .ok fs).link .lock).replies =
      [] := by
  decide +kernel

/-- Content of 14, 24 and 25 bytes: a first part in the queue, one or two parts that wait, the last with 80h. -/
theorem meets_reply_in_parts :
    let s := asking .lock .timeQuery [] wing
    ([14, 24, 25].map fun n =>
      let k := (s.answer .lock .ok [.raw (List.replicate n 5#8)]).link .lock
      (k.replies, k.inProgress.map Request.phase)) =
      [([[9#8, 0#8, 2#8, 1#8] ++ List.replicate 12 5#8], some (.placing [[9#8, 0#8, 2#8, 0x82#8, 5#8, 5#8] ++ List.replicate 10 0#8])),
       ([[9#8, 0#8, 2#8, 1#8] ++ List.replicate 12 5#8], some (.placing [[9#8, 0#8, 2#8, 0x82#8] ++ List.replicate 12 5#8])),
       ([[9#8, 0#8, 2#8, 1#8] ++ List.replicate 12 5#8],
        some (.placing [[9#8, 0#8, 2#8, 2#8] ++ List.replicate 12 5#8, [9#8, 0#8, 2#8, 0x83#8, 5#8] ++ List.replicate 11 0#8]))] := by
  decide +kernel

theorem meets_TableWritesReadBack : wing.tablesWf ∧ (wing.setRoom 37 Room.blank).cred.rooms = [] ∧
    (wing.setKey 140 none).key 140 = none ∧ (wing.setKey 140 none).key 150 = wing.key 150 :=
  ⟨wing_tablesWf, by decide +kernel, by decide +kernel, by decide +kernel⟩

/-- A key number with a record in the wing is one of six. -/
theorem wing_keys (n : Nat) (k : KeyRec) (h : wing.key n = some k) :
    (n, some k) ∈ wing.cred.keys := by
  have : ∀ t : Table (Option KeyRec), tableLook none t n = some k → (n, some k) ∈ t := by
    intro t
    induction t with
    | nil => intro e; cases e
    | cons p rest ih =>
      obtain ⟨j, a⟩ := p
      intro e
      by_cases q : j = n
      · simp only [tableLook, q, if_true] at e
        subst q e
        exact List.mem_cons_self
      · simp only [tableLook, q, if_false] at e
        exact List.mem_cons_of_mem _ (ih e)
  exact this _ h

theorem wing_room (r : Nat) (h : r ≠ 37) : wing.room r = Room.blank := (wing_rooms r h).1

theorem wing_activeKeysInOccupiedRooms : wing.activeKeysInOccupiedRooms := by
  intro n k e a r i
  have p := wing_keys n k e
  simp only [wing, List.mem_cons, Prod.mk.injEq, Option.some.injEq, List.not_mem_nil, or_false] at p
  rcases p with ⟨rfl, rfl⟩ | ⟨rfl, rfl⟩ | ⟨rfl, rfl⟩ | ⟨rfl, rfl⟩ | ⟨rfl, rfl⟩ | ⟨rfl, rfl⟩ <;>
    simp [aKey, KeyRec.entries, KeyRec.isActive] at i a <;> subst i <;> decide +kernel

/-- A statement about every room of the wing is one about room 37 and one about a room without a record. -/
theorem wing_every_room (p : Nat → Room → Prop) (h : p 37 (wing.room 37)) (b : ∀ r, p r Room.blank) (r : Nat) : p r (wing.room r) := by
  by_cases e : r = 37
  · subst e; exact h
  · rw [wing_room r e]; exact b r

theorem wing_listsBounded : wing.listsBounded :=
  wing_every_room (fun _ r => r.keyList.length ≤ Config.roomKeys) (by decide +kernel) (fun _ => by decide)

theorem wing_generationsLawful : wing.generationsLawful :=
  wing_every_room
    (fun n r => genDistance r.ig r.cg ≤ 127 ∧ ∀ m ∈ r.keyList, genDistance (wing.listedGen n m) r.cg ≤ genDistance r.ig r.cg)
    (by decide +kernel) (fun _ => ⟨by decide, fun _ h => by cases h⟩)

theorem wing_listsMatchKeys : wing.listsMatchKeys := by
  refine ⟨?_, ?_, ?_, ?_⟩
  · intro r
    by_cases h : r = 37
    · subst h; decide +kernel
    · rw [wing_room r h]; decide
  · intro r n
    constructor
    · intro m
      by_cases h : r = 37
      · subst h
        have m' : n = 101 ∨ n = 102 ∨ n = 140 := by
          have : (wing.room 37).keyList = [101, 102, 140] := rfl
          rw [this] at m
          simpa using m
        rcases m' with rfl | rfl | rfl <;> exact ⟨_, rfl, rfl, by decide⟩
      · rw [wing_room r h] at m; cases m
    · rintro ⟨k, e, a, i⟩
      have p := wing_keys n k e
      simp only [wing, List.mem_cons, Prod.mk.injEq, Option.some.injEq, List.not_mem_nil, or_false] at p
      rcases p with ⟨rfl, rfl⟩ | ⟨rfl, rfl⟩ | ⟨rfl, rfl⟩ | ⟨rfl, rfl⟩ | ⟨rfl, rfl⟩ | ⟨rfl, rfl⟩ <;>
        simp [aKey, KeyRec.entries, KeyRec.isActive] at i a <;> subst i <;> decide +kernel
  · intro n k e
    have p := wing_keys n k e
    simp only [wing, List.mem_cons, Prod.mk.injEq, Option.some.injEq, List.not_mem_nil, or_false] at p
    rcases p with ⟨rfl, rfl⟩ | ⟨rfl, rfl⟩ | ⟨rfl, rfl⟩ | ⟨rfl, rfl⟩ | ⟨rfl, rfl⟩ | ⟨rfl, rfl⟩ <;> decide
  · intro n f e; cases e

theorem meets_EveryStepKeepsTheKeyListsMatchingTheKeys :
    waiting.tablesWf ∧ waiting.listsMatchKeys ∧ waiting.activeKeysInOccupiedRooms ∧
      ∃ t, step waiting = .next t ∧ t.clock.second = 1 :=
  ⟨tablesWf_of_ok _ (by decide +kernel), wing_listsMatchKeys, wing_activeKeysInOccupiedRooms, _, rfl, by decide +kernel⟩

theorem wing_serialsUnique : wing.serialsUnique := by
  constructor
  · intro n m j k serial hn hm sj sk
    have p := wing_keys n j hn
    have q := wing_keys m k hm
    simp only [wing, List.mem_cons, Prod.mk.injEq, Option.some.injEq, List.not_mem_nil, or_false] at p q
    rcases p with ⟨rfl, rfl⟩ | ⟨rfl, rfl⟩ | ⟨rfl, rfl⟩ | ⟨rfl, rfl⟩ | ⟨rfl, rfl⟩ | ⟨rfl, rfl⟩ <;>
      rcases q with ⟨rfl, rfl⟩ | ⟨rfl, rfl⟩ | ⟨rfl, rfl⟩ | ⟨rfl, rfl⟩ | ⟨rfl, rfl⟩ | ⟨rfl, rfl⟩ <;>
      first | rfl | (simp [aKey] at sj sk; done) | (simp only [aKey, KeyStatus.live.injEq] at sj sk; omega)
  · intro n k serial hn sk e he; cases he

theorem meets_EveryStepKeepsLiveSerialsUniqueAndUnwatched :
    waiting.tablesWf ∧ waiting.serialsUnique ∧ waiting.listsMatchKeys ∧ waiting.listsBounded ∧ waiting.generationsLawful ∧
      ∃ t, step waiting = .next t ∧ t.clock.second = 1 :=
  ⟨tablesWf_of_ok _ (by decide +kernel), wing_serialsUnique, wing_listsMatchKeys, wing_listsBounded, wing_generationsLawful, _, rfl,
    by decide +kernel⟩

/-! ### Chapter 1 -/

/-- Each case of the band, at the minutes on either side of its edges. -/
theorem meets_BandMembershipFollowsItsThreeCases :
    (({ opens := 420, closes := 1320 } : Band).opens < 1320 ∧
      [419, 420, 1319, 1320].map ({ opens := 420, closes := 1320 } : Band).holds = [false, true, true, false]) ∧
    ((360 : Nat) < 1320 ∧
      [359, 360, 1319, 1320].map ({ opens := 1320, closes := 360 } : Band).holds = [true, false, false, true]) ∧
    [0, 720, 1439].map ({ opens := 720, closes := 720 } : Band).holds = [false, false, false] ∧
    [0, 1439].map ({ opens := 0, closes := 1440 } : Band).holds = [true, true] := by
  decide +kernel

/-- The calendar example: day 1,388, minute of day 1,280, Saturday; midnight; the greatest minute. -/
theorem test_calendar : (dayOf 2000000, minuteOfDay 2000000, weekdayOf wing.settings.record 2000000) = (1388, 1280, 5) ∧
    (dayOf 2000160, minuteOfDay 2000160, weekdayOf wing.settings.record 2000160) = (1389, 0, 6) ∧
    (dayOf 4294967295, minuteOfDay 4294967295) = (2982616, 255) := by decide +kernel

/-- The clock stopped, below 59, at 59, and at 59 of the greatest minute; the sweep IDLE and RUNNING. -/
theorem meets_SecondAndMinuteEventsStepTheClockAndSweep :
    let clockOf := fun s => ((after .secondEvent s).clock.minute, (after .secondEvent s).clock.second, (after .secondEvent s).mini.idleDue)
    let sweepOf := fun s => ((after .secondEvent s).clock.sweep, (after .secondEvent s).cred.waiting)
    (State.reset.powered = true ∧ State.reset.clock.isSet = false ∧ clockOf State.reset = (0, 0, 0)) ∧
    (wing.clock.isSet = true ∧ clockOf (at_ 5 58 wing) = (5, 59, 1) ∧ clockOf (at_ 5 59 wing) = (6, 0, 1) ∧
      clockOf (at_ 4294967294 59 wing) = (4294967295, 0, 1) ∧ clockOf (at_ 4294967295 59 wing) = (4294967295, 0, 1)) ∧
    (wing.clock.sweep.position = none ∧ sweepOf (at_ 5 59 wing) = ({ position := some (.key 0), pendingPass := false, passes := 0 }, [.sweep])) ∧
    sweepOf (after .secondEvent (at_ 5 59 (at_ 6 59 (after .secondEvent (at_ 5 59 wing))))) =
      ({ position := some (.key 0), pendingPass := true, passes := 0 }, [.sweep]) := by
  decide +kernel

/-- The two settings of the sweep example (IN_SERVICE, stamp 42,000,020), 860 and 920 seconds back; 900 and 901; second 59 and 60. -/
theorem meets_SetTimeSetsTheClockOrRefuses : (∀ fs, (asking .desk .setTime fs wing).asked .desk .setTime fs) ∧
    ([(699986, 0), (699985, 0), (699985, 20), (699985, 19), (700001, 59), (700001, 60)].map fun p =>
      status .setTime .desk (asking .desk .setTime (area [(4, p.1), (1, p.2)]) (at_ 700000 20 wing))) =
      [some 0, some 0x13, some 0, some 0x13, some 0, some 5] ∧
    status .setTime .desk (asking .desk .setTime (area [(4, 0), (1, 0)]) (serviceIs .configuring wing)) = some 0 ∧
    offered .setTime (asking .desk .setTime (area [(4, 7), (1, 8)]) State.reset) = [.timeSet 0 7 0 8] :=
  ⟨fun _ => wing_asked _ _ _, by decide +kernel, by decide +kernel, by decide +kernel⟩

theorem meets_ClockRoomKeyAndDoorQueriesChangeNothing :
    (∀ l k fs, (asking l k fs wing).asked l k fs ∧ (asking l k fs wing).askedCm l k fs ∧ (asking l k fs wing).askedEval l k fs) ∧
    ((2047 : Nat) < 2048 ∧ wing.key 2047 = none ∧ (wing.key 140).isSome = true ∧ (wing.key 150).isSome = true) ∧
    ([(2048 : Nat), 2047, 140, 150, 151, 900].map fun n => (reply (.keyQuery .desk) .desk (asking .desk .keyQuery (area [(2, n)]) wing)).take 4)
      = [[5, 0x1C, 0, 0], [0, 0x1C, 0, 7], [0, 0x1C, 1, 2], [0, 0x1C, 1, 1], [0, 0x1C, 1, 3], [0, 0x1C, 1, 2]] := by
  refine ⟨fun _ _ _ => ⟨wing_asked _ _ _, wing_askedCm _ _ _, wing_askedEval _ _ _⟩, by decide +kernel, by decide +kernel⟩

/-- The four card image fields of key 140 stand in its KEY_QUERY reply: site 4,120, wing 2, key 140 and the stamp (R48, R206). -/
theorem test_key_query_carries_the_card_image_fields :
    let s := after (.keyQuery .desk) (asking .desk .keyQuery (area [(2, 140)]) wing)
    (s.desk.replies.map fun r => r.drop 3) = [[1#8, 2#8, 0#8, 0#8, 0x1E#8, 0x84#8, 0x1C#8, 0x10#8, 0x18#8, 2#8, 0#8, 140#8, 0x84#8]] := by
  decide +kernel

/-- The two clauses of WATCH_QUERY: a serial that is not on the list, and one behind another entry. -/
theorem meets_watchQuery_clauses :
    let w : List WatchEntry := [{ serial := 5, untilMinute := 9, reason := .lost }, { serial := 6, untilMinute := 8, reason := .desk }]
    (∀ e ∈ w, e.serial ≠ 7) ∧ w = [{ serial := 5, untilMinute := 9, reason := .lost }] ++ { serial := 6, untilMinute := 8, reason := .desk } :: [] ∧
    reply (.watchQuery .audit) .audit (asking .audit .watchQuery (area [(4, 6)]) { wing with cred := { wing.cred with watch := w } }) =
      [0, 0x1F, 0, 2, 0, 0, 0, 8, 1, 1, 0, 0, 0, 8, 1] := by
  refine ⟨by decide, rfl, by decide +kernel⟩

/-- Zone 15 and 16, open 1,439 and 1,440, close 1,440 and 1,441, guest-allowed 1 and 2; a weekday mask of 0, 1, 127 and 128. -/
theorem meets_ZoneAndScheduleRequestsWriteTheirRecords :
    (∀ l k fs, (asking l k fs wing).asked l k fs) ∧ wing.tablesWf ∧
    ([(15, 1439, 1440, 1), (16, 0, 0, 0), (0, 1440, 0, 0), (0, 0, 1441, 0), (0, 0, 0, 2)].map fun (z, o, c, g) =>
      status .zoneSet .desk (asking .desk .zoneSet (area [(1, z), (2, o), (2, c), (1, g)]) wing)) =
      [some 0, some 5, some 5, some 5, some 5] ∧
    ([(3, 0), (3, 1), (15, 1), (16, 0), (3, 2)].map fun (z, v) =>
      let s := asking .audit .zoneLockdown (area [(1, z), (1, v)]) wing
      (status .zoneLockdown .audit s, (offered .zoneLockdown s).length)) =
      [(some 0, 0), (some 0, 1), (some 0, 1), (some 5, 0), (some 5, 0)] ∧
    ([(15, 127, 1439, 1440), (0, 1, 0, 0), (16, 1, 0, 0), (0, 0, 0, 0), (0, 128, 0, 0), (0, 1, 1440, 0), (0, 1, 0, 1441)].map fun (n, m, o, c) =>
      status .scheduleSet .desk (asking .desk .scheduleSet (area [(1, n), (1, m), (2, o), (2, c)]) wing)) =
      [some 0, some 0, some 5, some 5, some 5, some 5, some 5] :=
  ⟨fun _ _ _ => wing_asked _ _ _, wing_tablesWf, by decide +kernel, by decide +kernel, by decide +kernel⟩

theorem meets_provisioning_clauses :
    ([Instr.zoneSet, .scheduleSet].map fun i =>
      [status i .desk (asking .desk (if i = .zoneSet then .zoneSet else .scheduleSet) (area [(1, 1), (1, 1)]) (serviceIs .unprovisioned wing))]) =
      [[some 4], [some 4]] ∧
    status .zoneLockdown .audit (asking .audit .zoneLockdown [] (serviceIs .unprovisioned wing)) = some 4 ∧
    status .zoneLockdown .audit (asking .audit .zoneLockdown (area [(1, 16), (1, 0)]) (serviceIs .unprovisioned wing)) = some 5 := by
  decide +kernel

/-- The sweep's visit to one key number. -/
def visiting (n m : Nat) : State :=
  let s := at_ m 0 wing
  { s with
    clock := { s.clock with sweep := { position := some (.key n), pendingPass := false, passes := 0 } }
    cred := { s.cred with waiting := [.sweep] } }

/-- A FREE key; a GUEST key just before and at its end plus grace; a STAFF key at its end; a PENDING key before and at its
deadline; a cancelled key before and at 1,440 minutes. -/
theorem meets_SweepVisitExpiresOneKey :
    (∀ n m, (visiting n m).clock.sweep.position = some (.key n) ∧ (visiting n m).cmTakes .sweep = true ∧ (visiting n m).tablesWf) ∧
    ([(5, 2000560), (140, 2000559), (140, 2000560), (900, 2099999), (900, 2100000), (150, 2000004), (150, 2000005), (151, 1999999), (151, 2000000)].map
      fun (n, m) => (keyViewCode (keyView ((after .sweepKeyVisit (visiting n m)).key n)), (offered .sweepKeyVisit (visiting n m)).length)) =
      [(0, 0), (2, 0), (3, 1), (2, 0), (3, 1), (1, 0), (0, 1), (3, 0), (0, 0)] ∧
    (after .sweepKeyVisit (visiting 2047 0)).clock.sweep.position = some .watch ∧
    (after .sweepKeyVisit (visiting 140 2000560)).room 37 = { wing.room 37 with keyList := [101, 102], ig := 255#8 } ∧
    wing.roomWithout 140 37 = { wing.room 37 with keyList := [101, 102], ig := 255#8 } :=
  ⟨fun _ _ => ⟨rfl, rfl, wing_tablesWf⟩, by decide +kernel, by decide +kernel, by decide +kernel, by decide +kernel⟩

/-- The wing with a Watch List entry ending at M and one a minute later, as the sweep visits the list. -/
def watchVisit : State :=
  { wing with
    clock := { wing.clock with sweep := { position := some .watch, pendingPass := false, passes := 0 } }
    cred :=
      { wing.cred with
        waiting := [.sweep]
        watch := [{ serial := 5, untilMinute := 2000000, reason := .lost }, { serial := 6, untilMinute := 2000001, reason := .desk }] } }

theorem meets_SweepVisitRemovesPastWatchEntries :
    watchVisit.clock.sweep.position = some .watch ∧ watchVisit.cmTakes .sweep = true ∧
    (after .sweepWatchVisit watchVisit).cred.watch = [{ serial := 6, untilMinute := 2000001, reason := .desk }] ∧
    offered .sweepWatchVisit watchVisit = [.watchChange (.expired 5 .lost)] ∧
    (after .sweepWatchVisit watchVisit).clock.sweep.position = some .allowance := by decide +kernel
/-! ### Chapter 2 -/

/-- The wing with room 37 in another state. -/
def roomIs (x : RoomState) (s : State) : State := s.setRoom 37 { s.room 37 with state := x, stay := if x = .vacant then none else (s.room 37).stay }

theorem meets_CheckInAndCheckOutAreCheckedAndHandedOver :
    (∀ k fs, (asking .desk k fs wing).askedCm .desk k fs) ∧
    ([(511, 2000001), (511, 2000000), (512, 2000001), (37, 2000001)].map fun (r, e) =>
      reply .checkIn .desk (asking .desk .checkIn (area [(2, r), (4, e), (3, 0)]) wing) |>.take 3) =
      [[], [5, 0x10, 0], [5, 0x10, 255], [0x0A, 0x10, 1]] ∧
    status .checkIn .desk (asking .desk .checkIn (area [(2, 37), (4, 2000501)]) (roomIs .outOfService wing)) = some 0x0A ∧
    ((after .checkIn (asking .desk .checkIn (area [(2, 37), (4, 2000501), (3, 9999999)]) (at_ 2000500 0 wing))).cred.op =
      some (.checkIn { origin := .desk, minute := 2000500, second := 0, stayEnd := 2000501, limit := 9999999, rooms := [37], todo := [37]
                       closing := true, earlier := none })) ∧
    ([36, 512].map fun r => status .checkOut .desk (asking .desk .checkOut (area [(2, r)]) wing)) = [some 0x0A, some 5] ∧
    (after .checkOut (asking .desk .checkOut (area [(2, 37)]) wing)).cred.op = some (.checkOut 37 2000000 0 2000000) :=
  ⟨fun _ _ => wing_askedCm _ _ _, by decide +kernel, by decide +kernel, by decide +kernel, by decide +kernel, by decide +kernel⟩

/-- A check-in in progress at its tally-open: of one room by the Desk, or of the first of two by the group. -/
def opening (origin : StayOrigin) (rooms todo : List Nat) (closing : Bool) : State :=
  { wing with
    cred := { wing.cred with
      op := some (.checkIn { origin := origin, minute := 2000000, second := 0, stayEnd := 2001000, limit := 500, rooms := rooms, todo := todo
                             closing := closing, earlier := none }) } }

theorem meets_TallyOpenChecksTheRoomIn :
    (opening .desk [40] [40] false).tablesWf ∧ (opening .desk [40] [40] false).powered = true ∧
    (opening .desk [40] [40] false).cred.op.isSome = true ∧ [40] = 40 :: ([] : List Nat) ∧ [40, 41] = 40 :: [41] ∧
    ((after .tallyOpen (opening .desk [40] [40] false)).room 40).state = .occupied ∧
    (after .tallyOpen (opening .desk [40] [40] false)).cred.op = none ∧
    ((after .tallyOpen (opening (.group 4) [40, 37] [40, 37] false)).room 40).state = .vacant ∧
    (after .tallyOpen (opening (.group 4) [40, 37] [40, 37] false)).cred.op =
      some (.checkIn { origin := .group 4, minute := 2000000, second := 0, stayEnd := 2001000, limit := 500, rooms := [40, 37], todo := [37]
                       closing := true, earlier := none }) :=
  ⟨wing_tablesWf, rfl, rfl, rfl, rfl, by decide +kernel, by decide +kernel, by decide +kernel, by decide +kernel⟩

/-- A warm start in place of a tally-open, at the first of two rooms and at the last. -/
theorem meets_check_in_at_a_warm_start :
    ([opening .desk [40] [40] false, opening (.group 4) [40, 37] [40, 37] false].map fun s =>
      let t := after (.warmStart .pin []) s
      (t.cred.op, (t.room 40).state, (t.tally 40).isOpen, t == after (.warmStart .pin []) (after .tallyOpen s))) =
      [(none, .occupied, true, true), (none, .occupied, true, true)] := by
  decide +kernel

/-- Room 37 of the check-out example of chapter 2: keys 140 and 160 name it alone, key 150 names room 38 too. -/
def leaving : State :=
  { wing with
    clock := { wing.clock with minute := 2001800 }
    cred := { wing.cred with
      rooms :=
        [(37, { label := none, state := .occupied, cg := 0#8, ig := 1#8, keyList := [140, 150, 160], privacy := false
                stay := some { checkIn := 1999000, stayEnd := 2003000 } }),
         (38, { label := none, state := .occupied, cg := 5#8, ig := 5#8, keyList := [150], privacy := false
                stay := some { checkIn := 1999000, stayEnd := 2003000 } })]
      keys :=
        [(140, some (aKey (.live 1) (.guest [{ room := 37, gen := 0#8 }] 0#16 false) 0 0 2003000)),
         (150, some (aKey (.live 2) (.guest [{ room := 38, gen := 5#8 }, { room := 37, gen := 0#8 }] 0#16 false) 0 0 2003000)),
         (160, some (aKey (.pending 2001805) (.guest [{ room := 37, gen := 1#8 }] 0#16 false) 0 0 2003000))]
      op := some (.checkOut 37 2001800 0 2001800) }
    mini := { wing.mini with
      tallies := [(37, { isOpen := true, limit := 5000, tally := 3250, saturated := false, door := none })], sessions := [] }
    desk := (asking .desk .checkOut [] wing).desk }

theorem leaving_listsMatchKeys : leaving.listsMatchKeys := by
  have keys : ∀ n k, leaving.key n = some k → n = 140 ∨ n = 150 ∨ n = 160 := by
    intro n k e
    by_contra h
    simp only [not_or] at h
    have : leaving.key n = none := by simp [State.key, tableLook, leaving, Ne.symm h.1, Ne.symm h.2.1, Ne.symm h.2.2]
    rw [this] at e
    cases e
  have rooms : ∀ r, r ≠ 37 → r ≠ 38 → leaving.room r = Room.blank := by
    intro r a b
    simp [State.room, tableLook, leaving, a.symm, b.symm]
  have in37 : (leaving.room 37).keyList = [140, 150, 160] := rfl
  have in38 : (leaving.room 38).keyList = [150] := rfl
  refine ⟨?_, ?_, ?_, ?_⟩
  · intro r
    by_cases a : r = 37
    · subst a; decide +kernel
    · by_cases b : r = 38
      · subst b; decide +kernel
      · rw [rooms r a b]; decide
  · intro r n
    constructor
    · intro m
      by_cases a : r = 37
      · subst a
        rw [in37] at m
        simp only [List.mem_cons, List.not_mem_nil, or_false] at m
        rcases m with rfl | rfl | rfl <;> exact ⟨_, rfl, rfl, by decide⟩
      · by_cases b : r = 38
        · subst b
          rw [in38] at m
          simp only [List.mem_cons, List.not_mem_nil, or_false] at m
          subst m
          exact ⟨_, rfl, rfl, by decide⟩
        · rw [rooms r a b] at m; cases m
    · rintro ⟨k, e, _, i⟩
      rcases keys n k e with rfl | rfl | rfl
      all_goals
        cases e
        simp [aKey, KeyRec.entries] at i
        rcases i with rfl | rfl <;> decide +kernel
  · intro n k e
    rcases keys n k e with rfl | rfl | rfl <;> cases e <;> decide
  · intro n f e; cases e

/-- The example's outcome: reply 3,250 with counts 2 and 1, key 150 keeping room 38, generation 1, DEPARTED; and the earlier
stay of an occupied room closed by a check-in. -/
theorem meets_TallyCloseEndsTheStay :
    leaving.tablesWf ∧ leaving.listsMatchKeys ∧ leaving.powered = true ∧ leaving.cred.op = some (.checkOut 37 2001800 0 2001800) ∧
    reply .tallyClose .desk leaving = [0, 0x11, 0, 37, 0, 0x0C, 0xB2, 0, 0, 0x1E, 0x8B, 0x88, 2, 1, 0] ∧
    offered .tallyClose leaving = [.keyCancelled 140 .checkedOut false, .keyCancelled 160 .checkedOut false,
      .stayClose 37 none 1999000 2001800 3250 false 2 1 .checkOut] ∧
    (after .tallyClose leaving).key 150 = some (aKey (.live 2) (.guest [{ room := 38, gen := 5#8 }] 0#16 false) 0 0 2003000) ∧
    (after .tallyClose leaving).room 37 =
      { leaving.room 37 with
        state := .departed, cg := 1#8, keyList := [], stay := some { checkIn := 1999000, stayEnd := 2001800 } } ∧
    (opening .desk [37] [37] true).tablesWf ∧
    offered .tallyClose (opening .desk [37] [37] true) = [.stayClose 37 (some 212) 1999000 2000500 8700 false 0 3 .recheckin] := by
  refine ⟨tablesWf_of_ok _ (by decide +kernel), leaving_listsMatchKeys, rfl, rfl, by decide +kernel, by decide +kernel, by decide +kernel,
    by decide +kernel, wing_tablesWf, by decide +kernel⟩

theorem meets_StayAndRoomSettingsAreWrittenOrRefused :
    (∀ k fs, (asking .desk k fs wing).askedCm .desk k fs) ∧
    ([(37, 2000001), (37, 2000000), (512, 2000001), (36, 2000001)].map fun (r, e) =>
      status .extendStay .desk (asking .desk .extendStay (area [(2, r), (4, e)]) wing)) = [some 0, some 5, some 5, some 0x0A] ∧
    ([(Instr.roomSetReady, 0), (.roomSetOut, 1), (.roomSetBack, 2)].map fun (i, a) =>
      [RoomState.vacant, .occupied, .departed, .outOfService].map fun x =>
        status i .desk (asking .desk .roomSet (area [(2, 37), (1, a)]) (roomIs x wing))) =
      [[some 0x0A, some 0x0A, some 0, some 0x0A], [some 0, some 0x0A, some 0, some 0x0A], [some 0x0A, some 0x0A, some 0x0A, some 0]] ∧
    ([(511, 1), (511, 9999), (511, 0), (511, 10000), (512, 1), (511, 212), (37, 212)].map fun (r, n) =>
      (reply .roomSetLabel .desk (asking .desk .roomSet (area [(2, r), (1, 3), (2, n)]) wing)).take 4) =
      [[0, 0x13, 1, 255], [0, 0x13, 1, 255], [5, 0x13, 0, 0], [5, 0x13, 0, 0], [5, 0x13, 0, 0], [5, 0x13, 0, 37], [0, 0x13, 0, 37]] ∧
    status .roomSetLabel .desk (asking .desk .roomSet (area [(2, 37), (1, 3), (2, 5)]) (serviceIs .unprovisioned wing)) = some 4 :=
  ⟨fun _ _ => wing_askedCm _ _ _, by decide +kernel, by decide +kernel, by decide +kernel, by decide +kernel⟩

/-- A ROOM_SET of action code 4: BAD_FIELD by whichever command takes it, NOT_READY in UNPROVISIONED. -/
theorem meets_room_set_unknown_action : (fieldAt (area [(2, 37), (1, 4)]) 2 1 = 4) ∧
    ([Instr.roomSetReady, .roomSetOut, .roomSetBack, .roomSetLabel].map fun i =>
      [wing, serviceIs .unprovisioned wing].map fun s => status i .desk (asking .desk .roomSet (area [(2, 37), (1, 4)]) s)) =
      List.replicate 4 [some 5, some 4] := by
  constructor <;> decide +kernel

/-! ### Chapter 3 -/

/-- The wing with a record for every key number. -/
def noneFree (f : Nat → KeyRec) : State :=
  { wing with cred := { wing.cred with keys := (List.range' 0 2048).map fun n => (n, some (f n)) } }

theorem look_range (f : Nat → KeyRec) (n : Nat) : ∀ m a : Nat,
    tableLook none ((List.range' a m).map fun i => (i, some (f i))) n = if a ≤ n ∧ n < a + m then some (f n) else none := by
  intro m
  induction m with
  | zero => intro a; rw [if_neg (by omega)]; rfl
  | succ m ih =>
    intro a
    simp only [List.range'_succ, List.map_cons, tableLook]
    by_cases h : a = n
    · rw [if_pos h, if_pos (by omega), h]
    · rw [if_neg h, ih]
      by_cases g : a + 1 ≤ n ∧ n < a + 1 + m
      · rw [if_pos g, if_pos (by omega)]
      · rw [if_neg g, if_neg (by omega)]

theorem noneFree_key (f : Nat → KeyRec) (n : Nat) : (noneFree f).key n = if n < 2048 then some (f n) else none := by
  have := look_range f n 2048 0
  simpa [noneFree, State.key] using this

/-- Two keys CANCELLED at minute 5 and one at minute 6 among LIVE keys. -/
def threeCancelled (n : Nat) : KeyRec :=
  if n = 700 ∨ n = 2047 then aKey (.cancelled .lost 5 none) .emergency 0 0 1
  else if n = 3 then aKey (.cancelled .desk 6 none) .emergency 0 0 1
  else aKey (.live (n + 1)) .emergency 0 0 1

/-- A FREE key 0; none FREE, with 700 the lowest of the two cancelled earliest; none FREE and none cancelled. -/
theorem meets_AllocationTakesTheLowestFreeKey :
    wing.tablesWf ∧ ((0 : Nat) < 2048 ∧ wing.key 0 = none ∧ ∀ m, m < 0 → wing.key m ≠ none) ∧
    (noneFree threeCancelled).tablesWf ∧ (∀ n, n < 2048 → (noneFree threeCancelled).key n ≠ none) ∧
    (noneFree threeCancelled).key 700 = some (aKey (.cancelled .lost 5 none) .emergency 0 0 1) ∧
    (∀ m j r x y, (noneFree threeCancelled).key m = some j → j.status = .cancelled r x y → 5 < x ∨ 5 = x ∧ 700 ≤ m) ∧
    (∀ n, n < 2048 → (noneFree fun n => aKey (.live (n + 1)) .emergency 0 0 1).key n ≠ none) ∧
    (∀ n k, (noneFree fun n => aKey (.live (n + 1)) .emergency 0 0 1).key n = some k → k.isActive = true) := by
  refine ⟨wing_tablesWf, ⟨by decide, by decide +kernel, by omega⟩, tablesWf_of_ok _ (by decide +kernel), ?_, ?_, ?_, ?_, ?_⟩
  · intro n h; rw [noneFree_key, if_pos h]; simp
  · rw [noneFree_key]; rfl
  · intro m j r x y h e
    rw [noneFree_key] at h
    split at h
    · cases h
      unfold threeCancelled at e
      split at e
      · rename_i q; cases e; omega
      · split at e
        · cases e; omega
        · cases e
    · cases h
  · intro n h; rw [noneFree_key, if_pos h]; simp
  · intro n k h
    rw [noneFree_key] at h
    split at h
    · cases h; rfl
    · cases h

/-- The field area of an ISSUE_KEY. -/
def issueArea (kind mode : Nat) (rooms : List Nat) (start stop zones schedule uses minibar restock : Nat) : List Byte :=
  area ([(1, kind), (1, mode), (1, rooms.length)] ++ (rooms ++ List.replicate (4 - rooms.length) 0).map (fun r => (2, r)) ++
    [(4, start), (4, stop), (2, zones), (1, schedule), (1, uses), (1, minibar), (1, restock)])

/-- The two rooms of the family key example (chapter 3), at M = 2,005,000, with keys 0 to 2 in use. -/
def family : State :=
  { wing with
    clock := { wing.clock with minute := 2005000 }
    cred := { wing.cred with
      rooms :=
        [(120, { label := none, state := .occupied, cg := 14#8, ig := 14#8, keyList := [0, 1], privacy := false
                 stay := some { checkIn := 2000000, stayEnd := 2010000 } }),
         (121, { label := none, state := .occupied, cg := 7#8, ig := 8#8, keyList := [2], privacy := false
                 stay := some { checkIn := 2000000, stayEnd := 2008560 } })]
      keys := (List.range 3).map fun n => (n, some (aKey (.live (n + 1)) .emergency 0 0 3000000)) } }

def familyArea : List Byte := issueArea 0 0 [120, 121] 0 0 0x28 0 0 1 0

def familyOrder : IssueOrder := { rights := .guest .new [120, 121] 0x28#16 true, start := 0, stop := 0, origin := .desk }

/-- The example, with key 3 the lowest FREE: PENDING, both generations, both lists, the card image with its check D0h. -/
theorem meets_IssuedKeyIsPendingAndListed :
    family.tablesWf ∧ (asking .desk .issueKey familyArea family).askedCm .desk .issueKey familyArea ∧
    family.settings.service = .inService ∧ issueOrderOf familyArea = some familyOrder ∧
    (∀ r ∈ familyOrder.rooms, (family.room r).state = .occupied ∧ (family.room r).keyList.length < 8 ∧
      ((family.room r).ig + 1#8 - (family.room r).cg).toNat ≤ 127) ∧
    issueWindow family familyOrder = some (2005000, 2008560) ∧ family.allocate = some (3, none) ∧
    (family.issueCheck familyOrder =
      .accepted 3 (aKey (.pending 2005010) (.guest [{ room := 120, gen := 15#8 }, { room := 121, gen := 9#8 }] 0x28#16 true) 2005000
        2005000 2008560) none) ∧
    ((after .issueKey (asking .desk .issueKey familyArea family)).room 121).keyList = [2, 3] ∧
    ((after .issueKey (asking .desk .issueKey familyArea family)).room 120).ig = 15#8 ∧
    cardImage 4120 2 611 38920 = [0x10#8, 0x18#8, 2#8, 2#8, 0x63#8, 0x98#8, 8#8, 0xD0#8] := by
  refine ⟨tablesWf_of_ok _ (by decide +kernel), asking_askedCm _ _ _ _ rfl rfl rfl rfl, rfl, by decide +kernel, by decide +kernel,
    by decide +kernel, by decide +kernel, by decide +kernel, by decide +kernel, by decide +kernel, by decide +kernel⟩

/-- The application of a group copy in the family's rooms, a site record, and an image of 8 bytes. -/
theorem meets_issueApply_clauses :
    let k : KeyRec := { aKey (.pending 9) (.guest [{ room := 120, gen := 14#8 }, { room := 121, gen := 8#8 }] 0#16 false) 5 5 9 with origin := some 4 }
    let t := family.issueApply { familyOrder with origin := .group 4 2 } 3 k none
    (k.entries.map Entry.room).Nodup ∧ family.settings.record = some { number := 4120, wing := 2, epoch := 3 } ∧
    (t.key 3 = some k ∧ (t.room 120).keyList = [0, 1, 3] ∧ (t.room 121).ig = 8#8) ∧ (family.imageOf 3 k).length = 8 ∧
    cardImageReply (some 21#8) 4 2 (family.imageOf 3 k) =
      [21#8, 0#8, 0x4F#8, 4#8, 2#8] ++ family.imageOf 3 k ++ [0#8, 0#8, 0#8] := by
  refine ⟨?_, ?_, ?_, ?_, ?_⟩ <;> decide +kernel

/-- The fields that each kind admits, at their bounds, and the windows: an end of 0, a start whose 1,440 minutes do not fit. -/
theorem meets_issue_fields_and_window :
    ([issueArea 0 1 [0, 1, 2, 511] 5 6 0 0 0 1 0, issueArea 0 0 [512] 0 0 0 0 0 0 0, issueArea 0 0 [] 0 0 0 0 0 0 0,
      issueArea 0 0 [1, 2, 3, 4, 5] 0 0 0 0 0 0 0, issueArea 0 0 [1] 0 0 0 0 0 2 0, issueArea 1 0 [] 0 9 0 15 0 0 1, issueArea 1 0 [] 0 9 0 16 0 0 1,
      issueArea 1 0 [] 0 9 0 15 0 0 2, issueArea 1 0 [1] 0 9 0 15 0 0 1, issueArea 2 0 [] 0 9 0 0 1 0 0, issueArea 2 0 [] 0 9 0 0 0 0 0,
      issueArea 3 0 [] 0 0 0 0 0 0 0, issueArea 4 0 [] 0 0 0 0 0 0 0].map fun fs => (issueOrderOf fs).isSome) =
      [true, false, false, false, false, true, false, false, false, true, false, true, false] ∧
    ([({ familyOrder with start := 2005001 } : IssueOrder), { familyOrder with stop := 2005001 }, { familyOrder with stop := 2005000 },
      { familyOrder with rights := .emergency }, { familyOrder with rights := .emergency, start := 4294965855 },
      { familyOrder with rights := .emergency, start := 4294965856 }, { familyOrder with rights := .emergency, stop := 3000000 },
      { familyOrder with rights := .staff 0#16 0 false }, { familyOrder with rights := .service 0#16 1, stop := 2005002 }].map
        (issueWindow family)) =
      [some (2005001, 2008560), some (2005000, 2005001), none, some (2005000, 2006440), some (4294965855, 4294967295), none,
       some (2005000, 2006440), none, some (2005000, 2005002)] := by
  constructor <;> decide +kernel

/-- The first four reply bytes of an ISSUE_KEY. -/
def issueReply (fs : List Byte) (s : State) : List Nat := (reply .issueKey .desk (asking .desk .issueKey fs s)).take 4

theorem meets_IssueKeyIsRefusedAtItsFirstFailure : (∀ fs, (asking .desk .issueKey fs family).askedCm .desk .issueKey fs) ∧
    issueReply familyArea (serviceIs .configuring family) = [3, 0x18, 0, 0] ∧
    ([issueArea 0 2 [120] 0 0 0 0 0 0 0, issueArea 4 0 [] 0 0 0 0 0 0 0, issueArea 0 0 [120, 120] 0 0 0 0 0 0 0,
      issueArea 0 0 [120, 122] 0 0 0 0 0 0 0, issueArea 0 1 [120] 0 2005000 0 0 0 0 0, issueArea 3 0 [] 0 2005001 0 0 0 0 0].map
        fun fs => issueReply fs family) =
      [[5, 0x18, 0, 0], [5, 0x18, 0, 0], [5, 0x18, 0, 0], [0x0A, 0x18, 0, 122], [5, 0x18, 0, 0], [0x10, 0x18, 0, 0]] :=
  ⟨fun _ => asking_askedCm _ _ _ _ rfl rfl rfl rfl, by decide +kernel, by decide +kernel⟩

/-- A list of 8 keys and of 7; a NEW generation 128 and 127 ahead; an EMERGENCY key within the allowance. -/
theorem meets_issueKey_table_clauses :
    ([family.setRoom 121 { family.room 121 with keyList := [1, 2, 3, 4, 5, 6, 7, 8] },
      family.setRoom 121 { family.room 121 with keyList := [1, 2, 3, 4, 5, 6, 7] },
      family.setRoom 120 { family.room 120 with ig := 141#8 }, family.setRoom 120 { family.room 120 with ig := 140#8 }].map (issueReply familyArea)) =
      [[9, 0x18, 0, 121], [0, 0x18, 1, 0], [0x0B, 0x18, 0, 120], [0, 0x18, 1, 0]] ∧
    issueReply (issueArea 3 0 [] 0 2005001 0 0 0 0 0) { family with cred := { family.cred with allowance := 1 } } = [0, 0x18, 1, 0] := by
  constructor <;> decide +kernel

/-- The clauses of CONFIRM_ENCODE: a key above the table, a LIVE and a FREE key, serial 0, a bound, a watched and a new serial. -/
theorem meets_ConfirmEncodeBindsThePendingKey :
    let s : State := { wing with cred := { wing.cred with watch := [{ serial := 77, untilMinute := 3000000, reason := .desk }] } }
    (∀ fs, (asking .desk .confirmEncode fs s).askedCm .desk .confirmEncode fs ∧ (asking .desk .confirmEncode fs s).tablesWf) ∧
    ([(2048, 5), (2047, 5), (140, 5), (150, 0), (150, 4100900), (150, 77), (150, 90)].map fun (n, x) =>
      status .confirmEncode .desk (asking .desk .confirmEncode (area [(2, n), (4, x)]) s)) =
      [some 5, some 0x0C, some 0x0C, some 5, some 0x0D, some 0x0E, some 0] ∧
    status .confirmEncode .desk (asking .desk .confirmEncode (area [(2, 150), (4, 90)]) (serviceIs .unprovisioned s)) = some 4 ∧
    offered .confirmEncode (asking .desk .confirmEncode (area [(2, 150), (4, 90)]) s) = [.keyEncoded 150 90] :=
  ⟨fun _ => ⟨asking_askedCm _ _ _ _ rfl rfl rfl rfl, asking_tablesWf _ _ _ _ (tablesWf_of_ok _ (by decide +kernel))⟩, by decide +kernel, by decide +kernel,
    by decide +kernel⟩

/-- CANCEL_KEY and REPORT_LOST of a key above the table, a FREE, a CANCELLED, a PENDING and a LIVE key. -/
theorem meets_CancelKeyAndReportLostEndTheKey :
    (∀ k fs, (asking .desk k fs wing).askedCm .desk k fs ∧ (asking .desk k fs wing).tablesWf) ∧
    ([2048, 2047, 151, 150, 140].map fun n => (reply .cancelKey .desk (asking .desk .cancelKey (area [(2, n)]) wing)).take 3) =
      [[5, 0x1A, 0], [0x0C, 0x1A, 0], [0x0C, 0x1A, 0], [0, 0x1A, 0], [0, 0x1A, 3]] ∧
    ([2048, 2047, 151, 150, 140].map fun n => (reply .reportLost .desk (asking .desk .reportLost (area [(2, n)]) wing)).take 9) =
      [[5, 0x1B, 0, 0, 0, 0, 0, 0, 0], [0x0C, 0x1B, 0, 0, 0, 0, 0, 0, 0], [0x0C, 0x1B, 0, 0, 0, 0, 0, 0, 0],
       [0, 0x1B, 3, 0, 2, 0, 0, 0, 0], [0, 0x1B, 3, 1, 0, 0, 0, 0, 0]] ∧
    offered .reportLost (asking .desk .reportLost (area [(2, 140)]) wing) =
      [.keyCancelled 140 .lost false, .watchChange (.added 4388190 2010580 .lost)] ∧
    (wing.key 140).any KeyRec.isActive = true ∧ (wing.key 151).any KeyRec.isActive = false :=
  ⟨fun _ _ => ⟨wing_askedCm _ _ _, asking_tablesWf _ _ _ _ wing_tablesWf⟩, by decide +kernel, by decide +kernel, by decide +kernel,
    by decide +kernel, by decide +kernel⟩

/-- The room of a cancelled key keeps its other keys in order, with ig by those left (R25); an evicting add names the serial. -/
theorem meets_left_lists_clauses :
    ([(Instr.cancelKey, ReqKind.cancelKey, area [(2, 140)]), (.reportLost, .reportLost, area [(2, 140)]),
      (.watchAdd, .watchAdd, area [(4, 4388190), (4, 2000001)])].map fun (i, k, fs) => (after i (asking .desk k fs wing)).room 37) =
      List.replicate 3 (wing.roomWithout 140 37) ∧
    (wing.roomWithout 140 37).keyList = [101, 102] ∧ (wing.roomWithout 140 37).ig = 255#8 := by
  refine ⟨?_, ?_, ?_⟩ <;> decide +kernel

/-- A full Watch List whose earliest entry, 2,000,100, stands at position 12 (the example of chapter 3). -/
def fullWatch : State :=
  { wing with
    clock := { wing.clock with minute := 2000010 }
    cred := { wing.cred with
      watch := (List.range 256).map fun n =>
        if n = 12 then { serial := 7730001, untilMinute := 2000100, reason := .desk }
        else { serial := 1000 + n, untilMinute := 2000120 + n, reason := .desk } } }

/-- The example: the earliest entry evicted for the lost card's, and the add refused for an until-minute not after it. -/
theorem test_lost_card_at_a_full_watch_list :
    let s := asking .desk .reportLost (area [(2, 140)]) fullWatch
    offered .reportLost s = [.keyCancelled 140 .lost false, .watchChange (.evicted 7730001 .desk), .watchChange (.added 4388190 2010580 .lost)] ∧
    ((after .reportLost s).cred.watch.length, (after .reportLost s).cred.watch.getLast?.map WatchEntry.serial) = (256, some 4388190) ∧
    ((after .reportLost s).cred.watch[12]?.map WatchEntry.serial) = some 1013 ∧
    (reply .reportLost .desk s).take 9 = [0, 0x1B, 3, 1, 0, 0, 0x75, 0xF3, 0x51] ∧
    (reply .watchAdd .desk (asking .desk .watchAdd (area [(4, 1), (4, 2000101)]) fullWatch)).take 7 = [0, 0x1D, 0, 0, 0x75, 0xF3, 0x51] := by
  decide +kernel

theorem meets_WatchAddAddsUpdatesOrEvicts :
    (∀ fs s, s = wing ∨ s = fullWatch → (asking .desk .watchAdd fs s).askedCm .desk .watchAdd fs) ∧ wing.tablesWf ∧ wing.serialsUnique ∧
    ([(1, 2000001), (0, 2000001), (1, 2000000), (4388190, 2000001)].map fun (x, u) =>
      (reply .watchAdd .desk (asking .desk .watchAdd (area [(4, x), (4, u)]) wing)).take 13) =
      [[0, 0x1D, 0, 0, 0x1E, 0x84, 0x81, 1, 255, 255, 0, 0, 0], [5, 0x1D, 0, 0, 0, 0, 0, 0, 0, 0, 0, 0, 0],
       [5, 0x1D, 0, 0, 0, 0, 0, 0, 0, 0, 0, 0, 0], [0, 0x1D, 0, 0, 0x1E, 0x84, 0x81, 0, 0, 140, 0, 0, 0]] ∧
    ([(1, 2000100), (1, 2000101), (1005, 2000050)].map fun (x, u) =>
      ((reply .watchAdd .desk (asking .desk .watchAdd (area [(4, x), (4, u)]) fullWatch)).take 3)) =
      [[0x0F, 0x1D, 0], [0, 0x1D, 0], [0, 0x1D, 1]] ∧
    (wing.cred.watch.map WatchEntry.serial).Nodup ∧ (fullWatch.cred.watch.map WatchEntry.serial).Nodup ∧
    256 ≤ fullWatch.cred.watch.length ∧
    ((fullWatch.cred.watch.take 12).all fun x => decide (2000100 < x.untilMinute)) = true ∧
    ((fullWatch.cred.watch.drop 13).all fun x => decide (2000100 ≤ x.untilMinute)) = true := by
  refine ⟨?_, wing_tablesWf, wing_serialsUnique, by decide +kernel, by decide +kernel, by decide +kernel, by decide +kernel,
    by decide +kernel, by decide +kernel, by decide +kernel⟩
  rintro fs s (rfl | rfl) <;> exact asking_askedCm _ _ _ _ rfl rfl rfl rfl

theorem meets_WatchRemoveTakesTheEntryOff :
    let w : List WatchEntry := [{ serial := 5, untilMinute := 3000000, reason := .lost }, { serial := 6, untilMinute := 3000001, reason := .desk },
      { serial := 8, untilMinute := 3000002, reason := .desk }]
    let s : State := { wing with cred := { wing.cred with watch := w } }
    (∀ fs, (asking .desk .watchRemove fs s).askedCm .desk .watchRemove fs) ∧
    (w = [{ serial := 5, untilMinute := 3000000, reason := .lost }] ++ { serial := 6, untilMinute := 3000001, reason := .desk } ::
      [{ serial := 8, untilMinute := 3000002, reason := .desk }]) ∧
    ([0, 7, 6].map fun x => status .watchRemove .desk (asking .desk .watchRemove (area [(4, x)]) s)) = [some 5, some 6, some 0] ∧
    status .watchRemove .desk (asking .desk .watchRemove (area [(4, 6)]) (serviceIs .unprovisioned s)) = some 4 ∧
    (after .watchRemove (asking .desk .watchRemove (area [(4, 6)]) s)).cred.watch.map WatchEntry.serial = [5, 8] := by
  refine ⟨fun _ => asking_askedCm _ _ _ _ rfl rfl rfl rfl, rfl, by decide +kernel, by decide +kernel, by decide +kernel⟩

/-- The sweep at the allowance: one not yet due, one due, and a pass that was pending. -/
def allowanceVisit (count deadline : Nat) (pendingPass : Bool) : State :=
  { wing with
    clock := { wing.clock with sweep := { position := some .allowance, pendingPass := pendingPass, passes := 65535 } }
    cred := { wing.cred with waiting := [.sweep], allowance := count, allowanceDeadline := deadline } }

theorem meets_EmergencyAllowanceIsGrantedAndWithdrawn :
    (∀ fs, (asking .audit .emergencyAllow fs wing).askedCm .audit .emergencyAllow fs) ∧
    ([(0, 0), (1, 1), (4, 60), (5, 61)].map fun (n, t) =>
      reply .emergencyAllow .audit (asking .audit .emergencyAllow (area [(1, n), (1, t)]) wing) |>.take 7) =
      [[0, 0x20, 1, 0, 0x1E, 0x84, 0x81], [0, 0x20, 1, 0, 0x1E, 0x84, 0x81], [0, 0x20, 4, 0, 0x1E, 0x84, 0xBC], [0, 0x20, 4, 0, 0x1E, 0x84, 0xBC]] ∧
    (∀ n d p, (allowanceVisit n d p).clock.sweep.position = some .allowance ∧ (allowanceVisit n d p).cmTakes .sweep = true) ∧
    ([(3, 2000001, false), (3, 2000000, true), (0, 0, false)].map fun (n, d, p) =>
      let t := after .sweepAllowanceVisit (allowanceVisit n d p)
      (t.cred.allowance, (offered .sweepAllowanceVisit (allowanceVisit n d p)).length, t.clock.sweep.position, t.clock.sweep.passes)) =
      [(3, 0, none, 0), (0, 1, some (.key 0), 0), (0, 0, none, 0)] :=
  ⟨fun _ => wing_askedCm _ _ _, by decide +kernel, fun _ _ _ => ⟨rfl, rfl⟩, by decide +kernel⟩
/-! ### Chapter 4 -/

/-- A presentation of the evening at room 212, its operation handed to the Credential Manager. -/
def card (door serial key stamp : Nat) : Card := { door := door, serial := serial, site := 4120, wing := 2, key := key, stamp := stamp }

/-- Key 140's card, key 102's and key 900's. -/
def card140 (door : Nat) : Card := card door 4388190 140 (1999900 % 65536)
def card102 (door : Nat) : Card := card door 4021338 102 (1999001 % 65536)
def card900 (door : Nat) : Card := card door 4100900 900 (1990000 % 65536)

/-- A state with a presentation operation waiting. -/
def presenting (c : Card) (s : State) : State := { asking .lock .present [] s with eval := { s.eval with op := some (.present c) } }

/-- The verdict and reason bytes of the reply, and the records offered. -/
def verdict (c : Card) (s : State) : List Nat × List RecBody :=
  (((reply .presentationOperation .lock (presenting c s)).drop 4).take 3, offered .presentationOperation (presenting c s))

/-- The rows of the example: the advance, the zone door inside and outside its hours, the staff key off and on its schedule. -/
theorem test_an_evening_at_room_212 :
    verdict (card140 74) wing = ([0, 0, 5], [.advance 37 140 255#8 0#8 0 2, .keyCancelled 101 .superseded false,
      .keyCancelled 102 .superseded false, .grant 74 (.room 37) 140 .guest 4388190 5 true none none 0]) ∧
    (verdict (card140 210) (at_ 2000010 0 wing)).1 = [0, 0, 6] ∧ (verdict (card140 210) (at_ 2000050 0 wing)).1 = [1, 0x15, 0] ∧
    (verdict (card900 74) (at_ 2000010 20 wing)).1 = [1, 0x13, 0] ∧ (verdict (card900 74) (at_ 2000060 0 wing)).1 = [0, 0, 5] := by
  refine ⟨?_, ?_, ?_, ?_, ?_⟩ <;> decide +kernel

theorem meets_PresentHandsTheCardToTheChecks :
    (∀ fs, (asking .lock .present fs wing).askedEval .lock .present fs) ∧
    (after .present (asking .lock .present (area [(2, 74), (4, 4388190), (2, 4120), (1, 2), (2, 140), (2, 33820)]) wing)).eval.op =
      some (.present (card 74 4388190 140 33820)) ∧
    (∀ c, (presenting c wing).powered = true ∧ (presenting c wing).cred.op = none ∧ (presenting c wing).eval.op = some (.present c)) ∧
    (∃ k, (presenting (card140 74) wing).decision (card140 74) = .grant k) ∧
    (presenting (card140 75) wing).decision (card140 75) = .session 37 .guest ∧
    (presenting (card140 768) wing).decision (card140 768) = .deny .doorDisabled .notRead :=
  ⟨fun _ => wing_askedEval _ _ _, by decide +kernel, fun _ => ⟨rfl, rfl, rfl⟩, ⟨_, rfl⟩, by decide +kernel, by decide +kernel⟩

/-- Each check of the chain failing alone: service, door, site, Watch List, key number, FREE key, stamp, state, serial, window. -/
theorem meets_PresentationChecksAreMadeInOrder :
    let watched : State := { wing with cred := { wing.cred with watch := [{ serial := 4388190, untilMinute := 3000000, reason := .lost }] } }
    ([(card140 74, serviceIs .configuring wing), (card140 767, wing), ({ card140 74 with wing := 3 }, wing), (card140 74, watched),
      (card 74 5 2048 0, wing), (card 74 5 2047 0, wing), (card 74 4388190 140 1, wing), (card 74 5 150 (1999995 % 65536), wing),
      (card 74 90 151 (1998000 % 65536), wing), (card 74 5 140 (1999900 % 65536), wing), (card140 74, at_ 1999899 0 wing),
      (card140 74, at_ 2000560 0 wing), (card140 75, at_ 2000500 0 wing)].map fun (c, s) => s.decision c) =
      [.deny .notInService .notRead, .deny .doorDisabled .notRead, .deny .wrongSite .notRead, .deny .revoked .notRead,
       .deny .unknownKey .notRead, .deny .unknownKey .free, .deny .staleCard .live, .deny .notEncoded .pending,
       .deny .desk .cancelled, .deny .staleCard .live, .deny .notYet .live, .deny .expired .live, .deny .stayEnded .live] ∧
    (wing.door 74).place = .room 37 ∧ (wing.door 210).place = .zone ∧ (wing.door 75).place = .minibar 37 := by
  refine ⟨?_, rfl, rfl, rfl⟩
  decide +kernel

/-- The end that holds at each kind of door: the stay's end or the key's, with the grace at ROOM doors alone. -/
theorem meets_effective_end_clauses :
    let k := fun (stop : Nat) => aKey (.live 1) (.guest [{ room := 37, gen := 0#8 }] 8#16 true) 0 0 stop
    let staff := aKey (.live 1) (.staff 12#16 4 true) 0 0 77
    (wing.settings.grace = 60 ∧ (wing.room 37).stay.map Stay.stayEnd = some 2000500 ∧ (k 9).genFor 37 ≠ none ∧ (k 9).genFor 36 = none) ∧
    ([74, 75, 210].map fun d => [2000499, 2000501].map fun n => (wing.effectiveEnd (k n) (wing.door d), endReason (k n) (wing.door d))) =
      [[(2000559, .expired), (2000560, .expired)], [(2000499, .stayEnded), (2000500, .stayEnded)],
       [(2000499, .expired), (2000501, .expired)]] ∧
    ([74, 75, 210].map fun d => (wing.effectiveEnd staff (wing.door d), endReason staff (wing.door d))) = List.replicate 3 (77, .expired) := by
  refine ⟨?_, ?_, ?_⟩ <;> decide +kernel

/-- The pool gate with the memory of the fouled card's first try, at stamp 120,001,258. -/
def poolGate (minute second : Nat) : State :=
  at_ minute second (wing.setDoor 210 { wing.door 210 with
    memory := some { serial := 4388191, reason := .staleCard, stamp := 120001258 }, repeats := 3 })

/-- The example of coalescing: 3 seconds later it coalesces, 4 seconds later it does not, and a grant clears the memory. -/
theorem test_a_fouled_card_at_the_pool_gate :
    let fouled : Card := { card140 210 with serial := 4388191 }
    verdict fouled (poolGate 2000021 1) = ([1, 6, 0], []) ∧
    verdict fouled (poolGate 2000021 2) = ([1, 6, 0], [.deny 210 4388191 140 33820 .staleCard .live 3]) ∧
    ((after .presentationOperation (presenting fouled (poolGate 2000021 1))).door 210).repeats = 4 ∧
    ((after .presentationOperation (presenting fouled (poolGate 2000020 57))).door 210).repeats = 0 ∧
    ((after .presentationOperation (presenting (card140 210) (poolGate 2000021 8))).door 210).memory = none := by
  refine ⟨?_, ?_, ?_, ?_, ?_⟩ <;> decide +kernel

/-- The clauses of a denial: coalesced at 0 and 3 seconds, not at 4 or before the memory, REVOKED with a watch hit behind another
entry, and a door number of 768. -/
theorem meets_VerdictsAreJournalledAndCoalesced :
    let d := (poolGate 2000021 1).door 210
    let again := fun stamp => d.memory.any fun m => decide (DenyReason.staleCard ≠ .revoked ∧ m.serial = 4388191 ∧ m.reason = .staleCard ∧
      m.stamp ≤ stamp ∧ stamp ≤ m.stamp + 3)
    ([120001257, 120001258, 120001261, 120001262].map again = [false, true, true, false]) ∧
    (let w : List WatchEntry := [{ serial := 5, untilMinute := 3000000, reason := .lost }, { serial := 4388190, untilMinute := 3000001, reason := .desk }]
     w = [{ serial := 5, untilMinute := 3000000, reason := .lost }] ++ { serial := 4388190, untilMinute := 3000001, reason := .desk } :: [] ∧
     (card140 74).door < 768 ∧
     offered .presentationOperation (presenting (card140 74) { wing with cred := { wing.cred with watch := w } }) =
       [.deny 74 4388190 140 (1999900 % 65536) .revoked .notRead 0, .security (.watchHit 74 4388190 140 .desk 3000001 0)]) ∧
    768 ≤ (card140 768).door ∧ (verdict (card140 768) wing).2 = [.deny 768 4388190 140 (1999900 % 65536) .doorDisabled .notRead 0] := by
  refine ⟨?_, ⟨rfl, ?_, ?_⟩, ?_, ?_⟩ <;> decide +kernel

/-- A generation 1, 127, 128 and 0 ahead of the room's; a key with 2 uses and one with 1. -/
theorem meets_GrantedKeyHasItsEffectFirst :
    let k := fun (g : Nat) => aKey (.live 1) (.guest [{ room := 37, gen := BitVec.ofNat 8 g }] 0#16 false) 0 0 2000500
    ([256, 382, 383, 255].map fun g => (((k g).genFor 37).getD 0#8 - (wing.room 37).cg).toNat) = [1, 127, 128, 0] ∧
    ([256, 382, 383, 255].map fun g => ((wing.grantKey (card140 74) (k g)).room 37).cg) = [0#8, 126#8, 255#8, 255#8] ∧
    (∀ room, (wing.door 210).place ≠ .room room) ∧
    ([2, 1].map fun u => ((wing.grantKey (card 74 1 500 0) (aKey (.live 1) (.service 4#16 u) 0 0 2000500)).key 500).map KeyRec.status) =
      [some (.live 1), some (.cancelled .usedUp 2000000 (some 1))] := by
  refine ⟨?_, ?_, ?_, ?_⟩
  · decide +kernel
  · decide +kernel
  · intro r h; cases h
  · decide +kernel

/-- The advance of the example: two keys behind, each with this room as its only one, and none left with another. -/
theorem meets_AdvanceDropsTheKeysBehind : wing.tablesWf ∧ wing.listsMatchKeys ∧
    ((wing.room 37).keyList.filter fun n => decide (n ≠ 140 ∧ 127 < (wing.listedGen 37 n - 0#8).toNat)) = [101, 102] ∧
    ((wing.advance 37 140 0#8).room 37).keyList = [140] ∧
    (leaving.advance 37 160 1#8).key 150 = some (aKey (.live 2) (.guest [{ room := 38, gen := 5#8 }] 0#16 false) 0 0 2003000) :=
  ⟨wing_tablesWf, wing_listsMatchKeys, by decide +kernel, by decide +kernel, by decide +kernel⟩

/-- A session-open waiting at the Minibar Accounting Unit. -/
def sessionAsked (kind : SessionKind) (s : State) : State :=
  { asking .lock .present [] s with eval := { s.eval with op := some (.sessionOpen (card140 75) 37 kind 2000000 30) } }

/-- A tally closed, at its limit, one below it; a RESTOCK at the limit; the session kept; a pool of 31 and of 32. -/
theorem meets_SessionOpenIsAnsweredByItsFirstCase :
    let tally := fun (x : Bool) (n : Nat) => wing.setTally 37 { wing.tally 37 with isOpen := x, tally := n }
    let pool := fun (n : Nat) => { wing with mini := { wing.mini with
      sessions := (List.range n).map fun i => (i + 100, some { kind := SessionKind.guest, room := 1, key := 1, opened := 1, active := 1, lines := [] }) } }
    (∀ k s, s.powered = true → (sessionAsked k s).powered = true ∧ (sessionAsked k s).eval.op = some (.sessionOpen (card140 75) 37 k 2000000 30)) ∧
    ([sessionAsked .guest (tally false 0), sessionAsked .guest (tally true 10000), sessionAsked .guest (tally true 9999),
      sessionAsked .restock (tally true 10000), sessionAsked .guest evening, sessionAsked .guest (pool 31), sessionAsked .guest (pool 32)].map
        fun s => (((reply .sessionOpen .lock s).drop 4).take 3, (offered .sessionOpen s).length)) =
      [([1, 0x0F, 0], 1), ([1, 0x17, 0], 1), ([0, 0, 8], 2), ([0, 0, 8], 2), ([0, 0, 8], 1), ([0, 0, 8], 2), ([1, 0x18, 0], 1)] := by
  refine ⟨?_, ?_⟩
  · intro k s h; exact ⟨by cases k <;> exact h, rfl⟩
  · decide +kernel

/-- The wing with a door's condition set. -/
def conditionIs (n : Nat) (x : Condition) : State := wing.setDoor n { wing.door n with condition := x, repeats := 2 }

theorem meets_DoorAndPrivacyReportsActOnTheDoor :
    (∀ fs s, s = wing ∨ (∃ n x, s = conditionIs n x) → (asking .lock .doorReport fs s).askedEval .lock .doorReport fs) ∧
    ([(Instr.doorReportClosed, 0), (.doorReportHeldOpen, 1), (.doorReportForced, 2)].map fun (i, c) =>
      [Condition.closed, .heldOpen, .forced].map fun x =>
        let s := asking .lock .doorReport (area [(2, 74), (1, c)]) (conditionIs 74 x)
        ((reply i .lock s).getD 2 9, (offered i s).length)) =
      [[(0, 0), (0, 1), (0, 1)], [(1, 1), (1, 0), (2, 0)], [(2, 1), (2, 1), (2, 0)]] ∧
    ([(Instr.doorReportClosed, 0), (.doorReportHeldOpen, 1), (.doorReportForced, 2), (.doorReportPrivacyOn, 3), (.doorReportPrivacyOff, 4)].map
      fun (i, c) => [767, 768].map fun n => status i .lock (asking .lock .doorReport (area [(2, n), (1, c)]) wing)) =
      [[some 0, some 5], [some 0, some 5], [some 0, some 5], [some 0, some 5], [some 0, some 5]] := by
  refine ⟨?_, ?_, ?_⟩
  · rintro fs s (rfl | ⟨n, x, rfl⟩) <;> exact asking_askedEval _ _ _ _ rfl rfl rfl
  · decide +kernel
  · decide +kernel

/-- A privacy report from an enabled ROOM door, a ZONE door and a disabled ROOM door; the privacy operation. -/
theorem meets_privacy_clauses :
    let s := fun fs t => asking .lock .doorReport fs t
    (after .doorReportPrivacyOn (s (area [(2, 74), (1, 3)]) wing)).eval.op = some (.privacy 74 37 true) ∧
    (after .doorReportPrivacyOff (s (area [(2, 74), (1, 4)]) wing)).eval.op = some (.privacy 74 37 false) ∧
    reply .doorReportPrivacyOn .lock (s (area [(2, 210), (1, 3)]) wing) = [0, 0x29, 0, 1] ++ List.replicate 11 0 ∧
    reply .doorReportPrivacyOn .lock (s (area [(2, 74), (1, 3)]) (wing.setDoor 74 { wing.door 74 with enabled := false })) =
      [0, 0x29, 0, 1] ++ List.replicate 11 0 ∧
    ((after .privacyOperation { wing with eval := { wing.eval with op := some (.privacy 74 37 true) } }).room 37).privacy = true := by
  refine ⟨?_, ?_, ?_, ?_, ?_⟩ <;> decide +kernel

/-- A DOOR_REPORT of report code 5, taken by any of its five commands. -/
theorem meets_door_report_unknown_code :
    ([Instr.doorReportClosed, .doorReportHeldOpen, .doorReportForced, .doorReportPrivacyOn, .doorReportPrivacyOff].map fun i =>
      status i .lock (asking .lock .doorReport (area [(2, 74), (1, 5)]) wing)) = List.replicate 5 (some 5) := by
  decide +kernel

/-- The field area of a DOOR_SET. -/
def doorArea (door kind room zone enabled unlock : Nat) : List Byte :=
  area [(2, door), (1, kind), (2, room), (1, zone), (1, enabled), (1, unlock)]

/-- The fields refused, at the values either side; the conflict; the release, the assignment, the session-close, the plain write. -/
theorem meets_DoorSetAndItsMinibarPart :
    (∀ fs s, s = wing ∨ s = evening → (asking .desk .doorSet fs s).askedEval .desk .doorSet fs) ∧ wing.tablesWf ∧
    ([doorArea 767 0 511 15 1 30, doorArea 768 0 511 15 1 30, doorArea 767 3 511 15 1 30, doorArea 767 0 512 15 1 30,
      doorArea 767 1 512 15 1 30, doorArea 767 0 511 16 1 30, doorArea 767 0 511 15 2 30, doorArea 767 2 37 0 1 0].map fun fs =>
        status .doorSet .desk (asking .desk .doorSet fs wing)) =
      [some 0, some 5, some 5, some 5, some 0, some 5, some 5, some 0x17] ∧
    status .doorSet .desk (asking .desk .doorSet [] (serviceIs .unprovisioned wing)) = some 4 ∧
    ([(doorArea 75 0 37 2 1 8, wing), (doorArea 75 2 38 2 1 8, wing), (doorArea 75 2 37 2 0 8, evening), (doorArea 75 2 37 2 1 8, evening),
      (doorArea 75 2 37 2 0 8, wing), (doorArea 74 2 38 2 1 8, wing)].map fun (fs, s) => (after .doorSet (asking .desk .doorSet fs s)).eval.op) =
      [some (.doorRelease { door := 75, place := .room 37, zone := 2, enabled := true, unlock := 8 } 37),
       some (.doorRelease { door := 75, place := .minibar 38, zone := 2, enabled := true, unlock := 8 } 37),
       some (.doorClose { door := 75, place := .minibar 37, zone := 2, enabled := false, unlock := 8 }), none, none,
       some (.doorAssign { door := 74, place := .minibar 38, zone := 2, enabled := true, unlock := 8 } 38)] := by
  refine ⟨?_, wing_tablesWf, ?_, ?_, ?_⟩
  · rintro fs s (rfl | rfl) <;> exact asking_askedEval _ _ _ _ rfl rfl rfl
  all_goals decide +kernel

/-- The Minibar Accounting Unit's part: a release with and without a session, to a ROOM and to another room's MINIBAR; an
assignment; a session-close with and without a session. -/
theorem meets_doorSet_minibar_clauses :
    let d : DoorSet := { door := 75, place := .room 37, zone := 2, enabled := true, unlock := 8 }
    let go := fun (o : EvalOp) (s : State) => { asking .desk .doorSet [] s with eval := { s.eval with op := some o } }
    ([go (.doorRelease d 37) evening, go (.doorRelease d 37) wing, go (.doorRelease { d with place := .minibar 38 } 37) wing].map fun s =>
      (status .minibarRelease .desk s, (after .minibarRelease s).eval.op, ((after .minibarRelease s).tally 37).door)) =
      [(some 0x16, none, some 75), (some 0, none, none), (none, some (.doorAssign { d with place := .minibar 38 } 38), none)] ∧
    ((after .minibarDoorAssignment (go (.doorAssign { d with place := .minibar 38 } 38) wing)).tally 38).door = some 75 ∧
    ([evening, wing].map fun s => (offered .doorSetSessionClose (go (.doorClose d) s)).length) = [1, 0] := by
  refine ⟨?_, ?_, ?_⟩ <;> decide +kernel
/-! ### Chapter 5 -/

/-- A take or a return at the minibar door. -/
def report (k : ReqKind) (item count : Nat) (s : State) : State := asking .lock k (area [(2, 75), (1, item), (1, count)]) s
def taken (item count : Nat) (s : State) : State := after .minibarTake (report .minibarTake item count s)
def returned (item count : Nat) (s : State) : State := after .minibarReturn (report .minibarReturn item count s)

/-- Lines, tally and records of the session after a step. -/
def lines (s : State) : List (Nat × Nat × Nat) := ((s.session 75).elim [] Session.lines).map fun x => (x.item, x.count, x.amount)

/-- Tally, and lines of the session, after a step. -/
def account (s : State) : Nat × List (Nat × Nat × Nat) := ((s.tally 37).tally, lines s)

/-- The evening with the tally and lines of a row of the example. -/
def row (n rate : Nat) (ls : List (Nat × Nat × Nat)) : State :=
  let s := evening.setTally 37 { evening.tally 37 with tally := n }
  let t : State := { s with mini := { s.mini with rate := rate } }
  t.setSession 75
    ((evening.session 75).map fun x => { x with lines := ls.map fun p => { item := p.1, count := p.2.1, amount := p.2.2 } })

/-- The family minibar evening, row by row. -/
theorem test_a_family_minibar_evening :
    account (taken 4 2 evening) = (9713, [(4, 2, 1013)]) ∧
    account (taken 9 1 (row 9713 125 [(4, 2, 1013)])) = (10107, [(4, 2, 1013), (9, 1, 394)]) ∧
    account (returned 4 1 (row 10107 125 [(4, 2, 1013), (9, 1, 394)])) = (9601, [(4, 1, 507), (9, 1, 394)]) ∧
    account (taken 4 1 (row 9601 200 [(4, 1, 507), (9, 1, 394)])) = (10141, [(4, 2, 1047), (9, 1, 394)]) ∧
    account (returned 4 2 (row 10141 200 [(4, 2, 1047), (9, 1, 394)])) = (9094, [(9, 1, 394)]) := by
  refine ⟨?_, ?_, ?_, ?_, ?_⟩ <;> decide +kernel

/-- CROSSED with its notice at the crossing alone. -/
theorem test_credit_reached :
    offered .minibarTake (report .minibarTake 9 1 (row 9713 125 [])) = [.charge 75 37 9 1 350 125 394 9713 false false false true (some 140)] ∧
    maskHas (taken 9 1 (row 9713 125 [])).desk.notices 4 = true ∧ maskHas (taken 4 2 evening).desk.notices 4 = false := by
  refine ⟨?_, ?_, ?_⟩ <;> decide +kernel

/-- The wing with a RESTOCK session at the minibar door. -/
def restocking : State := wing.setSession 75 (some { kind := .restock, room := 37, key := 412, opened := 1, active := 1, lines := [] })

/-- The clauses of a take: fields at either side of their bounds, a door no tally names, a count of 0; without a session, in a
RESTOCK session, in a GUEST session after the stay, and with a line count of 255 and 256, a place for a line and none. -/
theorem meets_TakeIsClassifiedAndCharged : (∀ fs, (asking .lock .minibarTake fs wing).asked .lock .minibarTake fs) ∧
    wing.tablesWf ∧ tablesOk evening = true ∧ wing.roomOfDoor 75 = some 37 ∧ wing.roomOfDoor 74 = none ∧
    ([(767, 31, 1), (768, 31, 1), (75, 32, 1), (74, 31, 16), (75, 31, 15), (75, 31, 16), (75, 31, 0)].map fun (d, i, n) =>
      (reply .minibarTake .lock (asking .lock .minibarTake (area [(2, d), (1, i), (1, n)]) wing)).take 3) =
      [[6, 0x30, 0], [5, 0x30, 0], [5, 0x30, 0], [6, 0x30, 0], [0, 0x30, 3], [5, 0x30, 0], [0, 0x30, 0]] ∧
    ([wing, at_ 2000500 0 wing, restocking, at_ 2000500 0 evening].map fun s => ((reply .minibarTake .lock (report .minibarTake 4 1 s)).getD 2 9)) =
      [3, 2, 1, 2] ∧
    lines (taken 4 1 (row 0 0 [(4, 254, 5)])) = [(4, 255, 455)] ∧ lines (taken 4 1 (row 0 0 [(4, 255, 5)])) = [(4, 255, 5)] ∧
    (lines (taken 4 1 (row 0 0 ((List.range 7).map fun i => (i + 10, 1, 1))))).length = 8 ∧
    lines (taken 4 1 (row 0 0 ((List.range 8).map fun i => (i + 10, 1, 1)))) = (List.range 8).map fun i => (i + 10, 1, 1) := by
  refine ⟨fun _ => wing_asked _ _ _, wing_tablesWf, ?_, ?_, ?_, ?_, ?_, ?_, ?_, ?_, ?_⟩ <;> decide +kernel

/-- The clauses of a return; a return of more than the line holds is held to it. -/
theorem meets_ReturnIsRefundedFromTheLine : (∀ fs, (asking .lock .minibarReturn fs wing).asked .lock .minibarReturn fs) ∧
    wing.tablesWf ∧ tablesOk evening = true ∧ wing.roomOfDoor 75 = some 37 ∧
    ([(767, 31, 1), (768, 31, 1), (75, 32, 1), (75, 31, 15), (75, 31, 16), (75, 31, 0)].map fun (d, i, n) =>
      (reply .minibarReturn .lock (asking .lock .minibarReturn (area [(2, d), (1, i), (1, n)]) wing)).take 3) =
      [[6, 0x31, 0], [5, 0x31, 0], [5, 0x31, 0], [0, 0x31, 3], [5, 0x31, 0], [0, 0x31, 0]] ∧
    ([wing, restocking, evening, row 100 0 [(9, 1, 1), (4, 2, 1013)]].map fun s =>
      ((reply .minibarReturn .lock (report .minibarReturn 4 3 s)).drop 2).take 2) = [[3, 0], [1, 0], [3, 0], [2, 2]] ∧
    account (returned 4 3 (row 100 0 [(9, 1, 1), (4, 2, 1013)])) = (0, [(9, 1, 1)]) := by
  refine ⟨fun _ => wing_asked _ _ _, wing_tablesWf, ?_, ?_, ?_, ?_, ?_⟩ <;> decide +kernel

/-- The evening at the moment of an idle test, its session last active `ago` seconds before. -/
def idling (ago : Nat) : State := { at_ 2000020 0 evening with mini := { (at_ 2000020 0 evening).mini with
    idleDue := 1, sessions := [(75, (evening.session 75).map fun x => { x with active := 120001200 - ago })] } }

/-- MINIBAR_SHUT at the bounds of the door number, with and without a session; an idle test one second before the timeout, at
it, and with a stamp that lies ahead. -/
theorem meets_SessionsCloseOnShutAndOnIdle : (∀ fs, (asking .lock .minibarShut fs wing).asked .lock .minibarShut fs) ∧
    ([(75, evening), (75, wing), (767, wing), (768, wing)].map fun (d, s) =>
      (reply .minibarShut .lock (asking .lock .minibarShut (area [(2, d)]) s)).take 3) = [[0, 0x32, 0], [0, 0x32, 1], [6, 0x32, 0], [5, 0x32, 0]] ∧
    offered .minibarShut (asking .lock .minibarShut (area [(2, 75)]) evening) = [.sessionClose 75 37 .guest 140 120000030 .shut 0 0] ∧
    (idling 299).powered = true ∧ 0 < (idling 299).mini.idleDue ∧ tablesOk (idling 299) = true ∧
    ([299, 300].map fun n => (((after .idleTest (idling n)).session 75).map Session.active, (offered .idleTest (idling n)).length)) =
      [(some 120000901, 0), (none, 1)] ∧
    (after .idleTest (at_ 1 0 (idling 0))).session 75 = (evening.session 75).map fun x => { x with active := 60 } := by
  refine ⟨fun _ => wing_asked _ _ _, ?_, ?_, ?_, ?_, ?_, ?_, ?_⟩ <;> decide +kernel

/-- Item 31 and 32, a rate of 250 and 251, the lock, a limit above the greatest, a room above the table, a closed tally. -/
theorem meets_TariffAndCreditAreWrittenOrRefused : (∀ l k fs, (asking l k fs wing).asked l k fs) ∧
    ([31, 32].map fun i => status .priceSet .desk (asking .desk .priceSet (area [(1, i), (2, 65535)]) wing)) = [some 0, some 5] ∧
    ([250, 251].map fun r => (after .rateSet (asking .desk .rateSet (area [(1, r)]) wing)).mini.rate) = [250, 250] ∧
    status .rateSet .desk (asking .desk .rateSet [] (after .tariffLock (asking .audit .tariffLock [] wing))) = some 0x11 ∧
    ([(37, 10000000), (512, 1), (36, 1)].map fun (r, n) => (reply .creditSet .desk (asking .desk .creditSet (area [(2, r), (3, n)]) wing)).take 5) =
      [[0, 0x37, 0x98, 0x96, 0x7F], [5, 0x37, 0, 0, 0], [0x0A, 0x37, 0, 0, 0]] ∧
    ([31, 32].map fun i => status (.tariffQuery .audit) .audit (asking .audit .tariffQuery (area [(1, i)]) wing)) = [some 0, some 5] ∧
    ([(511, 7), (512, 0), (37, 8)].map fun (r, n) => status (.tallyQuery .desk) .desk (asking .desk .tallyQuery (area [(2, r), (1, n)]) evening)) =
      [some 0, some 5, some 5] := by
  refine ⟨fun _ _ _ => wing_asked _ _ _, ?_, ?_, ?_, ?_, ?_, ?_⟩ <;> decide +kernel
/-! ### Chapter 6 -/

/-- The fields of an entry of the coach example, for a room of the wing. -/
def entryFor (rooms : List Nat) (copies : Nat) (checksIn : Bool) : GroupFields :=
  { mode := if checksIn then .checkinIssue 2104320 8000 else .issueOnly, rooms := rooms, copies := copies, gen := .new
    keyStart := 0, keyEnd := 0, zones := 0x28#16, minibar := true }

/-- The wing with one loaded entry and the queue in a state. -/
def queue (state : GroupState) (phase : GroupPhase) (n : Nat) (f : GroupFields) (checkedIn : Bool) (issued : Nat) : State :=
  { wing with
    group := { wing.group with
      entries := [(n, { fields := some f, checkedIn := checkedIn, issued := issued })], state := state, first := 4, last := 7, next := n
      startTag := some 21#8, phase := phase } }

/-- A state with 15 replies queued at the Desk. -/
def fullDesk (s : State) : State := { s with desk := { s.desk with replies := List.replicate 15 (List.replicate 16 0#8) } }

/-- The field area of a GROUP_LOAD. -/
def loadArea (entry mode : Nat) (rooms : List Nat) (copies gen minibar : Nat) : List Byte :=
  area ([(1, entry), (1, mode), (1, rooms.length)] ++ (rooms ++ List.replicate (4 - rooms.length) 0).map (fun r => (2, r)) ++
    [(4, 2104320), (3, 8000), (1, copies), (1, gen), (4, 0), (4, 0), (2, 0x28), (1, minibar)])

/-- A load at entry 15 and 16, of fields that are refused, at the entry worked and at another; a point and a query at 15 and 16. -/
theorem meets_GroupEntriesAreLoadedAndPointed : (∀ l k fs, (asking l k fs wing).asked l k fs) ∧
    (groupFieldsOf (loadArea 15 0 [60, 61] 3 0 1)).isSome = true ∧ groupFieldsOf (loadArea 15 2 [60] 3 0 1) = none ∧
    ([loadArea 15 0 [60, 61] 3 0 1, loadArea 16 0 [60, 61] 3 0 1, loadArea 15 2 [60] 3 0 1, loadArea 15 0 [] 3 0 1].map fun fs =>
      status .groupLoad .desk (asking .desk .groupLoad fs wing)) = [some 0, some 5, some 5, some 5] ∧
    ([4, 5].map fun n => status .groupLoad .desk (asking .desk .groupLoad (loadArea n 0 [60] 3 0 1) (queue .running .checkinHanded 4 (entryFor [60] 3 true) false 0))) =
      [some 0x14, some 0] ∧
    ([(15, 15), (16, 0), (0, 16)].map fun (a, b) => status .groupPoint .desk (asking .desk .groupPoint (area [(1, a), (1, b)]) wing)) =
      [some 0, some 5, some 5] ∧
    (after .groupPoint (asking .desk .groupPoint (area [(1, 4), (1, 7)]) (queue .stopped .rest 4 (entryFor [60] 3 true) false 0))).group.redirect = true ∧
    ([15, 16].map fun n => status (.groupQuery .audit) .audit (asking .audit .groupQuery (area [(1, n)]) wing)) = [some 0, some 5] := by
  refine ⟨fun _ _ _ => wing_asked _ _ _, ?_, ?_, ?_, ?_, ?_, ?_, ?_⟩ <;> decide +kernel

/-- The fields of an entry at their bounds: 7 and 8 copies, modes 1 and 2, minibar rights 1 and 2, rooms 511 and 512, a room
twice, 4 and 5 rooms; a stay end of 0 in either mode. -/
theorem meets_group_fields_clauses :
    ([loadArea 0 0 [511] 7 1 1, loadArea 0 0 [511] 8 1 1, loadArea 0 0 [512] 7 1 1, loadArea 0 0 [5, 5] 7 1 1, loadArea 0 0 [5] 7 2 1,
      loadArea 0 0 [5] 7 1 2, loadArea 0 1 [1, 2, 3, 4] 0 0 0, loadArea 0 1 [1, 2, 3, 4, 5] 0 0 0].map fun fs => (groupFieldsOf fs).isSome) =
      [true, false, false, false, false, false, true, false] ∧
    ([0, 1].map fun mode => (groupFieldsOf (area [(1, 0), (1, mode), (1, 1), (2, 5), (2, 0), (2, 0), (2, 0), (4, 0), (3, 10000000)])).map GroupFields.mode) =
      [none, some .issueOnly] ∧
    ((groupFieldsOf (area [(1, 0), (1, 0), (1, 1), (2, 5), (2, 0), (2, 0), (2, 0), (4, 7), (3, 10000000)])).map GroupFields.mode) =
      some (.checkinIssue 7 9999999) := by
  refine ⟨?_, ?_, ?_⟩ <;> decide +kernel

/-- A start outside IN_SERVICE, during a run, from STOPPED and from IDLE; each test of a run. -/
theorem meets_GroupStartBeginsTheRunAndItsTests :
    (∀ s, s = wing ∨ (∃ x p n f c m, s = queue x p n f c m) → (asking .desk .groupStart [] s).asked .desk .groupStart []) ∧
    ([serviceIs .configuring wing, queue .running .waiting 4 (entryFor [60] 3 true) true 0, queue .halting .boundary 4 (entryFor [60] 3 true) true 0,
      queue .stopped .rest 4 (entryFor [60] 3 true) false 0, queue .idle .rest 4 (entryFor [60] 3 true) true 2].map fun s =>
        let t := after .groupStart (asking .desk .groupStart [] s)
        (status .groupStart .desk (asking .desk .groupStart [] s), t.group.phase, (t.entry 4).checkedIn)) =
      [(some 3, .rest, false), (some 0x15, .waiting, true), (some 0x15, .boundary, true), (some 0, .checkinHanded, false),
       (some 0, .checkinHanded, false)] ∧
    ([queue .running .rest 4 (entryFor [60] 3 true) false 0, queue .running .rest 4 (entryFor [60] 3 true) true 2,
      queue .running .rest 4 (entryFor [60] 3 true) true 3, queue .running .rest 4 (entryFor [60] 0 false) false 7,
      queue .running .rest 4 (entryFor [60] 0 false) false 8,
      { queue .running .rest 4 (entryFor [60] 3 true) true 2 with desk := sixteenReplies }].map fun s => s.groupRun.group.phase) =
      [.checkinHanded, .issueHanded true, .boundary, .issueHanded true, .boundary, .waiting] ∧
    (wing.groupRun.group.stop = some (.refusal .noSuch none)) ∧
    ((serviceIs .configuring (queue .running .rest 4 (entryFor [60] 3 true) true 2)).groupRun.group.stop = some (.refusal .notInService none)) ∧
    ((queue .running .waiting 4 (entryFor [60] 3 true) true 2).placesTaken .desk < 16) := by
  refine ⟨?_, ?_, ?_, ?_, ?_, ?_⟩
  · rintro s (rfl | ⟨x, p, n, f, c, m, rfl⟩) <;> exact asking_asked _ _ _ _ rfl rfl
  all_goals decide +kernel

/-- A step handed to the Credential Manager. -/
def stepping (phase : GroupPhase) (rooms : List Nat) (checksIn checkedIn : Bool) (issued : Nat) : State :=
  let s := queue .running phase 4 (entryFor rooms 3 checksIn) checkedIn issued
  { s with cred := { s.cred with waiting := [.group] } }

/-- A check-in step that passes, and one whose second room fails; an issue step that is refused, the first copy, and the second
after a Desk link reset took its place. -/
theorem meets_GroupStepsCheckInAndIssue :
    (∀ p r a b n, (stepping p r a b n).cmTakes .group = true ∧ ((stepping p r a b n).entry (stepping p r a b n).group.next).fields = some (entryFor r 3 a)) ∧
    ((stepping .checkinHanded [60, 37] true false 0).checkInRefusal 60 2104320 = none ∧
      (stepping .checkinHanded [60, 37] true false 0).checkInRefusal 37 2104320 = some .roomState) ∧
    (after .groupCheckinStep (stepping .checkinHanded [60, 37] true false 0)).group.stop = some (.refusal .roomState (some 37)) ∧
    (after .groupCheckinStep (stepping .checkinHanded [60, 61] true false 0)).cred.op.isSome = true ∧
    (after .groupIssueStep (stepping (.issueHanded true) [37, 60] false false 0)).group.stop = some (.refusal .roomState (some 60)) ∧
    (let t := after .groupIssueStep (stepping (.issueHanded true) [37] false false 0)
     (t.desk.replies.map fun r => r.take 5, (t.entry 4).issued, (t.room 37).keyList, (t.room 37).ig) =
       ([[21#8, 0#8, 0x4F#8, 4#8, 1#8]], 1, [101, 102, 140, 0], 1#8)) ∧
    (let t := after .groupIssueStep (stepping (.issueHanded false) [37] false false 1)
     (t.desk.replies, (t.entry 4).issued, (t.room 37).ig) = ([], 2, 0#8)) := by
  refine ⟨fun _ _ _ _ _ => ⟨rfl, rfl⟩, ?_, ?_, ?_, ?_, ?_, ?_⟩ <;> decide +kernel

/-- A Desk reply of which `rest` waits to be placed. -/
def placingDesk (rest : List Reply) (s : State) : State :=
  { s with desk := { s.desk with
      inProgress := some { tag := 1#8, kind := .timeQuery, fields := [], phase := .placing rest, discard := false } } }

/-- An issue step while a Desk reply of two records is being placed: the card image waits in its held place, and stands behind
the last record (R133, R195); a link reset discards it. Without a held place nothing waits. -/
theorem meets_card_image_waits_for_a_reply_in_parts :
    let s := placingDesk [[7#8], [8#8]] (stepping (.issueHanded true) [37] false false 0)
    let t := after .groupIssueStep s
    let u := after (.placeReplyRecord .desk) t
    let v := after (.placeReplyRecord .desk) u
    (t.group.phase.holds = true ∧ t.desk.replies = [] ∧ (t.entry 4).issued = 1 ∧ t.placesTaken .desk = 1) ∧
    (u.group.phase = t.group.phase ∧ u.desk.replies = [[7#8]]) ∧
    ((v.desk.replies.map fun r => r.take 3) = [[7#8], [8#8], [21#8, 0#8, 0x4F#8]] ∧ v.group.phase = .issueHanded true ∧
      v.desk.inProgress = none) ∧
    (let w := after (.linkReset .desk []) t
     (w.desk.replies = [] ∧ w.group.state = .halting ∧ w.group.phase = .issueHanded true ∧ (w.entry 4).issued = 1)) ∧
    (after .groupIssueStep (placingDesk [[7#8]] (stepping (.issueHanded false) [37] false false 0))).desk.replies = [] := by
  refine ⟨?_, ?_, ?_, ?_, ?_⟩ <;> decide +kernel

/-- A complete entry, one with copies left and the abort flag, one with copies left; the boundary at last, with a redirect, an
abort, a halt, and plainly. -/
theorem meets_GroupBoundaryMovesTheRunOn :
    let s := fun issued => queue .running .rest 4 (entryFor [60] 3 true) true issued
    let b := queue .running .boundary 4 (entryFor [60] 3 true) true 3
    let g := fun (u : Group) => { b with group := u }
    ((s 3).groupAfterStep.group.phase = .boundary ∧ (s 2).groupAfterStep.group.phase = .issueHanded true) ∧
    ({ s 2 with group := { (s 2).group with abort := true } } : State).groupAfterStep.group.stop = some .abort ∧
    (b.powered = true ∧ b.group.phase = .boundary ∧ b.group.next ≠ b.group.last) ∧
    ([g { b.group with last := 4 }, g { b.group with redirect := true, first := 9 }, g { b.group with abort := true },
      g { b.group with state := .halting }, g { b.group with next := 15, last := 0 }].map fun u =>
        let t := after .entryBoundary u
        (t.group.state, t.group.next, t.group.done, t.group.stop)) =
      [(.idle, 4, some 4, none), (.stopped, 9, some 4, some (.refusal .noSuch none)), (.stopped, 5, some 4, some .abort),
       (.stopped, 5, some 4, some .halt), (.stopped, 0, some 15, some (.refusal .noSuch none))] := by
  refine ⟨?_, ?_, ?_, ?_⟩ <;> decide +kernel

theorem meets_GroupHaltAndAbortActOnTheRun :
    (∀ k s, s = wing ∨ (∃ x p n f c m, s = queue x p n f c m ∨ s = fullDesk (queue x p n f c m)) →
      (asking .desk k [] s).asked .desk k []) ∧
    ([wing, serviceIs .unprovisioned wing, queue .running .checkinHanded 4 (entryFor [60] 3 true) false 0,
      fullDesk (queue .halting .waiting 4 (entryFor [60] 3 true) true 0)].map fun s =>
        ((reply .groupHalt .desk (asking .desk .groupHalt [] s)).take 3, (reply .groupAbort .desk (asking .desk .groupAbort [] s)).take 3)) =
      [([0x15, 0x43, 0], [0x15, 0x44, 0]), ([4, 0x43, 0], [4, 0x44, 0]), ([0, 0x43, 2], [0, 0x44, 1]), ([0, 0x43, 2], [0, 0x44, 3])] := by
  refine ⟨?_, ?_⟩
  · rintro k s (rfl | ⟨x, p, n, f, c, m, rfl | rfl⟩) <;> exact asking_asked _ _ _ _ rfl rfl
  · decide +kernel

/-- The row GROUP_ABORT and FETCH of R141: the abort first stops the waiting run; behind a FETCH the copy's step is handed and the
abort flag set, the copy is issued, and the run stops behind it; a run that then fails its tests refuses the abort. -/
theorem meets_abort_and_fetch_orders :
    let s := asking .desk .groupAbort [] (fullDesk (queue .running .waiting 4 (entryFor [37] 3 false) true 0))
    let t := after .groupAbort (after (.fetch .desk 18) s)
    let u := after .groupIssueStep { t with cred := { t.cred with waiting := [.group] } }
    let seen := fun (v : State) => (v.group.state, v.group.phase, v.group.abort, v.group.stop)
    s.placesTaken .desk = 16 ∧ (after (.fetch .desk 18) s).placesTaken .desk = 15 ∧
    seen (after .groupAbort s) = (.stopped, .rest, true, some .abort) ∧
    seen t = (.running, .issueHanded true, true, none) ∧ t.cred.waiting.getLast? = some .group ∧
    seen u = (.stopped, .rest, true, some .abort) ∧ u.desk.replies.length = 16 ∧
    status .groupAbort .desk (after (.fetch .desk 18) (serviceIs .configuring s)) = some 0x15 := by
  refine ⟨?_, ?_, ?_, ?_, ?_, ?_, ?_, ?_⟩ <;> decide +kernel
/-! ### Chapter 7 -/

/-- The check value of the nine digits, the usual test of this cyclic check. -/
theorem test_check_value : checkValue ((List.range 9).map fun n => BitVec.ofNat 8 (0x31 + n)) = 0x29B1#16 := by decide +kernel

/-- A record whose content fills bytes 11 to 29, so that its image has no free byte. -/
def fullRecord : Rec :=
  { source := .credentialManager, minute := 2001800, second := 7, body := .stayClose 37 none 1999000 2001800 3250 false 2 1 .checkOut }

theorem meets_ProgrammedRecordReadsBackAsARecord :
    (4294967295 : Nat) < 4294967296 ∧ (fieldBytes (recordFields fullRecord.body)).length = 19 ∧
    (recordImage 3001 fullRecord).take 15 =
      [0#8, 0#8, 0x0B#8, 0xB9#8, 0x0C#8, 2#8, 0#8, 0x1E#8, 0x8B#8, 0x88#8, 7#8, 0#8, 37#8, 0xFF#8, 0xFF#8] ∧
    slotIsRecord (recordImage 4294967295 fullRecord) = true := by
  refine ⟨?_, ?_, ?_, ?_⟩ <;> decide +kernel

/-- The wing's journal with staging, writer activity and write slot set. -/
def writing (staging unstaged : Nat) (writer : Writer) (slot newest : Nat) : State :=
  { wing with
    journal := { wing.journal with
      staging := List.replicate staging fullRecord, unstaged := unstaged, writer := writer
      write := { pos := 0, page := 0, slot := slot }, newest := newest, offers := [fullRecord] } }

/-- Staging of 31 and 32, an unstaged count at its greatest; a program at slot 63 and 64, and at the last number; a program that
verifies at slot 62 and 63, with and without records lost, and one that fails. -/
theorem meets_StagedRecordsBecomeDurable :
    (∀ a b c d e, (writing a b c d e).powered = true ∧ (writing a b c d e).tablesWf ∧ (writing a b c d e).journal.offers = fullRecord :: []) ∧
    ([writing 31 0 .idle 0 0, writing 32 0 .idle 0 0, writing 32 65535 .idle 0 0].map fun s =>
      let t := after .stageRecord s
      (t.journal.staging.length, t.journal.unstaged, t.journal.offers.length)) = [(32, 0, 0), (32, 1, 0), (32, 65535, 0)] ∧
    ([writing 1 0 .idle 63 4294967294, writing 1 0 .idle 64 9].map fun s => (after .programStart s).journal.writer) = [.programming, .idle] ∧
    (recordImage 41 fullRecord).length = 32 ∧
    ([writing 1 0 .programming 62 40, writing 32 3 .programming 63 40].map fun s =>
      let t := after (.programComplete (recordImage 41 fullRecord)) s
      (t.journal.newest, t.journal.staging.length, t.journal.unstaged, (t.page 0).fill, t.journal.write.slot)) =
      [(41, 0, 0, .filling, 63), (41, 32, 0, .full, 64)] ∧
    (after (.programComplete (recordImage 41 fullRecord)) (writing 32 3 .programming 63 40)).journal.staging.getLast?.map Rec.body = some (.gap 3) ∧
    (let t := after (.programComplete (List.replicate 32 0#8)) (writing 1 0 .programming 0 40)
     (t.journal.newest, t.journal.staging.length, t.journal.map.out, maskHas t.audit.notices 8) = (40, 1, [0], true)) := by
  refine ⟨fun _ _ _ _ _ => ⟨rfl, wing_tablesWf, rfl⟩, ?_, ?_, ?_, ?_, ?_, ?_⟩ <;> decide +kernel

/-- A journal whose write page is FULL, with the next page as given and the marks. -/
def turning (next : Page) (newest released : Nat) (ring : List RingPos) : State :=
  { wing with
    journal := { wing.journal with
      staging := [fullRecord], newest := newest, released := released, map := { ring := ring, spares := [128], out := [] }
      pages := [(0, { slots := [], fill := .full, readable := [] })] ++ (if next = Page.blank then [] else [(1, next)])
      write := { pos := 0, page := 0, slot := 64 } } }

/-- A FULL page that holds records 11,903 and 11,904. -/
def oldPage : Page := { slots := [(0, recordImage 11903 fullRecord), (1, recordImage 11904 fullRecord)], fill := .full, readable := [0, 1] }

/-- Ring pages from a position on, none retired. -/
def ringOf (n : Nat) : List RingPos := (List.range n).map fun p => { pos := p, page := p, held := none }

/-- A turn with no other page, with an ERASED page, with a page released through its last record and through the one before; the
start of an erase-ahead; an erase that succeeds and one that fails. -/
theorem meets_TurnAndErasesTakeTheNextPage :
    (∀ p n r k, (turning p n r (ringOf k)).powered = true ∧ (turning p n r (ringOf k)).journal.state = .normal ∧
      (turning p n r (ringOf k)).journal.writer = .idle ∧ (turning p n r (ringOf k)).journal.staging ≠ [] ∧
      (turning p n r (ringOf k)).journal.eraseAhead = none) ∧
    ([turning oldPage 20032 11900 (ringOf 1), turning Page.blank 20032 11900 (ringOf 12), turning oldPage 20032 11904 (ringOf 12),
      turning oldPage 20032 11903 (ringOf 12)].map fun s =>
        let t := after .turn s
        (s.writeFilling, t.journal.writer, t.journal.write.page, t.journal.released, t.journal.discarded)) =
      [(false, .waitingPage, 0, 11900, 0), (false, .idle, 1, 11900, 0), (false, .erasing 1 true, 0, 11904, 0),
       (false, .erasing 1 true, 0, 11904, 11904)] ∧
    tablesOk (turning oldPage 20032 11903 (ringOf 12)) = true := by
  refine ⟨fun _ _ _ _ => ⟨rfl, rfl, rfl, List.cons_ne_nil _ _, rfl⟩, ?_, ?_⟩ <;> decide +kernel

/-- The page a turn finds behind the write page, round the ring to a lower position, with none left; the erase-ahead test of a
page released throughout, of one that is not, and of one being erased. -/
theorem meets_turn_search_clauses :
    let at_ := fun (pos : Nat) (ring : List RingPos) (s : State) =>
      ({ s with journal := { s.journal with map := { s.journal.map with ring := ring }, write := { pos := pos, page := pos, slot := 64 } } } : State)
    let retired : RingPos := { pos := 5, page := 5, held := some 3 }
    let s := turning oldPage 20032 11904 (ringOf 12)
    ((at_ 4 (ringOf 5 ++ [retired, { pos := 6, page := 6, held := none }]) s).turnTarget = some { pos := 6, page := 6, held := none } ∧
      (at_ 4 (ringOf 5 ++ [retired]) s).turnTarget = some { pos := 0, page := 0, held := none } ∧
      (at_ 5 [retired] s).turnTarget = none) ∧
    ([s, turning oldPage 20032 11903 (ringOf 12), { s with journal := { s.journal with writer := .erasing 1 true } },
      at_ 5 [retired] s].map fun u => u.eraseAheadTest.journal.eraseAhead) = [some 1, none, none, none] := by
  constructor <;> decide +kernel

/-- A page that goes OUT with two spares, with the last, with none in a ring of 9 and of 8, and for a writer that waits; a page
retired that holds records above released-through, that holds none, and with nothing in it. -/
theorem meets_page_out_and_retire_clauses :
    let s := fun (n : Nat) (spares : List Nat) (w : Writer) =>
      let u := turning oldPage 11904 11903 (ringOf n)
      ({ u with journal := { u.journal with writer := w, map := { ring := ringOf n, spares := spares, out := [] } } } : State)
    (s 9 [] .idle).journal.map.posOf 1 = some { pos := 1, page := 1, held := none } ∧
    ([s 9 [128, 129] .idle, s 9 [128] .waitingPage, s 9 [] .programming, s 8 [] .idle].map fun u =>
      let t := u.pageOut 1
      (t.journal.map.ring.length, t.journal.map.spares, t.journal.writer, t.journal.state, t.audit.notices)) =
      [(9, [129], .idle, .normal, 1#16), (9, [], .idle, .normal, 0x201#16), (8, [], .programming, .normal, 1#16),
       (7, [], .idle, .failed .ringShort, 0x801#16)] ∧
    ([(11903, 2), (11904, 2), (11903, 0)].map fun (mark, held) =>
      let t := ({ s 9 [128, 129] .idle with journal := { (s 9 [128, 129] .idle).journal with released := mark } } : State).retirePage 1 held
      (t.journal.map.out, (t.journal.map.posOf 1).map RingPos.held, maskHas t.audit.notices 8)) =
      [([], some (some 2), true), ([1], none, true), ([1], none, true)] := by
  refine ⟨?_, ?_, ?_⟩ <;> decide +kernel

/-- The high test one below 48 times the ring, at it, and with the mark already set; a failure, the same again, one of the ring
behind it (also by a page going OUT of a ring of 8), and SEQUENCE_END behind that. -/
theorem meets_high_and_failure_clauses :
    let s := fun (n : Nat) (high : Bool) =>
      let u := turning oldPage n 0 (ringOf 10)
      ({ u with journal := { u.journal with high := high } } : State)
    ([s 479 true, s 480 false, s 480 true].map fun u => (u.highTest.journal.high, u.highTest.audit.notices)) =
      [(false, 1#16), (true, 0x401#16), (true, 1#16)] ∧
    (let t := (s 1 false).failJournal .sequenceEnd
     (t.journal.state = .failed .sequenceEnd ∧ t.audit.notices = 0x801#16 ∧ t.failJournal .sequenceEnd = t ∧
      (t.failJournal .ringShort).journal.state = .failed .ringShort ∧
      (t.failJournal .ringShort).failJournal .sequenceEnd = t.failJournal .ringShort)) ∧
    (let u := turning oldPage 11904 11903 (ringOf 8)
     let v : State := { u with
       audit := { u.audit with notices := 0#16 }
       journal := { u.journal with state := .failed .sequenceEnd, map := { ring := ringOf 8, spares := [], out := [] } } }
     ((v.pageOut 1).journal.state = .failed .ringShort ∧ (v.pageOut 1).audit.notices = 0x800#16)) := by
  refine ⟨?_, ?_, ?_⟩ <;> decide +kernel

theorem meets_erase_clauses :
    let s := turning oldPage 20032 11904 (ringOf 12)
    let ahead : State := { s with journal := { s.journal with eraseAhead := some 1 } }
    let erasing := fun (b : Bool) => ({ s with journal := { s.journal with writer := .erasing 1 b } } : State)
    let read := [(5, List.replicate 32 0#8)]
    (ahead.journal.eraseAhead = some 1 ∧ (after .eraseStart ahead).journal.writer = .erasing 1 false) ∧
    (s.journal.map.posOf 1 = some { pos := 1, page := 1, held := none } ∧ read ≠ [] ∧ pageReading 0 read = true) ∧
    ([true, false].map fun b => ((after (.eraseComplete []) (erasing b)).journal.write.page, ((after (.eraseComplete []) (erasing b)).page 1).fill)) =
      [(1, .filling), (0, .erased)] ∧
    (after (.eraseComplete read) (erasing true)).journal.map.out = [1] := by
  refine ⟨?_, ?_, ?_, ?_⟩ <;> decide +kernel

/-- The journal with the old page's two records readable. -/
def reading (s : State) : State :=
  { s with journal := { (turning oldPage 11904 11902 (ringOf 12)).journal with discarded := 11902, state := s.journal.state } }

/-- A start of 0, counts of 0, 8 and 9, a start in the gap, past newest; the scan; a release at the mark, above it and past newest. -/
theorem meets_JournalIsReadAndReleased :
    (∀ k fs, (asking .audit k fs (reading wing)).asked .audit k fs ∧ ∃ q, (asking .audit k fs (reading wing)).audit.inProgress = some q ∧ q.discard = false) ∧
    ([(0, 1), (1, 0), (1, 9), (1, 8), (11904, 1), (11905, 1)].map fun (n, c) =>
      (reply .journalRead .audit (asking .audit .journalRead (area [(4, n), (1, c)]) (reading wing))).take 4) =
      [[5, 0x50, 0, 0], [5, 0x50, 0, 0], [5, 0x50, 0, 0], [0, 0x50, 0x40, 2], [0, 0x50, 0, 1], [0, 0x50, 0x80, 0]] ∧
    (((after .journalRead (asking .audit .journalRead (area [(4, 11904), (1, 1)]) (reading wing))).audit.inProgress.map Request.phase) =
      some (.placing (allParts 9#8 [recordImage 11904 fullRecord]))) ∧
    status .journalRead .audit (asking .audit .journalRead (area [(4, 1), (1, 1)]) State.reset) = some 0x18 ∧
    (let s := asking .audit .journalRead (area [(4, 1), (1, 1)]) (reading wing)
     let t : State := { s with audit := { s.audit with inProgress := s.audit.inProgress.map fun q => { q with discard := true } } }
     t.asked .audit .journalRead (area [(4, 1), (1, 1)]) ∧ (after .journalRead t).audit.inProgress = none ∧
       (after .journalRead t).audit.replies = s.audit.replies) ∧
    ([11902, 11903, 20000].map fun n =>
      let s := asking .audit .journalRelease (area [(4, n)]) (reading wing)
      ((reply .journalRelease .audit s).drop 10 |>.take 3, (after .journalRelease s).journal.released)) =
      [([0, 2, 0], 11902), ([0, 1, 1], 11903), ([0, 0, 1], 11904)] ∧
    status .journalRelease .audit (asking .audit .journalRelease [] State.reset) = some 0x18 ∧
    status (.journalHealth .desk) .desk (asking .desk .journalHealth [] wing) = some 0 := by
  refine ⟨fun _ _ => ⟨asking_asked _ _ _ _ rfl rfl, _, rfl, rfl⟩, ?_, ?_, ?_, ⟨⟨?_, rfl⟩, ?_, ?_⟩, ?_, ?_, ?_⟩ <;> decide +kernel

/-- The three requests of the Journal Unit while a program, an erase, a page wait and nothing hold the writer (R149, R159). -/
theorem meets_journal_requests_between_operations :
    let s := fun (w : Writer) => let u := reading wing; ({ u with journal := { u.journal with writer := w } } : State)
    ([Writer.programming, .erasing 3 true, .waitingPage, .idle].map fun w =>
      (status .journalRead .audit (asking .audit .journalRead (area [(4, 1), (1, 1)]) (s w)),
       status .journalRelease .audit (asking .audit .journalRelease (area [(4, 1)]) (s w)),
       status (.journalHealth .desk) .desk (asking .desk .journalHealth [] (s w)))) =
      [(none, none, none), (none, none, none), (some 0, some 0, some 0), (some 0, some 0, some 0)] := by
  decide +kernel

/-- The records chosen from the least number, with GAP at discarded-through and without it above; none above newest, and none
where every readable number lies below; the three parts of each of two records. -/
theorem meets_record_choice_and_parts :
    let s := reading wing
    let bare : State := { s with journal := { s.journal with newest := 20000 } }
    ([(11902, 8), (11903, 1), (11904, 8), (11905, 1)].map fun (n, c) => ((s.chooseRecords n c).1.length, (s.chooseRecords n c).2)) =
      [(2, true), (1, false), (1, false), (0, false)] ∧
    (bare.chooseRecords 11905 1 = ([], false)) ∧
    (recordImage 11904 fullRecord).length = 32 ∧
    ((allParts 9#8 [recordImage 11903 fullRecord, recordImage 11904 fullRecord]).map fun r => r.getD 3 0#8) =
      [1#8, 2#8, 3#8, 1#8, 2#8, 0x83#8] := by
  refine ⟨?_, ?_, ?_, ?_⟩ <;> decide +kernel

/-! ### Chapter 8 -/

/-- Number 0 and 65,535, wing 15 and 16, weekday 6 and 7; the three states of COMMISSION and DECOMMISSION. -/
theorem meets_ServiceStateMovesByItsThreeRequests : (∀ l k fs, (asking l k fs wing).asked l k fs) ∧
    ([(65535, 15, 6), (0, 15, 6), (1, 16, 6), (1, 15, 7)].map fun (n, w, e) =>
      status .siteWrite .desk (asking .desk .siteWrite (area [(2, n), (1, w), (1, e)]) State.reset)) = [some 0, some 5, some 5, some 5] ∧
    ([Service.unprovisioned, .configuring, .inService].map fun x =>
      (status .siteWrite .desk (asking .desk .siteWrite [] (serviceIs x wing)), (reply .commission .desk (asking .desk .commission [] (serviceIs x wing))).take 4,
       (reply .decommission .audit (asking .audit .decommission [] (serviceIs x wing))).take 4)) =
      [(some 5, [4, 0x59, 0, 1], [4, 0x5A, 0, 0]), (some 0x12, [0, 0x59, 1, 2], [0, 0x5A, 0, 0]), (some 0x12, [0, 0x59, 0, 0], [0, 0x5A, 2, 1])] ∧
    (reply .commission .desk (asking .desk .commission [] (serviceIs .configuring State.reset))).take 4 = [4, 0x59, 1, 0] := by
  refine ⟨fun _ _ _ => wing_asked _ _ _, ?_, ?_, ?_⟩ <;> decide +kernel

/-- Each setting at the ends of its range and past them; a change flag of 2; the fence set twice and cleared. -/
theorem meets_SettingsFenceAndIdentityRequests : (∀ l k fs, (asking l k fs wing).asked l k fs) ∧
    ([(120, 1, 60, 1, 900, 1), (121, 1, 61, 1, 901, 1), (0, 1, 0, 1, 59, 1), (5, 0, 5, 0, 100, 0), (0, 2, 0, 0, 0, 0)].map fun (g, a, e, b, i, c) =>
      (reply .settingsSet .desk (asking .desk .settingsSet (area [(1, g), (1, a), (1, e), (1, b), (2, i), (1, c)]) wing)).take 7) =
      [[0, 0x5B, 120, 60, 3, 0x84, 0], [0, 0x5B, 120, 60, 3, 0x84, 7], [0, 0x5B, 0, 1, 0, 60, 6], [0, 0x5B, 60, 10, 1, 0x2C, 0],
       [5, 0x5B, 0, 0, 0, 0, 0]] ∧
    ([wing, fencedWing].map fun s => ((offered .fenceDesk (asking .audit .fenceDesk [] s)).length, (offered .unfenceDesk (asking .audit .unfenceDesk [] s)).length,
      (after .fenceDesk (asking .audit .fenceDesk [] s)).settings.fence, (after .unfenceDesk (asking .audit .unfenceDesk [] s)).settings.fence)) =
      [(1, 0, true, false), (0, 1, true, false)] ∧
    reply (.identify .audit) .audit (asking .audit .identify [] wing) = [0, 0x5E, 1, 0x2E, 0x51, 0x60, 0x24, 1, 3, 2, 0, 8, 0, 8, 4] := by
  refine ⟨fun _ _ _ => wing_asked _ _ _, ?_, ?_, ?_⟩ <;> decide +kernel

/-- The fence follows a check-out and a DOOR_SET already taken: both fence requests wait, and the fence is moved once the
tally-close has completed the check-out (R181). -/
theorem meets_fence_waits_for_the_desk :
    let audit := fun (k : ReqKind) (s : State) =>
      ({ s with audit := { s.audit with inProgress := some { tag := 9#8, kind := k, fields := [], phase := .handed, discard := false } } } : State)
    let out := after .checkOut (asking .desk .checkOut (area [(2, 37)]) wing)
    let door := after .doorSet (asking .desk .doorSet (doorArea 75 0 37 2 1 8) wing)
    ([out, door].map fun s => (s.deskTaken, (after .fenceDesk (audit .fenceDesk s)).settings.fence,
      status .unfenceDesk .audit (audit .unfenceDesk s))) = [(true, false, none), (true, false, none)] ∧
    (let s := audit .fenceDesk (after .tallyClose out)
     (s.deskTaken, (after .fenceDesk s).settings.fence, (offered .fenceDesk s).length)) = (false, true, 1) := by
  constructor <;> decide +kernel

/-- The invariant holds of the wing, and of the fenced wing with a Desk request handed and not taken. -/
theorem meets_fenceFollowsTheDesk : wing.fenceFollowsTheDesk ∧ (asking .desk .checkOut [] fencedWing).fenceFollowsTheDesk := by
  refine ⟨fun h => (by cases h), fun _ r h => ?_⟩
  cases h
  decide

/-- A cold start that cut a program, one that cut an erase, one that cut nothing; the end of a scan. -/
theorem meets_ColdStartAndScanRestoreThePart :
    (∀ a b c d e, (writing a b c d e).tablesWf) ∧
    ((after (.coldStart (List.replicate 32 0#8) []) (writing 1 0 .programming 5 40)).page 0).slots = [(5, List.replicate 32 0#8)] ∧
    ((after (.coldStart (List.replicate 32 0#8) [(3, List.replicate 32 1#8)]) { writing 1 0 (.erasing 0 true) 5 40 with settings := fencedWing.settings }).page 0).slots =
      [(3, List.replicate 32 1#8)] ∧
    (after (.coldStart (List.replicate 32 0#8) []) fencedWing).journal.coldFence = true ∧
    ((reading State.reset).powered = true ∧ (reading State.reset).journal.state = .recovering) ∧
    (let t := after .scanComplete (reading State.reset)
     (t.journal.state, t.journal.newest, t.journal.released, t.journal.write, (t.page 1).fill) =
       (.normal, 11904, 11902, { pos := 1, page := 1, slot := 2 }, .filling)) := by
  refine ⟨fun _ _ _ _ _ => wing_tablesWf, ?_, ?_, ?_, ?_, ?_⟩ <;> decide +kernel

/-- A scan that finds records on a page in use and below the held count of a retired page, the records behind them not from one
number on; one that finds nothing; each page of the ring once. -/
theorem meets_scan_clauses :
    let s := reading State.reset
    let held : State := { s with journal := { s.journal with
      pages := s.journal.pages ++ [(2, { slots := [(0, recordImage 7 fullRecord), (1, recordImage 11902 fullRecord), (2, recordImage 9 fullRecord)]
                                         fill := .erased, readable := [] })]
      map := { s.journal.map with
        ring := [{ pos := 1, page := 1, held := none }, { pos := 2, page := 2, held := some 2 }, { pos := 3, page := 3, held := some 2 }] } } }
    let none_ : State := { s with journal := { s.journal with pages := [] } }
    (tablesOk held = true ∧ held.powered = true ∧ held.journal.state = .recovering ∧ (held.journal.map.ring.map RingPos.page).Nodup) ∧
    ((held.scan.newest, held.scan.oldest, held.scan.readable.map Found.seq, held.scan.holder.map Found.page) =
      (11904, some 11902, [11902, 11903, 11904], some 1)) ∧
    (let t := after .scanComplete held
     (t.journal.discarded, (t.page 2).readable, (t.page 1).fill, t.journal.map.out, t.journal.state)) =
      (11901, [1], .filling, [3], .failed .ringShort) ∧
    (none_.scan = { newest := 0, oldest := none, readable := [], holder := none }) ∧
    (let t := after .scanComplete none_
     (t.journal.write, (t.page 0).fill, t.journal.state)) = ({ pos := 0, page := 0, slot := 0 }, .filling, .normal) := by
  refine ⟨?_, ?_, ?_, ?_, ?_⟩ <;> decide +kernel

/-- What a warm start does with the operations in progress: a check-out, a check-in over an ended stay, a DOOR_SET at its
release, a presentation, and a program whose slot reads whole or otherwise; the unpowered clock at its greatest minute and not
set. -/
theorem meets_warm_start_in_progress_clauses :
    let warm := fun (s : State) => after (.warmStart .pin []) s
    let eval := fun (o : EvalOp) (s : State) => ({ s with eval := { s.eval with op := some o } } : State)
    let d : DoorSet := { door := 75, place := .minibar 38, zone := 2, enabled := true, unlock := 8 }
    ([leaving, opening .desk [37] [37] true].map fun s => (s.powered, warm s == warm (after .tallyClose s), (warm s).cred.op)) =
      [(true, true, none), (true, true, none)] ∧
    (let s := eval (.doorRelease d 37) wing
     (warm s == warm (after .minibarRelease s), ((warm s).tally 38).door, (warm s).eval.op)) = (true, some 75, none) ∧
    (warm (eval (.present (card140 74)) wing) = warm wing) ∧
    ([recordImage 41 fullRecord, List.replicate 32 0#8].map fun read =>
      let s := writing 1 0 .programming 62 40
      let t := after (.warmStart .pin read) s
      (t.journal.newest, (t.page 0).fill, t.journal.staging.length, t.journal.writer)) =
      [(41, .filling, 0, .idle), (40, .full, 1, .idle)] ∧
    (let off := after .mainPowerLoss (at_ 4294967295 59 evening)
     ((after .secondEvent off).clock.minute, (after .secondEvent off).clock.second) = (4294967295, 0)) ∧
    (after .secondEvent (after .mainPowerLoss State.reset) = after .mainPowerLoss State.reset) := by
  refine ⟨?_, ?_, ?_, ?_, ?_, ?_⟩ <;> decide +kernel

/-- Power lost, a second of the retained domain below 59 and at 59, RESETn without power, and both causes of a warm start. -/
theorem meets_PowerLossAndWarmStartKeepTheRetainedDomain :
    let off := after .mainPowerLoss (at_ 4294967294 58 evening)
    (off.powered = false ∧ off.clock.isSet = true ∧ off.clock.minute < 4294967295 ∧ (after .secondEvent off).clock.second = 59 ∧
      (after .secondEvent (after .secondEvent off)).clock.minute = 4294967295 ∧ (after .secondEvent off).mini.idleDue = 0) ∧
    after (.warmStart .pin []) off = off ∧ tablesOk evening = true ∧
    (evening.cred.op = none ∧ evening.eval.op = none ∧ evening.journal.writer ≠ .programming) ∧
    ([(WarmCause.pin, evening), (.power, off)].map fun (c, s) =>
      let t := after (.warmStart c []) s
      (t.powered, t.mini.sessions, t.clock.isSet, t.cred.rooms == evening.cred.rooms, t.desk.notices)) =
      [(true, [], true, true, 1#16), (true, [], true, true, 1#16)] := by
  refine ⟨?_, ?_, ?_, ?_, ?_⟩ <;> decide +kernel
/-! ### Chapter 9 -/

/-- The Desk ring of the example: slots 0 to 4 written, head and tail as given. -/
def ring (head tail : Nat) (strict : Bool) : State :=
  { wing with
    desk := { wing.desk with
      len := 8, head := head, tail := tail, strict := strict
      slots := [(0, [0x80#8, 40#8, 0x10#8] ++ List.replicate 13 1#8), (1, [0x81#8, 41#8, 0x18#8] ++ List.replicate 13 1#8),
        (2, [0x40#8, 41#8] ++ List.replicate 14 1#8), (3, [0x80#8, 42#8, 0x18#8] ++ List.replicate 13 1#8),
        (4, [0x80#8, 43#8, 0x1A#8] ++ List.replicate 13 1#8)] } }

/-- A frame of a slot index and 16 bytes. -/
def slotFrame (n : Nat) : List Byte := BitVec.ofNat 8 n :: List.replicate 16 7#8

/-- Slots 7 and 8 of a ring of 8; the last owned slot and the one behind it; a frame of 16 and of 17 bytes. -/
theorem meets_WriteSlotWritesASlotNotOwned :
    let s := ring 5 7 false
    s.powered = true ∧ s.tablesWf ∧ (slotFrame 7).length = 17 ∧
    ([slotFrame 7, slotFrame 8, slotFrame 6, slotFrame 5, slotFrame 4, (slotFrame 7).take 16].map fun bs =>
      let t := after (.writeSlot .desk bs) s
      (t.desk.lastError, t.desk.slot 7 == List.replicate 16 7#8)) =
      [(none, true), (some .slotRange, false), (some .slotOwned, false), (some .slotOwned, false), (none, false), (none, false)] := by
  refine ⟨rfl, tablesWf_of_ok _ (by decide +kernel), ?_, ?_⟩ <;> decide +kernel

/-- A tail at the length, a tail back (the example), forward; the same in strict mode; lengths 1, 2, 16 and 17; a resume of each cause. -/
theorem meets_RingFramesMoveTheRing :
    ([false, true].map fun x => [8, 6, 7, 4].map fun n =>
      let t := after (.post .desk [BitVec.ofNat 8 n]) (ring 5 7 x)
      (t.desk.tail, t.desk.lastError, t.desk.halt)) =
      [[(7, some .tailRange, none), (7, some .tailBack, none), (7, none, none), (4, none, none)],
       [(7, some .tailRange, some (.tailRange, 5)), (7, some .tailBack, some (.tailBack, 5)), (7, none, none), (4, none, none)]] ∧
    ([1, 2, 16, 17].map fun n => ((after (.ring .desk [BitVec.ofNat 8 n, 1#8, 0xFF#8, 0xFF#8]) (ring 5 7 false)).desk.len,
      (after (.ring .desk [BitVec.ofNat 8 n, 1#8, 0xFF#8, 0xFF#8]) (ring 5 7 false)).desk.enables)) =
      [(8, 0x03FF#16), (2, 0x03FF#16), (16, 0x03FF#16), (8, 0x03FF#16)] ∧
    ([HaltCause.tailRange, .tailBack, .noLead, .missingExt].map fun c =>
      let s := ring 1 4 true
      let t := after (.resume .desk []) { s with desk := { s.desk with halt := some (c, 1), slots := s.desk.slots.filter fun p => p.1 != 2 } }
      (t.desk.head, t.desk.halt)) = [(1, none), (1, none), (2, none), (2, none)] := by
  refine ⟨?_, ?_, ?_⟩ <;> decide +kernel

/-- A FETCH of 17 and of 18 bytes with a reply queued, and of an empty queue; a CLEAR of one byte and of two; an unknown frame. -/
theorem meets_FetchStatusAndNoticeFrames :
    let s : State := { wing with desk := { wing.desk with replies := [List.replicate 16 3#8], notices := 6#16 } }
    s.powered = true ∧
    ([17, 18].map fun n => ((after (.fetch .desk n) s).desk.replies.length, (after (.fetch .desk n) s).desk.sdo.length)) = [(1, 17), (0, 18)] ∧
    (after (.fetch .desk 18) wing).desk.sdo = List.replicate 18 0#8 ∧
    ([[0#8], [0#8, 4#8]].map fun bs => (after (.clear .desk bs) s).desk.notices) = [6#16, 2#16] ∧
    (after (.unknownFrame .desk 9#8 []) wing).desk.notices = 3#16 ∧
    (after (.status .desk 12) s).desk.sdo = [0#8, 0#8, 16#8, 0#8, 0#8, 0#8, 0#8, 1#8, 0#8, 6#8, 3#8, 0xFF#8] := by
  refine ⟨rfl, ?_, ?_, ?_, ?_, ?_⟩ <;> decide +kernel

/-- A reset with a request handed, of the Desk during a run that holds a place, and of another link. -/
theorem meets_LinkResetRestoresItsOwnLink :
    let s := asking .desk .checkIn [] (queue .running (.issueHanded true) 4 (entryFor [60] 3 true) true 0)
    s.powered = true ∧ (after (.linkReset .desk []) s).desk.inProgress.map Request.discard = some true ∧
    (after (.linkReset .desk []) s).group.state = .halting ∧ (after (.linkReset .desk []) s).group.phase = .issueHanded false ∧
    (after (.linkReset .lock []) s).group.state = .running := by
  refine ⟨rfl, ?_, ?_, ?_, ?_⟩ <;> decide +kernel

/-- Head, request in progress, reply heads and halt after a request is taken. -/
def tookFrom (s : State) : Nat × Option Nat × List Nat × Option Nat :=
  let t := after (.takeRequest .desk) s
  (t.desk.head, t.desk.inProgress.map fun r => kindCode r.kind, t.desk.replies.flatMap fun r => (r.take 3).map BitVec.toNat,
    t.desk.halt.map fun h => haltCode h.1)

/-- The ring with another slot 3. -/
def slotThree (bs : List Byte) (s : State) : State :=
  { s with desk := { s.desk with slots := [(3, bs ++ List.replicate 13 1#8)] } }

/-- The example's requests, step by step: a request taken, one with an extension, one with a wrong count, a stray slot and a
missing extension in both modes, a lead that waits for its extension, an unknown kind and a kind of another link. -/
theorem meets_RequestsAreTakenAndLaterRepliesPlaced :
    (ring 0 3 false).powered = true ∧ (ring 0 3 false).placesTaken .desk < 16 ∧ (ring 0 3 false).desk.head < 8 ∧
    ([ring 0 3 false, ring 1 3 false, ring 1 2 false, ring 3 5 false, ring 2 3 false, ring 2 3 true,
      slotThree [0x81#8, 42#8, 0x18#8] (ring 3 5 false), slotThree [0x81#8, 42#8, 0x18#8] (ring 3 5 true), slotThree [0x80#8, 42#8, 0x0F#8] (ring 3 5 false),
      slotThree [0x80#8, 42#8, 0x28#8] (ring 3 5 false)].map tookFrom) =
      [(1, some 0x10, [], none), (3, some 0x18, [], none), (1, none, [], none), (4, none, [42, 5, 0x18], none),
       (3, none, [41, 7, 0], none), (2, none, [41, 7, 0], some 3), (4, none, [42, 7, 0x18], none),
       (3, none, [42, 7, 0x18], some 4), (4, none, [42, 1, 0x0F], none), (4, none, [42, 1, 0x28], none)] := by
  refine ⟨rfl, ?_, ?_, ?_⟩ <;> decide +kernel

/-- A SET_TIME refused by the Link Unit, for the link, for a slot too many and for a lead longer than the ring, carries M and S
(R3, R205); a CHECK_IN refused so carries the room's state (R27), a COMMISSION service state and clock-set flag (R174), an
ISSUE_KEY nothing. -/
theorem meets_link_refusal_content :
    let lead := fun (mark code : Byte) (n : Nat) (t : Nat) =>
      ({ ring 0 1 false with desk := { (ring 0 1 false).desk with
          len := n, tail := t, slots := [(0, [mark, 5#8, code] ++ List.replicate 13 1#8), (1, [0x40#8, 5#8] ++ List.replicate 14 1#8)] } } : State)
    let onLock := fun (s : State) => ({ s with lock := s.desk, desk := State.reset.desk } : State)
    (after (.takeRequest .lock) (onLock (lead 0x80#8 1#8 8 1))).lock.replies =
      [[5#8, 1#8, 1#8, 0#8, 0x1E#8, 0x84#8, 0x80#8, 0#8] ++ List.replicate 8 0#8] ∧
    (((after (.takeRequest .desk) (lead 0x81#8 1#8 8 2)).desk.replies ++ (after (.takeRequest .desk) (lead 0x83#8 1#8 3 1)).desk.replies) =
      List.replicate 2 ([5#8, 5#8, 1#8, 0#8, 0x1E#8, 0x84#8, 0x80#8, 0#8] ++ List.replicate 8 0#8)) ∧
    (after (.takeRequest .lock) (onLock (lead 0x80#8 0x10#8 8 1))).lock.replies =
      [[5#8, 1#8, 0x10#8, 0#8] ++ List.replicate 12 0#8] ∧
    (after (.takeRequest .desk) (lead 0x81#8 (BitVec.ofNat 8 (kindCode .commission)) 8 2)).desk.replies =
      [[5#8, 5#8, BitVec.ofNat 8 (kindCode .commission), 2#8, 1#8] ++ List.replicate 11 0#8] ∧
    (after (.takeRequest .desk) (lead 0x80#8 0x18#8 8 1)).desk.replies = [[5#8, 5#8, 0x18#8] ++ List.replicate 13 0#8] := by
  refine ⟨?_, ?_, ?_, ?_, ?_⟩ <;> decide +kernel

/-- A lead of three extensions in a ring of 5 and of 4; replies in parts with two records left, with one, with none. -/
theorem meets_placing_clauses :
    let short := fun (n : Nat) => { ring 0 1 false with desk := { (ring 0 1 false).desk with len := n, slots := [(0, [0x83#8, 1#8, 0x40#8] ++ List.replicate 13 1#8)] } }
    let parts := fun (rs : List Reply) => { wing with desk := { wing.desk with
      inProgress := some { tag := 1#8, kind := .timeQuery, fields := [], phase := .placing rs, discard := false } } }
    ([5, 4].map fun n => (after (.takeRequest .desk) (short n)).desk.replies.length) = [0, 1] ∧
    ([parts [[1#8], [2#8]], parts [[2#8]], wing].map fun s =>
      ((after (.placeReplyRecord .desk) s).desk.replies, (after (.placeReplyRecord .desk) s).desk.inProgress.map Request.phase)) =
      [([[1#8]], some (.placing [[2#8]])), ([[2#8]], none), ([], none)] := by
  refine ⟨?_, ?_⟩ <;> decide +kernel

end Sys2Proof.Tests
end

section
/-! PROOFS. Membership of a band (R7): one rule per row of the rule's table, assembled into the statement. -/

namespace Sys2Proof.Machine

/-- A band within one day (R7, first row). -/
theorem Band.holds_iff_of_opens_lt_closes {b : Band} (h : b.opens < b.closes) (t : Nat) :
    b.holds t = true ↔ b.opens ≤ t ∧ t < b.closes := by
  rw [Band.holds, if_pos h, Bool.and_eq_true, decide_eq_true_iff, decide_eq_true_iff]

/-- A band that wraps midnight (R7, second row): the test of the first row fails first. -/
theorem Band.holds_iff_of_closes_lt_opens {b : Band} (h : b.closes < b.opens) (t : Nat) :
    b.holds t = true ↔ b.opens ≤ t ∨ t < b.closes := by
  rw [Band.holds, if_neg h.asymm, if_pos h, Bool.or_eq_true, decide_eq_true_iff, decide_eq_true_iff]

/-- An empty band (R7, third row): neither edge is before the other. -/
theorem Band.holds_eq_false_of_opens_eq_closes {b : Band} (h : b.opens = b.closes) (t : Nat) :
    b.holds t = false := by
  rw [Band.holds, if_neg h.not_lt, if_neg h.not_gt]

/-- Settles O12, row by row of R7's table. -/
theorem bandMembershipFollowsItsThreeCases : Obligations.BandMembershipFollowsItsThreeCases := fun _ t =>
  ⟨fun within => Band.holds_iff_of_opens_lt_closes within t,
    fun wraps => Band.holds_iff_of_closes_lt_opens wraps t,
    fun empty => Band.holds_eq_false_of_opens_eq_closes empty t⟩

end Sys2Proof.Machine
end

section
/-! PROOFS. Removing a serial from the Watch List (R66): what the lookup finds, what the removal leaves, and WATCH_REMOVE by case. -/

namespace Sys2Proof.Machine

/-! #### The lookup of a serial -/

theorem watchFind_eq_none {serial : Nat} {es : List WatchEntry} (absent : ∀ e ∈ es, e.serial ≠ serial) (i : Nat) :
    watchFind serial i es = none := by
  induction es generalizing i with
  | nil => rfl
  | cons e es ih =>
    obtain ⟨head, rest⟩ := List.forall_mem_cons.mp absent
    rw [watchFind, if_neg head, ih rest]

/-- The entry nearest the front is found, at its position. -/
theorem watchFind_append_cons {serial : Nat} {front : List WatchEntry} {e : WatchEntry} (found : e.serial = serial)
    (absent : ∀ x ∈ front, x.serial ≠ serial) (i : Nat) (back : List WatchEntry) :
    watchFind serial i (front ++ e :: back) = some (i + front.length, e) := by
  induction front generalizing i with
  | nil => exact if_pos found
  | cons x front ih =>
    obtain ⟨head, rest⟩ := List.forall_mem_cons.mp absent
    rw [List.cons_append, watchFind, if_neg head, ih rest, List.length_cons, Nat.add_right_comm, Nat.add_assoc]

theorem State.watched_eq_none {s : State} {serial : Nat} (absent : ∀ e ∈ s.cred.watch, e.serial ≠ serial) :
    s.watched serial = none := by
  rw [State.watched, watchFind_eq_none absent, Option.map_none]

theorem State.watched_eq_some {s : State} {serial : Nat} {front back : List WatchEntry} {e : WatchEntry}
    (list : s.cred.watch = front ++ e :: back) (found : e.serial = serial) (absent : ∀ x ∈ front, x.serial ≠ serial) :
    s.watched serial = some e := by
  rw [State.watched, list, watchFind_append_cons found absent, Option.map_some]

/-! #### The list behind a removal -/

/-- Taking off the one entry of a serial leaves the entries before and behind it, in their order. -/
theorem filter_serial_append_cons {serial : Nat} {front back : List WatchEntry} {e : WatchEntry} (found : e.serial = serial)
    (absent : ∀ x ∈ front ++ back, x.serial ≠ serial) :
    ((front ++ e :: back).filter fun x => x.serial != serial) = front ++ back := by
  have kept : ∀ x ∈ front ++ back, (x.serial != serial) = true := fun x hx => bne_iff_ne.mpr (absent x hx)
  rw [List.filter_append, List.filter_cons_of_neg (by simp [found]), ← List.filter_append, List.filter_eq_self.mpr kept]

/-! #### WATCH_REMOVE -/

/-- The refusals of WATCH_REMOVE in their order, then the removal of the entry found. -/
theorem exec_watchRemove_asked {s : State} {fs : List Byte} (h : s.askedCm .desk .watchRemove fs) :
    exec .watchRemove s = .next
      (if s.settings.service = .unprovisioned then s.taking.answer .desk .notReady []
      else if fieldAt fs 0 4 = 0 then s.taking.answer .desk .badField []
      else
        (s.watched (fieldAt fs 0 4)).elim (s.taking.answer .desk .noSuch []) fun e =>
          ((s.taking.setWatch (s.cred.watch.filter fun x => x.serial != fieldAt fs 0 4)).offering
            [s.recordNow .credentialManager (.watchChange (.removed (fieldAt fs 0 4) e.reason))]).answer .desk .ok
            [.num 4 e.untilMinute, .num 1 (watchReasonCode e.reason)]) := by
  change execWatchRemove s = _
  have same : s.cmPop.watched (fieldAt fs 0 4) = s.watched (fieldAt fs 0 4) := rfl
  simp only [execWatchRemove, State.serveCm_asked h, State.cmPop_settings, same]
  cases s.watched (fieldAt fs 0 4) <;> rfl

theorem exec_watchRemove_unprovisioned {s : State} {fs : List Byte} (h : s.askedCm .desk .watchRemove fs)
    (unprovisioned : s.settings.service = .unprovisioned) :
    exec .watchRemove s = .next (s.taking.answer .desk .notReady []) := by
  rw [exec_watchRemove_asked h, if_pos unprovisioned]

theorem exec_watchRemove_zero {s : State} {fs : List Byte} (h : s.askedCm .desk .watchRemove fs)
    (provisioned : s.settings.service ≠ .unprovisioned) (zero : fieldAt fs 0 4 = 0) :
    exec .watchRemove s = .next (s.taking.answer .desk .badField []) := by
  rw [exec_watchRemove_asked h, if_neg provisioned, if_pos zero]

theorem exec_watchRemove_absent {s : State} {fs : List Byte} (h : s.askedCm .desk .watchRemove fs)
    (provisioned : s.settings.service ≠ .unprovisioned) (nonzero : fieldAt fs 0 4 ≠ 0)
    (absent : ∀ e ∈ s.cred.watch, e.serial ≠ fieldAt fs 0 4) :
    exec .watchRemove s = .next (s.taking.answer .desk .noSuch []) := by
  rw [exec_watchRemove_asked h, if_neg provisioned, if_neg nonzero, State.watched_eq_none absent, Option.elim_none]

theorem exec_watchRemove_listed {s : State} {fs : List Byte} {front back : List WatchEntry} {e : WatchEntry}
    (h : s.askedCm .desk .watchRemove fs) (provisioned : s.settings.service ≠ .unprovisioned) (nonzero : fieldAt fs 0 4 ≠ 0)
    (list : s.cred.watch = front ++ e :: back) (found : e.serial = fieldAt fs 0 4)
    (absent : ∀ x ∈ front ++ back, x.serial ≠ fieldAt fs 0 4) :
    exec .watchRemove s = .next
      (((s.taking.setWatch (front ++ back)).offering
        [s.recordNow .credentialManager (.watchChange (.removed (fieldAt fs 0 4) e.reason))]).answer .desk .ok
        [.num 4 e.untilMinute, .num 1 (watchReasonCode e.reason)]) := by
  have first : s.watched (fieldAt fs 0 4) = some e :=
    State.watched_eq_some list found fun x hx => absent x (List.mem_append_left back hx)
  rw [exec_watchRemove_asked h, if_neg provisioned, if_neg nonzero, first, Option.elim_some, list,
    filter_serial_append_cons found absent]

/-- Settles O29, clause by clause of R66: the three refusals, then the removal. -/
theorem watchRemoveTakesTheEntryOff : Obligations.WatchRemoveTakesTheEntryOff := fun _ _ h =>
  ⟨exec_watchRemove_unprovisioned h, exec_watchRemove_zero h, exec_watchRemove_absent h,
    fun _ _ _ provisioned nonzero list found absent =>
      exec_watchRemove_listed h provisioned nonzero list found absent⟩

end Sys2Proof.Machine
end

section
/-! PROOFS. More rules of the sparse tables: which entries a write leaves, how long it makes the table, and how a look and
a membership agree. -/

namespace Sys2Proof.Machine

variable {α : Type}

/-- A record other than the default is listed where it is read. -/
theorem mem_of_tableLook (d : α) {t : Table α} {n : Nat} (h : tableLook d t n ≠ d) : (n, tableLook d t n) ∈ t := by
  induction t with
  | nil => exact absurd rfl h
  | cons x rest ih =>
    obtain ⟨j, v⟩ := x
    by_cases hj : j = n
    · simp [tableLook, hj]
    · simp only [tableLook, if_neg hj] at h ⊢
      exact List.mem_cons_of_mem _ (ih h)

theorem le_of_mem_tableWfFrom [DecidableEq α] {d : α} {t : Table α} {low : Nat} (w : tableWfFrom d low t = true) {p : Nat × α}
    (h : p ∈ t) : low ≤ p.1 := by
  induction t generalizing low with
  | nil => cases h
  | cons x rest ih =>
    obtain ⟨j, v⟩ := x
    simp only [tableWfFrom, Bool.and_eq_true, decide_eq_true_eq] at w
    obtain ⟨⟨hj, _⟩, rising⟩ := w
    cases h with
    | head => exact hj
    | tail _ h => exact le_trans (by omega) (ih rising h)

/-- A listed record of a canonical table is what its index reads as, and is not the default. -/
theorem tableLook_of_mem [DecidableEq α] {d : α} {t : Table α} {low : Nat} (w : tableWfFrom d low t = true) {n : Nat} {v : α}
    (h : (n, v) ∈ t) : tableLook d t n = v ∧ v ≠ d := by
  induction t generalizing low with
  | nil => cases h
  | cons x rest ih =>
    obtain ⟨j, u⟩ := x
    simp only [tableWfFrom, Bool.and_eq_true, decide_eq_true_eq] at w
    obtain ⟨⟨_, hu⟩, rising⟩ := w
    cases h with
    | head => exact ⟨by simp [tableLook], hu⟩
    | tail _ h =>
      have above := le_of_mem_tableWfFrom rising h
      rw [tableLook, if_neg (by dsimp only at above; omega)]
      exact ih rising h

theorem mem_of_mem_tableErase {t : Table α} {k : Nat} {p : Nat × α} (h : p ∈ tableErase t k) : p ∈ t := by
  induction t with
  | nil => cases h
  | cons x rest ih =>
    obtain ⟨j, v⟩ := x
    unfold tableErase at h
    split at h
    · exact List.mem_cons_of_mem _ h
    · cases h with
      | head => exact List.mem_cons_self
      | tail _ h => exact List.mem_cons_of_mem _ (ih h)

theorem eq_or_mem_of_mem_tableInsert {t : Table α} {k : Nat} {a : α} {p : Nat × α} (h : p ∈ tableInsert t k a) :
    p = (k, a) ∨ p ∈ t := by
  induction t with
  | nil => exact .inl (List.mem_singleton.mp h)
  | cons x rest ih =>
    obtain ⟨j, v⟩ := x
    unfold tableInsert at h
    split at h
    · exact List.mem_cons.mp h
    · split at h
      · exact (List.mem_cons.mp h).imp_right (List.mem_cons_of_mem _)
      · cases h with
        | head => exact .inr List.mem_cons_self
        | tail _ h => exact (ih h).imp_right (List.mem_cons_of_mem _)

/-- A write adds no entry but its own. -/
theorem eq_or_mem_of_mem_tablePut [DecidableEq α] {d : α} {t : Table α} {k : Nat} {a : α} {p : Nat × α}
    (h : p ∈ tablePut d t k a) : p = (k, a) ∨ p ∈ t := by
  unfold tablePut at h
  split at h
  · exact .inr (mem_of_mem_tableErase h)
  · exact eq_or_mem_of_mem_tableInsert h

theorem length_tableErase_le (t : Table α) (k : Nat) : (tableErase t k).length ≤ t.length := by
  induction t with
  | nil => exact le_rfl
  | cons x rest ih =>
    obtain ⟨j, v⟩ := x
    unfold tableErase
    split
    · exact Nat.le_succ _
    · exact Nat.succ_le_succ ih

theorem length_tableInsert_le (t : Table α) (k : Nat) (a : α) : (tableInsert t k a).length ≤ t.length + 1 := by
  induction t with
  | nil => exact le_rfl
  | cons x rest ih =>
    obtain ⟨j, v⟩ := x
    unfold tableInsert
    split
    · exact le_rfl
    · split
      · exact Nat.le_succ _
      · exact Nat.succ_le_succ ih

/-- Inserting at an index that is listed replaces its record. -/
theorem length_tableInsert_listed [DecidableEq α] (d : α) {t : Table α} {low k : Nat} (w : tableWfFrom d low t = true) (a : α)
    (h : tableLook d t k ≠ d) : (tableInsert t k a).length = t.length := by
  induction t generalizing low with
  | nil => exact absurd rfl h
  | cons x rest ih =>
    obtain ⟨j, v⟩ := x
    simp only [tableWfFrom, Bool.and_eq_true, decide_eq_true_eq] at w
    obtain ⟨_, rising⟩ := w
    unfold tableInsert
    by_cases hj : j = k
    · simp [hj]
    · rw [tableLook, if_neg hj] at h
      have below : ¬ k < j := fun hk => h (tableLook_below d rest (j + 1) k rising (by omega))
      simp only [if_neg below, if_neg hj, List.length_cons, ih rising h]

theorem length_tablePut_le [DecidableEq α] (d : α) (t : Table α) (k : Nat) (a : α) :
    (tablePut d t k a).length ≤ t.length + 1 := by
  unfold tablePut
  split
  · exact le_trans (length_tableErase_le t k) (Nat.le_succ _)
  · exact length_tableInsert_le t k a

theorem length_tablePut_default [DecidableEq α] (d : α) (t : Table α) (k : Nat) : (tablePut d t k d).length ≤ t.length := by
  rw [tablePut, if_pos rfl]
  exact length_tableErase_le t k

/-- A write at an index that is listed makes a canonical table no longer. -/
theorem length_tablePut_listed [DecidableEq α] {d : α} {t : Table α} {k : Nat} (w : tableWf d t = true) (a : α)
    (h : tableLook d t k ≠ d) : (tablePut d t k a).length ≤ t.length := by
  unfold tablePut
  split
  · exact length_tableErase_le t k
  · exact (length_tableInsert_listed d w a h).le

/-- What a write reads as, at every index. -/
theorem tableLook_put [DecidableEq α] {d : α} {t : Table α} (w : tableWf d t = true) (k : Nat) (a : α) (n : Nat) :
    tableLook d (tablePut d t k a) n = if n = k then a else tableLook d t n := by
  split
  · next h => rw [h, tableLook_put_same d t k a w]
  · next h => exact tableLook_put_other d t k n a h

/-- A property of every listed record that a written record has too is kept by the write. -/
theorem forall_mem_tablePut [DecidableEq α] {d : α} {t : Table α} {k : Nat} {a : α} {p : α → Prop} (h : ∀ e ∈ t, p e.2)
    (ha : p a) : ∀ e ∈ tablePut d t k a, p e.2 := fun e he => by
  obtain rfl | old := eq_or_mem_of_mem_tablePut he
  · exact ha
  · exact h e old

/-- A property of every listed record and of the default holds of every record read. -/
theorem tableLook_of_forall {d : α} {t : Table α} {p : α → Prop} (h : ∀ e ∈ t, p e.2) (hd : p d) (n : Nat) :
    p (tableLook d t n) := by
  by_cases e : tableLook d t n = d
  · rw [e]; exact hd
  · exact h _ (mem_of_tableLook d e)

end Sys2Proof.Machine
end

section
/-! PROOFS. What the operations of the Credential Manager on keys and lists do, room by room and key by key: a key leaving its
lists, a key joining the lists of its rooms, an advance, a check-out, a check-in. -/

namespace Sys2Proof.Machine

/-! #### The tables of a state in canonical form -/

theorem State.tablesWf.rooms {s : State} (w : s.tablesWf) : tableWf Room.blank s.cred.rooms = true := w.1
theorem State.tablesWf.keys {s : State} (w : s.tablesWf) : tableWf none s.cred.keys = true := w.2.1
theorem State.tablesWf.doors {s : State} (w : s.tablesWf) : tableWf Door.blank s.eval.doors = true := w.2.2.1
theorem State.tablesWf.tallies {s : State} (w : s.tablesWf) : tableWf Tally.blank s.mini.tallies = true := w.2.2.2.2.1
theorem State.tablesWf.sessions {s : State} (w : s.tablesWf) : tableWf none s.mini.sessions = true := w.2.2.2.2.2.1
theorem State.tablesWf.zones {s : State} (w : s.tablesWf) : tableWf Zone.blank s.clock.zones = true := w.2.2.2.2.2.2.1
theorem State.tablesWf.schedules {s : State} (w : s.tablesWf) : tableWf Band.blank s.clock.schedules = true :=
  w.2.2.2.2.2.2.2.1
theorem State.tablesWf.entries {s : State} (w : s.tablesWf) : tableWf GroupEntry.blank s.group.entries = true :=
  w.2.2.2.2.2.2.2.2.1
theorem State.tablesWf.pages {s : State} (w : s.tablesWf) : tableWf Page.blank s.journal.pages = true :=
  w.2.2.2.2.2.2.2.2.2.1
theorem State.tablesWf.pageSlots {s : State} (w : s.tablesWf) : ∀ e ∈ s.journal.pages, tableWf erasedSlot e.2.slots = true :=
  w.2.2.2.2.2.2.2.2.2.2.2

theorem State.room_setRoom {s : State} (w : tableWf Room.blank s.cred.rooms = true) (n : Nat) (r : Room) (m : Nat) :
    (s.setRoom n r).room m = if m = n then r else s.room m := tableLook_put w n r m

theorem State.key_setKey {s : State} (w : tableWf none s.cred.keys = true) (n : Nat) (k : Option KeyRec) (m : Nat) :
    (s.setKey n k).key m = if m = n then k else s.key m := tableLook_put w n k m

theorem State.tally_setTally {s : State} (w : tableWf Tally.blank s.mini.tallies = true) (n : Nat) (x : Tally) (m : Nat) :
    (s.setTally n x).tally m = if m = n then x else s.tally m := tableLook_put w n x m

theorem State.entry_setEntry {s : State} (w : tableWf GroupEntry.blank s.group.entries = true) (n : Nat) (e : GroupEntry)
    (m : Nat) : (s.setEntry n e).entry m = if m = n then e else s.entry m := tableLook_put w n e m

theorem State.setRoom_wf {s : State} (w : tableWf Room.blank s.cred.rooms = true) (n : Nat) (r : Room) :
    tableWf Room.blank (s.setRoom n r).cred.rooms = true := tablePut_wf _ _ _ _ w

theorem State.setKey_wf {s : State} (w : tableWf none s.cred.keys = true) (n : Nat) (k : Option KeyRec) :
    tableWf none (s.setKey n k).cred.keys = true := tablePut_wf _ _ _ _ w

/-! #### Fields of a key -/

@[simp] theorem KeyRec.cancelled_entries (k : KeyRec) (reason : CancelReason) (m : Nat) :
    (k.cancelled reason m).entries = k.entries := rfl

@[simp] theorem KeyRec.cancelled_isActive (k : KeyRec) (reason : CancelReason) (m : Nat) :
    (k.cancelled reason m).isActive = false := rfl

/-- A key without its entry for a room: what an advance or a check-out leaves of a key of several rooms (R26, R32). -/
def KeyRec.without (k : KeyRec) (room : Nat) : KeyRec := k.withEntries (k.entries.filter fun e => e.room != room)

@[simp] theorem KeyRec.without_status (k : KeyRec) (room : Nat) : (k.without room).status = k.status := by
  unfold KeyRec.without KeyRec.withEntries
  split <;> rfl

@[simp] theorem KeyRec.without_isActive (k : KeyRec) (room : Nat) : (k.without room).isActive = k.isActive := by
  simp [KeyRec.isActive]

@[simp] theorem KeyRec.without_entries (k : KeyRec) (room : Nat) :
    (k.without room).entries = k.entries.filter fun e => e.room != room := by
  cases h : k.rights <;> simp [KeyRec.without, KeyRec.withEntries, KeyRec.entries, h]

theorem KeyRec.without_genFor (k : KeyRec) {room r : Nat} (h : r ≠ room) : (k.without room).genFor r = k.genFor r := by
  have same : (fun e : Entry => decide ((e.room != room) = true ∧ (e.room == r) = true)) = fun e => e.room == r := by
    funext e
    by_cases g : e.room = r <;> simp [g, h]
  rw [KeyRec.genFor, KeyRec.without_entries, List.find?_filter, same]
  rfl

/-- What becomes of a key that leaves one room's list by an advance or a check-out: it loses its entry for the room, or, if
the room is its only one, is cancelled (R26, R32). -/
def State.keyOff (s : State) (room : Nat) (reason : CancelReason) (minute n : Nat) : Option KeyRec :=
  (s.key n).map fun k => if 1 < k.entries.length then k.without room else k.cancelled reason minute

theorem State.keyOff_of_key {s t : State} {n : Nat} (h : t.key n = s.key n) (room : Nat) (reason : CancelReason) (m : Nat) :
    t.keyOff room reason m n = s.keyOff room reason m n := by
  rw [State.keyOff, State.keyOff, h]

theorem State.listedGen_of_key {s t : State} {n : Nat} (h : t.key n = s.key n) (room : Nat) :
    t.listedGen room n = s.listedGen room n := by
  rw [State.listedGen, State.listedGen, h]

/-! #### A key leaves its lists (R23, R25) -/

theorem State.unlist_recompute_room {s : State} (w : tableWf Room.blank s.cred.rooms = true) (n room r : Nat) :
    ((s.unlist n room).recompute room).room r = if r = room then s.roomWithout n room else s.room r := by
  have listed : (s.unlist n room).room room =
      { s.room room with keyList := (s.room room).keyList.filter fun k => k != n } := State.room_setRoom_same _ _ _ w
  have wf : tableWf Room.blank (s.unlist n room).cred.rooms = true := State.setRoom_wf w _ _
  rw [State.recompute, State.room_setRoom wf, listed]
  by_cases h : r = room
  · simp only [if_pos h, State.roomWithout, List.foldl_map]
    rfl
  · rw [if_neg h, if_neg h]
    exact State.room_setRoom_other _ _ _ _ h

theorem State.roomWithout_idem (s t : State) (n room : Nat) (keys : t.cred.keys = s.cred.keys)
    (h : t.room room = s.roomWithout n room) : t.roomWithout n room = s.roomWithout n room := by
  have gens : ∀ m, t.listedGen room m = s.listedGen room m := fun m =>
    State.listedGen_of_key (by rw [State.key, State.key, keys]) room
  simp [State.roomWithout, h, gens]

/-- A key that leaves its lists leaves each room it names as the room is without it, and every other room as it was. -/
theorem State.leaveLists_room_eq {s : State} (w : tableWf Room.blank s.cred.rooms = true) (n : Nat) (k : KeyRec) (r : Nat) :
    (s.leaveLists n k).room r = if r ∈ k.entries.map Entry.room then s.roomWithout n r else s.room r := by
  unfold State.leaveLists
  generalize k.entries = es
  induction es generalizing s with
  | nil => rfl
  | cons e es ih =>
    have first : ∀ x, ((s.unlist n e.room).recompute e.room).room x = if x = e.room then s.roomWithout n e.room else s.room x :=
      State.unlist_recompute_room w n e.room
    rw [List.foldl_cons, ih (tablePut_wf _ _ _ _ (tablePut_wf _ _ _ _ w))]
    by_cases h : r = e.room
    · subst h
      have here := (first e.room).trans (if_pos rfl)
      have twice := State.roomWithout_idem s ((s.unlist n e.room).recompute e.room) n e.room rfl here
      rw [here, twice, ite_self, if_pos (by simp)]
    · have there := (first r).trans (if_neg h)
      have same : ((s.unlist n e.room).recompute e.room).roomWithout n r = s.roomWithout n r := by
        unfold State.roomWithout
        rw [there]
        rfl
      rw [there, same]
      simp [h]

theorem State.leaveLists_keys (s : State) (n : Nat) (k : KeyRec) : (s.leaveLists n k).cred.keys = s.cred.keys := by
  rw [s.leaveLists_frame n k]

theorem State.cancelKey_room {s : State} (w : tableWf Room.blank s.cred.rooms = true) (n : Nat) (k : KeyRec)
    (reason : CancelReason) (r : Nat) :
    (s.cancelKey n k reason).room r = if r ∈ k.entries.map Entry.room then s.roomWithout n r else s.room r :=
  State.leaveLists_room_eq w n k r

theorem State.freeKey_room {s : State} (w : tableWf Room.blank s.cred.rooms = true) (n : Nat) (k : KeyRec) (r : Nat) :
    (s.freeKey n k).room r = if r ∈ k.entries.map Entry.room then s.roomWithout n r else s.room r :=
  State.leaveLists_room_eq w n k r

theorem State.cancelKey_key_eq {s : State} (w : tableWf none s.cred.keys = true) (n : Nat) (k : KeyRec) (reason : CancelReason)
    (m : Nat) : (s.cancelKey n k reason).key m = if m = n then some (k.cancelled reason s.clock.minute) else s.key m := by
  split
  · next h => rw [h, State.cancelKey_key s n k reason w]
  · next h => exact s.cancelKey_other n m k reason h

theorem State.freeKey_key_eq {s : State} (w : tableWf none s.cred.keys = true) (n : Nat) (k : KeyRec) (m : Nat) :
    (s.freeKey n k).key m = if m = n then none else s.key m := by
  split
  · next h => rw [h, State.freeKey_key s n k w]
  · next h => exact s.freeKey_other n m k h

/-! #### A key joins the lists of its rooms (R54) -/

/-- A room that a key has joined with a generation (R24, R54). -/
def Room.joined (r : Room) (n : Nat) (gen : Byte) : Room :=
  { r with
    keyList := r.keyList ++ [n]
    ig := if genDistance r.ig r.cg < genDistance gen r.cg then gen else r.ig }

theorem State.joinLists_frame (s : State) (n : Nat) (es : List Entry) :
    onlyRooms s (es.foldl (fun s e => s.joinList n e) s) := by
  induction es generalizing s with
  | nil => rfl
  | cons e es ih => exact onlyRooms_trans (s := s) (t := s.joinList n e) rfl (ih _)

theorem State.joinLists_wf {s : State} (w : tableWf Room.blank s.cred.rooms = true) (n : Nat) (es : List Entry) :
    tableWf Room.blank (es.foldl (fun s e => s.joinList n e) s).cred.rooms = true := by
  induction es generalizing s with
  | nil => exact w
  | cons e es ih => exact ih (State.setRoom_wf w _ _)

theorem State.joinLists_room_other (s : State) (n : Nat) (es : List Entry) {r : Nat} (h : r ∉ es.map Entry.room) :
    (es.foldl (fun s e => s.joinList n e) s).room r = s.room r := by
  induction es generalizing s with
  | nil => rfl
  | cons e es ih =>
    obtain ⟨here, rest⟩ := not_or.mp (mt List.mem_cons.mpr h)
    rw [List.foldl_cons, ih _ rest]
    exact State.room_setRoom_other _ _ _ _ here

theorem State.joinLists_room {s : State} (w : tableWf Room.blank s.cred.rooms = true) (n : Nat) {es : List Entry}
    (nodup : (es.map Entry.room).Nodup) {e : Entry} (h : e ∈ es) :
    (es.foldl (fun s e => s.joinList n e) s).room e.room = (s.room e.room).joined n e.gen := by
  induction es generalizing s with
  | nil => cases h
  | cons x es ih =>
    obtain ⟨fresh, nodup⟩ := List.nodup_cons.mp nodup
    rw [List.foldl_cons]
    cases h with
    | head => rw [State.joinLists_room_other _ n es fresh]; exact State.room_setRoom_same _ _ _ w
    | tail _ h =>
      have other : e.room ≠ x.room := fun q => fresh (q ▸ List.mem_map_of_mem h)
      have wf : tableWf Room.blank (s.joinList n x).cred.rooms = true := State.setRoom_wf w _ _
      rw [ih wf nodup h]
      exact congrArg (fun r => r.joined n e.gen) (State.room_setRoom_other _ _ _ _ other)

/-! #### The visits of an advance (R26) -/

/-- A listed key other than the presenting one that an advance finds behind the new generation (R26). -/
def State.behind (s : State) (room key : Nat) (g : Byte) (n : Nat) : Bool :=
  decide (n ≠ key ∧ 127 < genDistance (s.listedGen room n) g)

theorem State.behind_of_key {s t : State} {n : Nat} (h : t.key n = s.key n) (room key : Nat) (g : Byte) :
    t.behind room key g n = s.behind room key g n := by
  rw [State.behind, State.behind, State.listedGen_of_key h]

/-- A key names a single room at most. -/
def State.lone (s : State) (n : Nat) : Bool := decide (((s.key n).elim 0 fun k => k.entries.length) ≤ 1)

theorem State.lone_of_key {s t : State} {n : Nat} (h : t.key n = s.key n) : t.lone n = s.lone n := by
  rw [State.lone, State.lone, h]

/-- An advance's visit to one key, by case: the key is behind, or stays. -/
theorem advanceVisit_eq (room key : Nat) (g : Byte) (s : State) (kept : Nat) (dead : List Nat) {n : Nat} (h : s.key n ≠ none) :
    advanceVisit room key g (s, kept, dead) n =
      if s.behind room key g n then
        ((s.unlist n room).setKey n (s.keyOff room .superseded s.clock.minute n),
          if s.lone n then kept else kept + 1, if s.lone n then dead ++ [n] else dead)
      else (s, kept, dead) := by
  obtain ⟨k, hk⟩ := Option.ne_none_iff_exists'.mp h
  simp only [advanceVisit, hk, State.behind, State.listedGen, State.lone, State.keyOff, Option.elim_some, Option.map_some,
    decide_eq_true_eq]
  by_cases b : n ≠ key ∧ 127 < genDistance ((k.genFor room).getD 0#8) g
  · rw [if_pos b, if_pos b]
    by_cases c : 1 < k.entries.length
    · simp [c, KeyRec.without]
    · simp [c, Nat.le_of_not_lt c]
  · rw [if_neg b, if_neg b]

/-- An operation that touches no part of the state but rooms and keys. -/
def onlyCards (s t : State) : Prop := t = { s with cred := { s.cred with rooms := t.cred.rooms, keys := t.cred.keys } }

theorem onlyCards_refl (s : State) : onlyCards s s := rfl

theorem onlyCards_trans {s t u : State} (h : onlyCards s t) (g : onlyCards t u) : onlyCards s u := by
  unfold onlyCards at *
  rw [h] at g
  exact g

/-- The visits of an advance over a list of keys that are in the table, from any state. -/
structure AdvanceVisited (s t : State) (room key : Nat) (g : Byte) (l : List Nat) : Prop where
  frame : onlyCards s t
  wfRooms : tableWf Room.blank t.cred.rooms = true
  wfKeys : tableWf none t.cred.keys = true
  listed : t.room room = { s.room room with
    keyList := (s.room room).keyList.filter fun n => !(decide (n ∈ l) && s.behind room key g n) }
  rooms : ∀ r, r ≠ room → t.room r = s.room r
  keys : ∀ n, t.key n = if n ∈ l ∧ s.behind room key g n = true then s.keyOff room .superseded s.clock.minute n else s.key n

theorem AdvanceVisited.nil {s : State} (wr : tableWf Room.blank s.cred.rooms = true) (wk : tableWf none s.cred.keys = true)
    (room key : Nat) (g : Byte) : AdvanceVisited s s room key g [] :=
  ⟨rfl, wr, wk, by simp, fun _ _ => rfl, fun n => by simp⟩

/-- One visit more. -/
theorem AdvanceVisited.cons {s s1 t : State} {room key n : Nat} {g : Byte} {l : List Nat}
    (wr : tableWf Room.blank s.cred.rooms = true) (wk : tableWf none s.cred.keys = true) (fresh : n ∉ l)
    (one : s1 = if s.behind room key g n then (s.unlist n room).setKey n (s.keyOff room .superseded s.clock.minute n) else s)
    (rest : AdvanceVisited s1 t room key g l) : AdvanceVisited s t room key g (n :: l) := by
  by_cases b : s.behind room key g n = true
  · rw [if_pos b] at one
    have others : ∀ m, m ≠ n → s1.key m = s.key m := fun m hm => by
      rw [one]; exact State.key_setKey_other _ _ _ _ hm
    have self : s1.key n = s.keyOff room .superseded s.clock.minute n := by
      rw [one]; exact State.key_setKey_same _ _ _ wk
    have room1 : s1.room room = { s.room room with keyList := (s.room room).keyList.filter fun k => k != n } := by
      rw [one]; exact State.room_setRoom_same _ _ _ wr
    have clock1 : s1.clock.minute = s.clock.minute := by rw [one]; rfl
    refine ⟨onlyCards_trans (t := s1) (by rw [one]; rfl) rest.frame, rest.wfRooms, rest.wfKeys, ?_, fun r hr => ?_, fun m => ?_⟩
    · rw [rest.listed, room1]
      simp only [List.filter_filter, Room.mk.injEq, true_and, and_true]
      refine List.filter_congr fun m _ => ?_
      by_cases hm : m = n
      · simp [hm, b]
      · simp [hm, State.behind_of_key (others m hm)]
    · rw [rest.rooms r hr, one]
      exact State.room_setRoom_other _ _ _ _ hr
    · rw [rest.keys m]
      by_cases hm : m = n
      · subst hm; simp [fresh, b, self]
      · simp [hm, others m hm, State.behind_of_key (others m hm), State.keyOff_of_key (others m hm), clock1]
  · rw [if_neg b] at one
    subst one
    refine ⟨rest.frame, rest.wfRooms, rest.wfKeys, ?_, rest.rooms, fun m => ?_⟩
    · rw [rest.listed]
      simp only [Room.mk.injEq, true_and, and_true]
      refine List.filter_congr fun m _ => ?_
      by_cases hm : m = n
      · simp [hm, b]
      · simp [hm]
    · rw [rest.keys m]
      by_cases hm : m = n
      · simp [hm, b]
      · simp [hm]

/-- What the visits of an advance come to: the state, the number of keys that stay valid, and the keys cancelled. -/
theorem advanceVisits {s : State} (wr : tableWf Room.blank s.cred.rooms = true) (wk : tableWf none s.cred.keys = true)
    (room key : Nat) (g : Byte) {l : List Nat} (nodup : l.Nodup) (known : ∀ n ∈ l, s.key n ≠ none) (kept : Nat)
    (dead : List Nat) :
    AdvanceVisited s (l.foldl (advanceVisit room key g) (s, kept, dead)).1 room key g l ∧
      (l.foldl (advanceVisit room key g) (s, kept, dead)).2 =
        (kept + (l.filter fun n => s.behind room key g n && !s.lone n).length,
          dead ++ l.filter fun n => s.behind room key g n && s.lone n) := by
  induction l generalizing s kept dead with
  | nil => exact ⟨.nil wr wk room key g, by simp⟩
  | cons n l ih =>
    obtain ⟨fresh, nodup⟩ := List.nodup_cons.mp nodup
    obtain ⟨known0, known⟩ := List.forall_mem_cons.mp known
    rw [List.foldl_cons, advanceVisit_eq room key g s kept dead known0]
    by_cases b : s.behind room key g n = true
    · obtain ⟨s1, one⟩ : ∃ s1, s1 = (s.unlist n room).setKey n (s.keyOff room .superseded s.clock.minute n) := ⟨_, rfl⟩
      have wr1 : tableWf Room.blank s1.cred.rooms = true := by rw [one]; exact State.setRoom_wf wr _ _
      have wk1 : tableWf none s1.cred.keys = true := by rw [one]; exact State.setKey_wf (s := s.unlist n room) wk _ _
      have others : ∀ m ∈ l, s1.key m = s.key m := fun m hm => by
        rw [one]; exact State.key_setKey_other _ _ _ _ fun q => fresh (q ▸ hm)
      have same : ∀ f : Bool → Bool, (l.filter fun m => s1.behind room key g m && f (s1.lone m)) =
          l.filter fun m => s.behind room key g m && f (s.lone m) := fun f =>
        List.filter_congr fun m hm => by rw [State.behind_of_key (others m hm), State.lone_of_key (others m hm)]
      obtain ⟨visited, counts⟩ := ih wr1 wk1 nodup (fun m hm => by rw [others m hm]; exact known m hm)
        (if s.lone n then kept else kept + 1) (if s.lone n then dead ++ [n] else dead)
      rw [if_pos b, ← one]
      refine ⟨.cons wr wk fresh (one.trans (if_pos b).symm) visited, ?_⟩
      rw [counts, same fun x => !x]
      have cancelled := same id
      simp only [id] at cancelled
      rw [cancelled]
      cases c : s.lone n <;> simp [b, c, Nat.add_comm 1, Nat.add_assoc]
    · rw [if_neg b]
      obtain ⟨visited, counts⟩ := ih wr wk nodup known kept dead
      refine ⟨.cons wr wk fresh (if_neg b).symm visited, ?_⟩
      rw [counts]
      simp [b]

end Sys2Proof.Machine
end

section
/-! PROOFS. The advance (R26), the visits of a check-out (R32) and the writing of a check-in (R28) as a whole. -/

namespace Sys2Proof.Machine

@[simp] theorem State.offering_offering (s : State) (a b : List Rec) : (s.offering a).offering b = s.offering (a ++ b) := by
  simp only [State.offering, List.append_assoc]

/-- Records of the Credential Manager offered one by one stand in the order of the list. -/
theorem State.foldl_credOffer {α : Type} (s : State) (f : α → RecBody) (l : List α) :
    l.foldl (fun s x => s.credOffer (f x)) s = s.offering (l.map fun x => s.recordNow .credentialManager (f x)) := by
  induction l generalizing s with
  | nil => simp [State.offering]
  | cons x l ih => rw [List.foldl_cons, ih]; simp [State.offering, State.recordNow, State.credOffer, State.offerNow,
      State.offerAt, State.offer]

theorem State.credOffer_eq (s : State) (b : RecBody) : s.credOffer b = s.offering [s.recordNow .credentialManager b] := rfl

/-- The recompute of ig, over the list as it stands (R25). -/
theorem State.recompute_room {s : State} (w : tableWf Room.blank s.cred.rooms = true) (room r : Nat) :
    (s.recompute room).room r =
      if r = room then
        { s.room room with
          ig := (s.room room).cg + BitVec.ofNat 8
            (((s.room room).keyList.map fun n => (s.listedGen room n - (s.room room).cg).toNat).foldl max 0) }
      else s.room r := by
  rw [State.recompute, State.room_setRoom w, List.foldl_map]
  rfl

/-! #### The advance -/

/-- The visits of an advance: the state, the number of keys that stay valid, and the keys cancelled (R26). -/
def State.advanceFold (s : State) (room key : Nat) (g : Byte) : State × Nat × List Nat :=
  (s.room room).keyList.foldl (advanceVisit room key g) (s.setRoom room { s.room room with cg := g }, 0, [])

/-- The rooms and keys that an advance leaves, before its records (R26). -/
def State.advanceCards (s : State) (room key : Nat) (g : Byte) : State := (s.advanceFold room key g).1.recompute room

theorem State.advance_eq_fold (s : State) (room key : Nat) (g : Byte) :
    s.advance room key g =
      (s.advanceFold room key g).2.2.foldl (fun s n => s.credOffer (.keyCancelled n .superseded false))
        ((s.advanceCards room key g).credOffer (.advance room key (s.room room).cg g (s.advanceFold room key g).2.1
          (s.advanceFold room key g).2.2.length)) := rfl

/-- What an advance comes to, room by room and key by key. -/
structure Advanced (s t : State) (room key : Nat) (g : Byte) : Prop where
  frame : onlyCards s t
  wfRooms : tableWf Room.blank t.cred.rooms = true
  wfKeys : tableWf none t.cred.keys = true
  listed : t.room room =
    { s.room room with
      cg := g
      keyList := (s.room room).keyList.filter fun n => !s.behind room key g n
      ig := g + BitVec.ofNat 8 ((((s.room room).keyList.filter fun n => !s.behind room key g n).map fun n =>
        (s.listedGen room n - g).toNat).foldl max 0) }
  rooms : ∀ r, r ≠ room → t.room r = s.room r
  keys : ∀ n, t.key n =
    if n ∈ (s.room room).keyList ∧ s.behind room key g n = true then s.keyOff room .superseded s.clock.minute n else s.key n

theorem State.advanceCards_spec {s : State} (w : s.tablesWf) (room key : Nat) (g : Byte)
    (nodup : (s.room room).keyList.Nodup) (known : ∀ n ∈ (s.room room).keyList, s.key n ≠ none) :
    Advanced s (s.advanceCards room key g) room key g ∧
      (s.advanceFold room key g).2 =
        (((s.room room).keyList.filter fun n => s.behind room key g n && !s.lone n).length,
          (s.room room).keyList.filter fun n => s.behind room key g n && s.lone n) := by
  obtain ⟨visited, counts⟩ := advanceVisits (s := s.setRoom room { s.room room with cg := g })
    (State.setRoom_wf w.rooms _ _) w.keys room key g nodup known 0 []
  rw [Nat.zero_add, List.nil_append] at counts
  refine ⟨?_, counts⟩
  obtain ⟨t, ht⟩ : ∃ t, t = (s.advanceFold room key g).1 := ⟨_, rfl⟩
  rw [State.advanceCards, ← ht]
  change AdvanceVisited _ (s.advanceFold room key g).1 _ _ _ _ at visited
  rw [← ht] at visited
  have start : (s.setRoom room { s.room room with cg := g }).room room = { s.room room with cg := g } :=
    State.room_setRoom_same _ _ _ w.rooms
  have after : t.room room =
      { s.room room with cg := g, keyList := (s.room room).keyList.filter fun n => !s.behind room key g n } := by
    rw [visited.listed, start]
    simp only [Room.mk.injEq, true_and, and_true]
    refine List.filter_congr fun n hn => ?_
    simp only [hn, decide_true, Bool.true_and]
    rfl
  have stay : ∀ n ∈ (s.room room).keyList.filter fun n => !s.behind room key g n, t.listedGen room n = s.listedGen room n :=
    fun n hn => by
      refine State.listedGen_of_key ((visited.keys n).trans (if_neg fun h => ?_)) room
      have kept := (List.mem_filter.mp hn).2
      rw [show s.behind room key g n = true from h.2] at kept
      cases kept
  have opened : onlyCards s (s.setRoom room { s.room room with cg := g }) := rfl
  refine ⟨onlyCards_trans (onlyCards_trans opened visited.frame) rfl, State.setRoom_wf visited.wfRooms _ _,
    visited.wfKeys, ?_, fun r hr => ?_, visited.keys⟩
  · rw [State.recompute_room visited.wfRooms, if_pos rfl, after]
    simp only [Room.mk.injEq, true_and, and_true]
    rw [List.map_congr_left fun n hn => by rw [stay n hn]]
  · rw [State.recompute_room visited.wfRooms, if_neg hr, visited.rooms r hr]
    exact State.room_setRoom_other _ _ _ _ hr

/-- The records of an advance: one for the room, and one for each key cancelled (R26). -/
def State.advanceRecords (s : State) (room key : Nat) (g : Byte) : List Rec :=
  s.recordNow .credentialManager
      (.advance room key (s.room room).cg g
        ((s.room room).keyList.filter fun n => s.behind room key g n && !s.lone n).length
        ((s.room room).keyList.filter fun n => s.behind room key g n && s.lone n).length) ::
    ((s.room room).keyList.filter fun n => s.behind room key g n && s.lone n).map fun n =>
      s.recordNow .credentialManager (.keyCancelled n .superseded false)

/-- An advance is the change of rooms and keys with its records behind it. -/
theorem State.advance_offers (s : State) (room key : Nat) (g : Byte) :
    ∃ rs, s.advance room key g = (s.advanceCards room key g).offering rs := by
  rw [State.advance_eq_fold, State.foldl_credOffer, State.credOffer_eq]
  exact ⟨_, by simp only [State.offering, List.append_assoc]; rfl⟩

theorem State.advance_eq {s : State} (w : s.tablesWf) (room key : Nat) (g : Byte)
    (nodup : (s.room room).keyList.Nodup) (known : ∀ n ∈ (s.room room).keyList, s.key n ≠ none) :
    s.advance room key g = (s.advanceCards room key g).offering (s.advanceRecords room key g) := by
  obtain ⟨spec, counts⟩ := State.advanceCards_spec w room key g nodup known
  have clock : (s.advanceCards room key g).clock = s.clock := by rw [spec.frame]
  have now : ∀ b, (s.advanceCards room key g).recordNow .credentialManager b = s.recordNow .credentialManager b := fun b => by
    simp only [State.recordNow, clock]
  have later : ∀ rs b, ((s.advanceCards room key g).offering rs).recordNow .credentialManager b =
      s.recordNow .credentialManager b := fun _ => now
  rw [State.advance_eq_fold, State.foldl_credOffer, State.credOffer_eq, counts]
  simp only [later, now, State.offering_offering]
  rfl

/-! #### The visits of a check-out (R32) -/

theorem checkOutVisit_eq (room minute second : Nat) (s : State) (dead kept : Nat) {n : Nat} (h : s.key n ≠ none) :
    checkOutVisit room minute second (s, dead, kept) n =
      (if s.lone n then
          (s.setKey n (s.keyOff room .checkedOut minute n)).offerAt .credentialManager minute second
            (.keyCancelled n .checkedOut false)
        else s.setKey n (s.keyOff room .checkedOut minute n),
        if s.lone n then dead + 1 else dead, if s.lone n then kept else kept + 1) := by
  obtain ⟨k, hk⟩ := Option.ne_none_iff_exists'.mp h
  simp only [checkOutVisit, hk, State.lone, State.keyOff, Option.elim_some, Option.map_some]
  by_cases c : 1 < k.entries.length
  · simp [c, KeyRec.without]
  · simp [c, Nat.le_of_not_lt c]

/-- What the visits of a check-out to a list of keys come to. -/
structure CheckOutVisited (s t : State) (room minute second : Nat) (l : List Nat) : Prop where
  frame : t =
    { s with
      cred := { s.cred with keys := t.cred.keys }
      journal := { s.journal with
        offers := s.journal.offers ++ (l.filter s.lone).map fun n =>
          { source := .credentialManager, minute := minute, second := second, body := .keyCancelled n .checkedOut false } } }
  wf : tableWf none t.cred.keys = true
  keys : ∀ n, t.key n = if n ∈ l then s.keyOff room .checkedOut minute n else s.key n

theorem checkOutVisits {s : State} (wk : tableWf none s.cred.keys = true) (room minute second : Nat) {l : List Nat}
    (nodup : l.Nodup) (known : ∀ n ∈ l, s.key n ≠ none) (dead kept : Nat) :
    CheckOutVisited s (l.foldl (checkOutVisit room minute second) (s, dead, kept)).1 room minute second l ∧
      (l.foldl (checkOutVisit room minute second) (s, dead, kept)).2 =
        (dead + (l.filter s.lone).length, kept + (l.filter fun n => !s.lone n).length) := by
  induction l generalizing s dead kept with
  | nil => exact ⟨⟨by simp, wk, fun n => by simp⟩, by simp⟩
  | cons n l ih =>
    obtain ⟨fresh, nodup⟩ := List.nodup_cons.mp nodup
    obtain ⟨known0, known⟩ := List.forall_mem_cons.mp known
    obtain ⟨s1, one⟩ : ∃ s1, s1 =
        if s.lone n then
          (s.setKey n (s.keyOff room .checkedOut minute n)).offerAt .credentialManager minute second
            (.keyCancelled n .checkedOut false)
        else s.setKey n (s.keyOff room .checkedOut minute n) := ⟨_, rfl⟩
    have keys1 : s1.cred.keys = (s.setKey n (s.keyOff room .checkedOut minute n)).cred.keys := by rw [one]; split <;> rfl
    have key1 : ∀ m, s1.key m = if m = n then s.keyOff room .checkedOut minute n else s.key m := fun m => by
      rw [State.key, keys1]; exact State.key_setKey wk _ _ m
    have others : ∀ m ∈ l, s1.key m = s.key m := fun m hm => (key1 m).trans (if_neg fun q : m = n => fresh (q ▸ hm))
    have lone1 : ∀ m ∈ l, s1.lone m = s.lone m := fun m hm => State.lone_of_key (others m hm)
    have wk1 : tableWf none s1.cred.keys = true := by rw [keys1]; exact State.setKey_wf wk _ _
    obtain ⟨visited, counts⟩ := ih wk1 nodup (fun m hm => by rw [others m hm]; exact known m hm)
      (if s.lone n then dead + 1 else dead) (if s.lone n then kept else kept + 1)
    have same := List.filter_congr lone1
    have same' : (l.filter fun m => !s1.lone m) = l.filter fun m => !s.lone m :=
      List.filter_congr fun m hm => by rw [lone1 m hm]
    rw [List.foldl_cons, checkOutVisit_eq room minute second s dead kept known0, ← one]
    refine ⟨⟨?_, visited.wf, fun m => ?_⟩, ?_⟩
    · have frame := visited.frame
      rw [same] at frame
      refine frame.trans ?_
      rw [one]
      cases c : s.lone n <;>
        simp [c, State.setKey, State.offerAt, State.offer]
    · rw [visited.keys m]
      by_cases hm : m = n
      · subst hm; simp [fresh, key1]
      · by_cases hl : m ∈ l
        · simp [hl, State.keyOff_of_key (others m hl)]
        · simp [hl, hm, key1]
    · rw [counts, same, same']
      cases c : s.lone n <;> simp [c, Nat.add_comm 1, Nat.add_assoc]

/-! #### The rooms of a check-in are written (R28, R30) -/

theorem State.occupyAll_frame (s : State) (m x : Nat) (rs : List Nat) :
    onlyRooms s (rs.foldl (fun s r => s.occupy m x r) s) := by
  induction rs generalizing s with
  | nil => rfl
  | cons r rs ih => exact onlyRooms_trans (s := s) (t := s.occupy m x r) rfl (ih _)

theorem State.occupyAll_wf {s : State} (w : tableWf Room.blank s.cred.rooms = true) (m x : Nat) (rs : List Nat) :
    tableWf Room.blank (rs.foldl (fun s r => s.occupy m x r) s).cred.rooms = true := by
  induction rs generalizing s with
  | nil => exact w
  | cons r rs ih => exact ih (State.setRoom_wf w _ _)

/-- Every room of the operation is OCCUPIED with the stay, whatever its place in the list. -/
theorem State.occupyAll_room {s : State} (w : tableWf Room.blank s.cred.rooms = true) (m x : Nat) (rs : List Nat) (n : Nat) :
    (rs.foldl (fun s r => s.occupy m x r) s).room n =
      if n ∈ rs then { s.room n with state := .occupied, privacy := false, stay := some { checkIn := m, stayEnd := x } }
      else s.room n := by
  induction rs generalizing s with
  | nil => rfl
  | cons r rs ih =>
    have wf : tableWf Room.blank (s.occupy m x r).cred.rooms = true := State.setRoom_wf w _ _
    have first : (s.occupy m x r).room n = _ := State.room_setRoom w r _ n
    rw [List.foldl_cons, ih wf, first]
    by_cases h : n = r
    · subst h; by_cases g : n ∈ rs <;> simp [g]
    · simp [h]

end Sys2Proof.Machine
end

section
/-! PROOFS. What a command can do: every command is a chain of guarded changes (`Move`), from which every law that the steps
keep is derived. -/

namespace Sys2Proof.Machine

/-! #### The parts of a check-out -/

/-- The session on the minibar of a room, if one is open, is closed (R107). -/
def State.closeRoomSession (s : State) (room : Nat) (cause : CloseCause) : State :=
  match (s.tally room).door with
  | none => s
  | some d => s.closeSession d cause

theorem State.closeTally_eq (s : State) (room : Nat) (cause : CloseCause) :
    s.closeTally room cause = (s.closeRoomSession room cause).setTally room
      { (s.closeRoomSession room cause).tally room with isOpen := false } := rfl

/-- What a check-out writes once the room's session is closed: the tally, the keys, the room, the records (R31 to R33). -/
def State.checkOutRoom (s : State) (room minute second stayEnd : Nat) : State × Nat × Bool × Nat × Nat :=
  let s1 := s.setTally room { s.tally room with isOpen := false }
  let t := s1.tally room
  let (s2, dead, kept) := (s1.room room).keyList.foldl (checkOutVisit room minute second) (s1, 0, 0)
  let r := s2.room room
  let checkIn := r.stay.elim 0 Stay.checkIn
  let s3 := s2.setRoom room
    { r with
      state := .departed, cg := r.ig, keyList := [], privacy := false
      stay := some { checkIn := checkIn, stayEnd := stayEnd } }
  let s4 := s3.offerAt .credentialManager minute second
    (.stayClose room r.label checkIn stayEnd t.tally t.saturated dead kept .checkOut)
  ({ s4 with cred := { s4.cred with op := none } }, t.tally, t.saturated, dead, kept)

theorem State.checkOutClose_eq (s : State) (room minute second stayEnd : Nat) :
    s.checkOutClose room minute second stayEnd =
      (s.closeRoomSession room .checkOut).checkOutRoom room minute second stayEnd := rfl

/-- The room that a check-out leaves (R31, R32). -/
def Room.departed (r : Room) (stayEnd : Nat) : Room :=
  { r with
    state := .departed, cg := r.ig, keyList := [], privacy := false
    stay := some { checkIn := r.stay.elim 0 Stay.checkIn, stayEnd := stayEnd } }

/-- What a check-out comes to, room by room and key by key, once the room's session is closed. -/
structure CheckedOut (s t : State) (room minute second stayEnd : Nat) : Prop where
  rooms : ∀ r, t.room r = if r = room then (s.room room).departed stayEnd else s.room r
  keys : ∀ n, t.key n = if n ∈ (s.room room).keyList then s.keyOff room .checkedOut minute n else s.key n
  tallies : ∀ r, t.tally r = if r = room then { s.tally room with isOpen := false } else s.tally r
  wfRooms : tableWf Room.blank t.cred.rooms = true
  wfKeys : tableWf none t.cred.keys = true
  wfTallies : tableWf Tally.blank t.mini.tallies = true
  op : t.cred.op = none

theorem State.checkOutRoom_spec {s : State} (w : s.tablesWf) (room minute second stayEnd : Nat)
    (nodup : (s.room room).keyList.Nodup) (known : ∀ n ∈ (s.room room).keyList, s.key n ≠ none) :
    CheckedOut s (s.checkOutRoom room minute second stayEnd).1 room minute second stayEnd := by
  obtain ⟨visited, _⟩ := checkOutVisits (s := s.setTally room { s.tally room with isOpen := false }) w.keys room minute second
    nodup known 0 0
  obtain ⟨p, hp⟩ : ∃ p, p = (s.room room).keyList.foldl (checkOutVisit room minute second)
    (s.setTally room { s.tally room with isOpen := false }, 0, 0) := ⟨_, rfl⟩
  rw [← hp] at visited
  have unfolded : (s.checkOutRoom room minute second stayEnd).1 =
      { ((p.1.setRoom room ((p.1.room room).departed stayEnd)).offerAt .credentialManager minute second
          (.stayClose room (p.1.room room).label ((p.1.room room).stay.elim 0 Stay.checkIn) stayEnd
            ((s.setTally room { s.tally room with isOpen := false }).tally room).tally
            ((s.setTally room { s.tally room with isOpen := false }).tally room).saturated p.2.1 p.2.2 .checkOut)) with
        cred := { (p.1.setRoom room ((p.1.room room).departed stayEnd)).cred with op := none } } := by
    rw [hp]; rfl
  have roomsOf : p.1.cred.rooms = s.cred.rooms := by rw [visited.frame]; rfl
  have talliesOf : p.1.mini.tallies = (s.setTally room { s.tally room with isOpen := false }).mini.tallies := by
    rw [visited.frame]
  have roomOf : ∀ r, p.1.room r = s.room r := fun r => by rw [State.room, roomsOf]; rfl
  have wr : tableWf Room.blank p.1.cred.rooms = true := by rw [roomsOf]; exact w.rooms
  rw [unfolded]
  refine ⟨fun r => ?_, visited.keys, fun r => ?_, State.setRoom_wf wr _ _, visited.wf, ?_, rfl⟩
  · exact (State.room_setRoom wr _ _ r).trans (by rw [roomOf, roomOf])
  · change tableLook Tally.blank p.1.mini.tallies r = _
    rw [talliesOf]
    exact State.tally_setTally w.tallies _ _ r
  · change tableWf Tally.blank p.1.mini.tallies = true
    rw [talliesOf]
    exact tablePut_wf _ _ _ _ w.tallies

/-! #### What the Journal Unit can do -/

/-- The pages of the journal are in canonical form, and so are the slots of each. -/
def State.pagesWf (s : State) : Prop :=
  tableWf Page.blank s.journal.pages = true ∧ ∀ e ∈ s.journal.pages, tableWf erasedSlot e.2.slots = true

/-- An operation of the Journal Unit: it changes nothing but the journal and the Audit notices, and keeps the form of the
pages and the bounds of staging. -/
structure JournalOp (s t : State) : Prop where
  frame : t = { s with journal := t.journal, audit := { s.audit with notices := t.audit.notices } }
  pages : s.pagesWf → t.pagesWf
  staging : s.stagingBounded → t.stagingBounded

/-! #### What the Credential Manager can do to rooms and keys together -/

/-- The changes of rooms and keys that keep their laws only as a whole. -/
inductive CredOp : State → State → Prop
  | cancel (s : State) (n : Nat) (k : KeyRec) (reason : CancelReason)
      (found : tableWf none s.cred.keys = true → s.key n = some k) (active : k.isActive = true) :
      CredOp s (s.cancelKey n k reason)
  | free (s : State) (n : Nat) (k : KeyRec) (found : s.key n = some k) (active : k.isActive = true) :
      CredOp s (s.freeKey n k)
  | lose (s : State) (n : Nat) (k : KeyRec) (serial u : Nat) (found : tableWf none s.cred.keys = true → s.key n = some k)
      (live : k.status = .live serial) :
      CredOp s (((s.cancelKey n k .lost).credOffer (.keyCancelled n .lost false)).watchAdd serial u .lost)
  | enroll (s : State) (o : IssueOrder) (n : Nat) (k : KeyRec) (reused : Option CancelReason)
      (accepted : s.issueCheck o = .accepted n k reused) (rooms : s.listsMatchKeys → o.rooms.Nodup) :
      CredOp s (k.entries.foldl (fun s e => s.joinList n e) (s.setKey n (some k)))
  | advance (s : State) (room key : Nat) (g : Byte) (k : KeyRec) (found : s.key key = some k) (active : k.isActive = true)
      (gen : k.genFor room = some g) (ahead : 1 ≤ genDistance g (s.room room).cg) (near : genDistance g (s.room room).cg ≤ 127) :
      CredOp s (s.advanceCards room key g)
  | checkOut (s : State) (room minute second stayEnd : Nat) (op : s.cred.op = some (.checkOut room minute second stayEnd)) :
      CredOp s (s.checkOutRoom room minute second stayEnd).1
  | commit (s : State) (op : CheckInOp) (doing : s.cred.op = some (.checkIn op))
      (done : s.tablesWf → s.talliesMatchRooms → ∀ r ∈ op.rooms, (s.tally r).isOpen = true) :
      CredOp s (op.rooms.foldl (fun s r => s.occupy op.minute op.stayEnd r) { s with cred := { s.cred with op := none } })

/-! #### The changes -/

/-- One guarded change of the state: what the guards say is all that the laws need. -/
inductive Move : State → State → Prop
  | power (s : State) (b : Bool) : Move s { s with powered := b }
  | draw (s : State) (n : Nat) : Move s { s with fresh := n }
  | settings (s : State) (x : Settings)
      (range : s.settingsInRange → State.settingsInRange { s with settings := x })
      (record : s.recordMatchesService → State.recordMatchesService { s with settings := x })
      (fence : x.fence = true → s.settings.fence = true ∨ s.deskTaken = false) : Move s { s with settings := x }
  | clock (s : State) (c : Clock) (zones : c.zones = s.clock.zones) (schedules : c.schedules = s.clock.schedules)
      (range : s.clockInRange → State.clockInRange { s with clock := c }) : Move s { s with clock := c }
  | zone (s : State) (n : Nat) (z : Zone) : Move s (s.setZone n z)
  | band (s : State) (n w : Nat) (b : Band) : Move s (s.setBand n w b)
  | waiting (s : State) (w : List CmSource) : Move s { s with cred := { s.cred with waiting := w } }
  | allowance (s : State) (a d : Nat) (range : s.allowanceBounded → a ≤ 4) :
      Move s { s with cred := { s.cred with allowance := a, allowanceDeadline := d } }
  | operation (s : State) (o : CmOp)
      (law : s.tablesWf → s.talliesMatchRooms → State.talliesMatchRooms { s with cred := { s.cred with op := some o } }) :
      Move s { s with cred := { s.cred with op := some o } }
  | room (s : State) (n : Nat) (r : Room) (list : r.keyList = (s.room n).keyList) (cg : r.cg = (s.room n).cg)
      (ig : r.ig = (s.room n).ig) (state : r.state = .occupied ↔ (s.room n).state = .occupied) : Move s (s.setRoom n r)
  | useKey (s : State) (n : Nat) (old new : KeyRec) (found : s.key n = some old) (before : old.entries = [])
      (after : new.entries = []) (status : new.status = old.status ∨ new.isActive = false) : Move s (s.setKey n (some new))
  | reclaim (s : State) (n : Nat) (k : KeyRec) (found : s.key n = some k) (inactive : k.isActive = false) :
      Move s (s.setKey n none)
  | bind (s : State) (n : Nat) (k : KeyRec) (deadline serial : Nat) (found : s.key n = some k)
      (pending : k.status = .pending deadline) (free : s.liveKeyOf serial = none) (unwatched : s.watched serial = none) :
      Move s (s.setKey n (some { k with status := .live serial }))
  | watch (s : State) (serial u : Nat) (reason : WatchReason) (free : s.liveKeyOf serial = none) :
      Move s (s.watchAdd serial u reason)
  | unwatch (s : State) (w : List WatchEntry) (sub : w.Sublist s.cred.watch) : Move s (s.setWatch w)
  | cred (s t : State) (op : CredOp s t) : Move s t
  | door (s : State) (n : Nat) (d : Door) : Move s (s.setDoor n d)
  | evalOp (s : State) (o : Option EvalOp) : Move s { s with eval := { s.eval with op := o } }
  | prices (s : State) (n p : Nat) : Move s { s with mini := { s.mini with prices := tablePut 0 s.mini.prices n p } }
  | mini (s : State) (rate : Nat) (lock : Bool) (due : Nat) :
      Move s { s with mini := { s.mini with rate := rate, tariffLock := lock, idleDue := due } }
  | tally (s : State) (n : Nat) (x : Tally) (bound : x.tally ≤ Config.maxTally ∨ x.tally ≤ (s.tally n).tally)
      (law : s.tablesWf → s.talliesMatchRooms → (s.setTally n x).talliesMatchRooms) : Move s (s.setTally n x)
  | session (s : State) (n : Nat) (x : Option Session)
      (place : x = none ∨ s.session n ≠ none ∨ s.mini.sessions.length < Config.sessions) : Move s (s.setSession n x)
  | emptyPool (s : State) : Move s { s with mini := { s.mini with sessions := [] } }
  | entry (s : State) (n : Nat) (e : GroupEntry)
      (rooms : ∀ f, e.fields = some f → f.rooms.Nodup ∨ (s.entry n).fields = some f) : Move s (s.setEntry n e)
  | group (s : State) (g : Group) (entries : g.entries = s.group.entries)
      (place : g.phase.holds = true → s.groupHolds = true ∨ s.placeFree .desk = true) : Move s { s with group := g }
  | image (s : State) (r : Reply) (holds : s.groupHolds = true) :
      Move s { s.groupPhase .rest with desk := { s.desk with replies := s.desk.replies ++ [r] } }
  | offering (s : State) (rs : List Rec) : Move s (s.offering rs)
  | journal (s t : State) (op : JournalOp s t) (marks : s.tablesWf → s.marksLawful → t.marksLawful) : Move s t
  | link (s : State) (l : LinkId) (k : Link)
      (slots : tableWf blankSlot (s.link l).slots = true → tableWf blankSlot k.slots = true)
      (ring : 2 ≤ (s.link l).len ∧ (s.link l).len ≤ 16 ∧ (s.link l).head < (s.link l).len ∧ (s.link l).tail < (s.link l).len →
        2 ≤ k.len ∧ k.len ≤ 16 ∧ k.head < k.len ∧ k.tail < k.len)
      (places : s.placesTaken l ≤ Config.replyPlaces → (s.setLink l k).placesTaken l ≤ Config.replyPlaces)
      (fence : s.fenceFollowsTheDesk → (s.setLink l k).fenceFollowsTheDesk) : Move s (s.setLink l k)
  | cold (s t : State) (slotRead : List Byte) (pageRead : List (Nat × List Byte))
      (start : execColdStart slotRead pageRead s = .next t) : Move s t

/-- A chain of changes. -/
abbrev Moves : State → State → Prop := Relation.ReflTransGen Move

/-- A law that every change keeps is kept by every chain. -/
theorem Moves.keeps {p : State → Prop} (step : ∀ s t, Move s t → p s → p t) {s t : State} (h : Moves s t) (hs : p s) : p t := by
  induction h with
  | refl => exact hs
  | tail _ last ih => exact step _ _ last ih

/-- A law that every change keeps under another law kept by every change is kept by every chain. -/
theorem Moves.keeps_under {p q : State → Prop} (under : ∀ s t, Move s t → p s → p t)
    (step : ∀ s t, Move s t → p s → q s → q t) {s t : State} (h : Moves s t) (hp : p s) (hq : q s) : q t :=
  (Moves.keeps (p := fun s => p s ∧ q s) (fun _ _ m hs => ⟨under _ _ m hs.1, step _ _ m hs.1 hs.2⟩) h ⟨hp, hq⟩).2

/-! #### What the changes of the Credential Manager leave unchanged -/

/-- An operation that changes nothing but rooms, keys, Watch List, operation in progress, tallies and records offered. -/
def onlyHotel (s t : State) : Prop :=
  t =
    { s with
      cred := { s.cred with
        rooms := t.cred.rooms, keys := t.cred.keys, watch := t.cred.watch, op := t.cred.op }
      mini := { s.mini with tallies := t.mini.tallies }
      journal := { s.journal with offers := t.journal.offers } }

theorem onlyHotel_trans {s t u : State} (h : onlyHotel s t) (g : onlyHotel t u) : onlyHotel s u := by
  unfold onlyHotel at *
  rw [h] at g
  exact g

theorem onlyHotel_of_onlyCards {s t : State} (h : onlyCards s t) : onlyHotel s t := by
  unfold onlyHotel
  rw [h]

theorem onlyHotel_of_onlyRooms {s t : State} (h : onlyRooms s t) : onlyHotel s t := by
  unfold onlyHotel
  rw [h]

theorem State.watchAdd_frame (s : State) (serial u : Nat) (reason : WatchReason) :
    s.watchAdd serial u reason =
      { s with
        cred := { s.cred with watch := (s.watchAdd serial u reason).cred.watch }
        journal := { s.journal with offers := (s.watchAdd serial u reason).journal.offers } } := by
  unfold State.watchAdd
  cases s.watchPlan serial u <;> rfl

theorem State.foldl_frame {α β : Type} (rel : State → State → Prop) (refl : ∀ s, rel s s)
    (trans : ∀ s t u, rel s t → rel t u → rel s u) (f : State × β → α → State × β) (one : ∀ a x, rel a.1 (f a x).1)
    (l : List α) (a : State × β) : rel a.1 (l.foldl f a).1 := by
  induction l generalizing a with
  | nil => exact refl _
  | cons x l ih => exact trans _ _ _ (one a x) (ih _)

theorem advanceVisit_frame (room key : Nat) (g : Byte) (a : State × Nat × List Nat) (n : Nat) :
    onlyCards a.1 (advanceVisit room key g a n).1 := by
  unfold advanceVisit
  dsimp only
  split
  · rfl
  · split
    · split <;> rfl
    · rfl

theorem checkOutVisit_frame (room minute second : Nat) (a : State × Nat × Nat) (n : Nat) :
    onlyHotel a.1 (checkOutVisit room minute second a n).1 := by
  unfold checkOutVisit
  dsimp only
  split
  · rfl
  · split <;> rfl

theorem State.advanceCards_frame (s : State) (room key : Nat) (g : Byte) : onlyCards s (s.advanceCards room key g) := by
  have opened : onlyCards s (s.setRoom room { s.room room with cg := g }) := rfl
  have visited := State.foldl_frame onlyCards onlyCards_refl (fun _ _ _ => onlyCards_trans) _ (advanceVisit_frame room key g)
    (s.room room).keyList (s.setRoom room { s.room room with cg := g }, 0, [])
  exact onlyCards_trans (onlyCards_trans opened visited) rfl

theorem State.checkOutRoom_frame (s : State) (room minute second stayEnd : Nat) :
    onlyHotel s (s.checkOutRoom room minute second stayEnd).1 := by
  have closed : onlyHotel s (s.setTally room { s.tally room with isOpen := false }) := rfl
  have visited := State.foldl_frame onlyHotel (fun _ => rfl) (fun _ _ _ => onlyHotel_trans) _
    (checkOutVisit_frame room minute second) (s.room room).keyList
    (s.setTally room { s.tally room with isOpen := false }, 0, 0)
  exact onlyHotel_trans (onlyHotel_trans closed visited) rfl

theorem CredOp.frame {s t : State} (op : CredOp s t) : onlyHotel s t := by
  cases op with
  | cancel n k reason => rw [State.cancelKey_frame]; rfl
  | free n k => rw [State.freeKey_frame]; rfl
  | lose n k serial u =>
    have cancelled : onlyHotel s ((s.cancelKey n k .lost).credOffer (.keyCancelled n .lost false)) := by
      rw [State.cancelKey_frame]; rfl
    refine onlyHotel_trans cancelled ?_
    rw [State.watchAdd_frame]
    rfl
  | enroll o n k =>
    have keyed : onlyHotel s (s.setKey n (some k)) := rfl
    exact onlyHotel_trans keyed (onlyHotel_of_onlyRooms (State.joinLists_frame _ n k.entries))
  | advance room key g => exact onlyHotel_of_onlyCards (s.advanceCards_frame room key g)
  | checkOut room minute second stayEnd => exact s.checkOutRoom_frame room minute second stayEnd
  | commit op =>
    have freed : onlyHotel s { s with cred := { s.cred with op := none } } := rfl
    exact onlyHotel_trans freed (onlyHotel_of_onlyRooms (State.occupyAll_frame _ _ _ op.rooms))

/-- Links are not among what an operation of the hotel changes. -/
theorem onlyHotel_link {s t : State} (h : onlyHotel s t) (l : LinkId) : t.link l = s.link l := by
  rw [h]
  cases l <;> rfl

theorem JournalOp.link {s t : State} (h : JournalOp s t) (l : LinkId) :
    t.link l = { s.link l with notices := (t.link l).notices } := by
  rw [h.frame]
  cases l <;> rfl

end Sys2Proof.Machine
end

section
/-! PROOFS. Every change keeps the tables in canonical form, the queue, the reply places, the pool and the fence's law. -/

namespace Sys2Proof.Machine

/-! #### The canonical form (O3) -/

/-- An operation that keeps the tables of rooms, keys and tallies in canonical form. -/
def keepsHotelWf (s t : State) : Prop :=
  (tableWf Room.blank s.cred.rooms = true → tableWf Room.blank t.cred.rooms = true) ∧
  (tableWf none s.cred.keys = true → tableWf none t.cred.keys = true) ∧
  (tableWf Tally.blank s.mini.tallies = true → tableWf Tally.blank t.mini.tallies = true)

theorem keepsHotelWf_refl (s : State) : keepsHotelWf s s := ⟨id, id, id⟩

theorem keepsHotelWf_trans (s t u : State) (h : keepsHotelWf s t) (g : keepsHotelWf t u) : keepsHotelWf s u := by
  obtain ⟨hr, hk, ht⟩ := h
  obtain ⟨gr, gk, gt⟩ := g
  exact ⟨gr ∘ hr, gk ∘ hk, gt ∘ ht⟩

theorem keepsHotelWf_of_same {s t : State} (rooms : t.cred.rooms = s.cred.rooms) (keys : t.cred.keys = s.cred.keys)
    (tallies : t.mini.tallies = s.mini.tallies) : keepsHotelWf s t := by
  unfold keepsHotelWf
  rw [rooms, keys, tallies]
  exact ⟨id, id, id⟩

theorem keepsHotelWf_setRoom (s : State) (n : Nat) (r : Room) : keepsHotelWf s (s.setRoom n r) :=
  ⟨fun w => State.setRoom_wf w n r, id, id⟩

theorem keepsHotelWf_setKey (s : State) (n : Nat) (k : Option KeyRec) : keepsHotelWf s (s.setKey n k) :=
  ⟨id, fun w => State.setKey_wf w n k, id⟩

theorem keepsHotelWf_setTally (s : State) (n : Nat) (x : Tally) : keepsHotelWf s (s.setTally n x) :=
  ⟨id, id, fun w => tablePut_wf _ _ _ _ w⟩

theorem keepsHotelWf_leaveLists (s : State) (n : Nat) (k : KeyRec) : keepsHotelWf s (s.leaveLists n k) := by
  have frame := s.leaveLists_frame n k
  refine ⟨s.leaveLists_wf n k, ?_, ?_⟩ <;> rw [frame] <;> exact id

theorem keepsHotelWf_advanceVisit (room key : Nat) (g : Byte) (a : State × Nat × List Nat) (n : Nat) :
    keepsHotelWf a.1 (advanceVisit room key g a n).1 := by
  unfold advanceVisit
  dsimp only
  split
  · exact keepsHotelWf_refl _
  · split
    · split <;> exact keepsHotelWf_trans _ _ _ (keepsHotelWf_setRoom _ _ _) (keepsHotelWf_setKey _ _ _)
    · exact keepsHotelWf_refl _

theorem keepsHotelWf_checkOutVisit (room minute second : Nat) (a : State × Nat × Nat) (n : Nat) :
    keepsHotelWf a.1 (checkOutVisit room minute second a n).1 := by
  unfold checkOutVisit
  dsimp only
  split
  · exact keepsHotelWf_refl _
  · split <;> exact keepsHotelWf_setKey _ _ _

theorem CredOp.keepsHotelWf {s t : State} (op : CredOp s t) : keepsHotelWf s t := by
  cases op with
  | cancel n k => exact keepsHotelWf_trans _ _ _ (keepsHotelWf_leaveLists s n k) (keepsHotelWf_setKey _ _ _)
  | free n k => exact keepsHotelWf_trans _ _ _ (keepsHotelWf_leaveLists s n k) (keepsHotelWf_setKey _ _ _)
  | lose n k serial u =>
    have cancelled := keepsHotelWf_trans _ _ _ (keepsHotelWf_leaveLists s n k)
      (keepsHotelWf_setKey _ n (some (k.cancelled .lost s.clock.minute)))
    refine keepsHotelWf_trans _ _ _ cancelled ?_
    rw [State.watchAdd_frame]
    exact keepsHotelWf_of_same rfl rfl rfl
  | enroll o n k =>
    refine keepsHotelWf_trans _ _ _ (keepsHotelWf_setKey s n (some k)) ?_
    have frame := State.joinLists_frame (s.setKey n (some k)) n k.entries
    refine ⟨fun w => State.joinLists_wf w n k.entries, ?_, ?_⟩ <;> rw [frame] <;> exact id
  | advance room key g =>
    have visited := State.foldl_frame Machine.keepsHotelWf keepsHotelWf_refl keepsHotelWf_trans _
      (keepsHotelWf_advanceVisit room key g) (s.room room).keyList (s.setRoom room { s.room room with cg := g }, 0, [])
    exact keepsHotelWf_trans _ _ _ (keepsHotelWf_trans _ _ _ (keepsHotelWf_setRoom _ _ _) visited)
      (keepsHotelWf_setRoom _ _ _)
  | checkOut room minute second stayEnd =>
    have visited := State.foldl_frame Machine.keepsHotelWf keepsHotelWf_refl keepsHotelWf_trans _
      (keepsHotelWf_checkOutVisit room minute second) (s.room room).keyList
      (s.setTally room { s.tally room with isOpen := false }, 0, 0)
    exact keepsHotelWf_trans _ _ _ (keepsHotelWf_trans _ _ _ (keepsHotelWf_setTally _ _ _) visited)
      (keepsHotelWf_setRoom _ _ _)
  | commit op =>
    have frame := State.occupyAll_frame { s with cred := { s.cred with op := none } } op.minute op.stayEnd op.rooms
    refine ⟨fun w => State.occupyAll_wf (s := { s with cred := { s.cred with op := none } }) w op.minute op.stayEnd op.rooms, ?_, ?_⟩ <;> rw [frame] <;> exact id

/-- What a cold start leaves of the pages is canonical, with the slots as they were. -/
theorem scanPages_wf {pages : Table Page} (slots : ∀ e ∈ pages, tableWf erasedSlot e.2.slots = true) :
    tableWf Page.blank (scanPages pages) = true ∧ ∀ e ∈ scanPages pages, tableWf erasedSlot e.2.slots = true := by
  suffices h : ∀ (ps : Table Page) (a : Table Page), (∀ e ∈ ps, tableWf erasedSlot e.2.slots = true) →
      (tableWf Page.blank a = true ∧ ∀ e ∈ a, tableWf erasedSlot e.2.slots = true) →
      tableWf Page.blank (ps.foldl (fun t p => tablePut Page.blank t p.1 { Page.blank with slots := p.2.slots }) a) = true ∧
        ∀ e ∈ ps.foldl (fun t p => tablePut Page.blank t p.1 { Page.blank with slots := p.2.slots }) a,
          tableWf erasedSlot e.2.slots = true from h pages [] slots ⟨rfl, fun _ he => absurd he List.not_mem_nil⟩
  intro ps
  induction ps with
  | nil => exact fun a _ ha => ha
  | cons p ps ih =>
    intro a hps ha
    obtain ⟨here, rest⟩ := List.forall_mem_cons.mp hps
    obtain ⟨wf, slots⟩ := ha
    exact ih _ rest ⟨tablePut_wf _ _ _ _ wf,
      forall_mem_tablePut (p := fun q : Page => tableWf erasedSlot q.slots = true) slots here⟩

theorem slotsOf_wf (reads : List (Nat × List Byte)) : tableWf erasedSlot (slotsOf reads) = true := by
  unfold slotsOf
  generalize reads.filter _ = rs
  suffices h : ∀ a, tableWf erasedSlot a = true →
      tableWf erasedSlot (rs.foldl (fun t r => tablePut erasedSlot t r.1 (asSlot r.2)) a) = true from h [] rfl
  induction rs with
  | nil => exact fun _ h => h
  | cons r rs ih => exact fun a h => ih _ (tablePut_wf _ _ _ _ h)

theorem State.pageSlots_wf {s : State} (h : s.pagesWf) (p : Nat) : tableWf erasedSlot (s.page p).slots = true :=
  tableLook_of_forall (p := fun q : Page => tableWf erasedSlot q.slots = true) h.2 rfl p

theorem State.setPage_wf {s : State} (h : s.pagesWf) (p : Nat) {x : Page} (hx : tableWf erasedSlot x.slots = true) :
    (s.setPage p x).pagesWf :=
  ⟨tablePut_wf _ _ _ _ h.1, forall_mem_tablePut (p := fun q : Page => tableWf erasedSlot q.slots = true) h.2 hx⟩

theorem Page.setSlot_wf {x : Page} (h : tableWf erasedSlot x.slots = true) (n : Nat) (bs : List Byte) :
    tableWf erasedSlot (x.setSlot n bs).slots = true := tablePut_wf _ _ _ _ h

theorem State.cutPages_wf {s : State} (h : s.pagesWf) (slotRead : List Byte) (pageRead : List (Nat × List Byte)) :
    (s.cutPages slotRead pageRead).pagesWf := by
  unfold State.cutPages
  split
  · exact State.setPage_wf h _ (Page.setSlot_wf (State.pageSlots_wf h _) _ _)
  · exact State.setPage_wf h _ (slotsOf_wf pageRead)
  · exact h

theorem Move.keeps_tables {s t : State} (m : Move s t) (w : s.tablesWf) : t.tablesWf := by
  obtain ⟨rooms, keys, doors, prices, tallies, sessions, zones, schedules, entries, pages, links, slots⟩ := id w
  cases m with
  | clock c sameZones sameSchedules =>
    refine ⟨rooms, keys, doors, prices, tallies, sessions, ?_, ?_, entries, pages, links, slots⟩
    · exact (congrArg (tableWf Zone.blank) sameZones).trans zones
    · exact (congrArg (tableWf Band.blank) sameSchedules).trans schedules
  | zone n z =>
    exact ⟨rooms, keys, doors, prices, tallies, sessions, tablePut_wf _ _ _ _ zones, schedules, entries, pages, links, slots⟩
  | band n d b =>
    exact ⟨rooms, keys, doors, prices, tallies, sessions, zones, tablePut_wf _ _ _ _ schedules, entries, pages, links, slots⟩
  | room n r => exact ⟨State.setRoom_wf rooms n r, w.2⟩
  | useKey n old new =>
    exact ⟨rooms, State.setKey_wf keys _ _, doors, prices, tallies, sessions, zones, schedules, entries, pages, links, slots⟩
  | reclaim n k =>
    exact ⟨rooms, State.setKey_wf keys _ _, doors, prices, tallies, sessions, zones, schedules, entries, pages, links, slots⟩
  | bind n k =>
    exact ⟨rooms, State.setKey_wf keys _ _, doors, prices, tallies, sessions, zones, schedules, entries, pages, links, slots⟩
  | watch serial u reason => rw [State.watchAdd_frame]; exact w
  | cred _ op =>
    obtain ⟨keepsRooms, keepsKeys, keepsTallies⟩ := op.keepsHotelWf
    rw [op.frame]
    exact ⟨keepsRooms rooms, keepsKeys keys, doors, prices, keepsTallies tallies, sessions, zones, schedules, entries, pages,
      links, slots⟩
  | door n d =>
    exact ⟨rooms, keys, tablePut_wf _ _ _ _ doors, prices, tallies, sessions, zones, schedules, entries, pages, links, slots⟩
  | prices n p =>
    exact ⟨rooms, keys, doors, tablePut_wf _ _ _ _ prices, tallies, sessions, zones, schedules, entries, pages, links, slots⟩
  | tally n x =>
    exact ⟨rooms, keys, doors, prices, tablePut_wf _ _ _ _ tallies, sessions, zones, schedules, entries, pages, links, slots⟩
  | session n x =>
    exact ⟨rooms, keys, doors, prices, tallies, tablePut_wf _ _ _ _ sessions, zones, schedules, entries, pages, links, slots⟩
  | emptyPool => exact ⟨rooms, keys, doors, prices, tallies, rfl, zones, schedules, entries, pages, links, slots⟩
  | entry n e =>
    exact ⟨rooms, keys, doors, prices, tallies, sessions, zones, schedules, tablePut_wf _ _ _ _ entries, pages, links, slots⟩
  | group g same =>
    refine ⟨rooms, keys, doors, prices, tallies, sessions, zones, schedules, ?_, pages, links, slots⟩
    exact (congrArg (tableWf GroupEntry.blank) same).trans entries
  | image r =>
    refine ⟨rooms, keys, doors, prices, tallies, sessions, zones, schedules, entries, pages, fun l => ?_, slots⟩
    cases l
    · exact links .desk
    · exact links .lock
    · exact links .audit
  | journal _ op =>
    obtain ⟨pages', slots'⟩ := op.pages ⟨pages, slots⟩
    rw [op.frame]
    refine ⟨rooms, keys, doors, prices, tallies, sessions, zones, schedules, entries, pages', fun l => ?_, slots'⟩
    cases l
    · exact links .desk
    · exact links .lock
    · exact links .audit
  | link l k keeps =>
    have here := keeps (links l)
    refine ⟨?_, ?_, ?_, ?_, ?_, ?_, ?_, ?_, ?_, ?_, fun x => ?_, ?_⟩
    · simpa using rooms
    · simpa using keys
    · simpa using doors
    · simpa using prices
    · simpa using tallies
    · simpa using sessions
    · simpa using zones
    · simpa using schedules
    · simpa using entries
    · simpa using pages
    · rw [State.link_setLink]
      split
      · exact here
      · exact links x
    · simpa using slots
  | cold _ a b start =>
    obtain rfl := Host.Outcome.next.inj start
    obtain ⟨wf, scanned⟩ := scanPages_wf (State.cutPages_wf ⟨pages, slots⟩ a b).2
    exact ⟨rfl, rfl, rfl, rfl, rfl, rfl, rfl, rfl, rfl, wf, fun l => by cases l <;> rfl, scanned⟩
  | _ => exact w

/-! #### The queue of waiting commands (O2) -/

theorem Move.keeps_pending {s t : State} (m : Move s t) : t.pending = s.pending := by
  cases m with
  | watch => rw [State.watchAdd_frame]
  | cred _ op => rw [op.frame]
  | journal _ op => rw [op.frame]
  | link l k => simp
  | cold _ a b start =>
    obtain rfl := Host.Outcome.next.inj start
    rfl
  | _ => rfl

/-! #### The fence (O53) -/

theorem State.fenceFollowsTheDesk_of_deskTaken {s : State} (h : s.deskTaken = false) (r : Request)
    (hr : s.desk.inProgress = some r) : r.phase ≠ .taken := fun taken => by
  rw [(State.deskTaken_iff s).mpr ⟨r, hr, taken⟩] at h
  cases h

theorem Move.keeps_fence {s t : State} (m : Move s t) (f : s.fenceFollowsTheDesk) : t.fenceFollowsTheDesk := by
  cases m with
  | settings x _ _ fence =>
    exact fun on => (fence on).elim f fun free => State.fenceFollowsTheDesk_of_deskTaken free
  | watch => rw [State.watchAdd_frame]; exact f
  | cred _ op => rw [op.frame]; exact f
  | journal _ op => rw [op.frame]; exact f
  | link l k _ _ _ fence => exact fence f
  | cold _ a b start =>
    obtain rfl := Host.Outcome.next.inj start
    exact fun on => nomatch on
  | _ => exact f

/-! #### The reply places (O4) -/

theorem State.placesTaken_setLink_other (s : State) {l l' : LinkId} (k : Link) (h : l' ≠ l) :
    (s.setLink l k).placesTaken l' = s.placesTaken l' := by
  rw [State.placesTaken, State.placesTaken, State.link_setLink_other s l l' k h, State.groupHolds, State.setLink_group]
  rfl

theorem Move.keeps_places {s t : State} (m : Move s t) (b : s.repliesBounded) : t.repliesBounded := by
  cases m with
  | watch => rw [State.watchAdd_frame]; exact b
  | cred _ op => rw [op.frame]; exact b
  | group g _ place =>
    intro l
    cases l with
    | desk =>
      cases h : g.phase.holds with
      | false =>
        have now := b .desk
        simp only [State.placesTaken, State.groupHolds, State.link, h, Bool.and_false, Bool.toNat_false] at now ⊢
        omega
      | true =>
        obtain held | free := place h
        · have now := b .desk
          simp only [State.placesTaken, State.groupHolds, State.link, h] at now held ⊢
          rw [held] at now
          exact now
        · have room := of_decide_eq_true free
          simp only [State.placesTaken, State.groupHolds, State.link, h, beq_self_eq_true, Bool.and_true,
            Bool.toNat_true] at room ⊢
          omega
    | lock => exact b .lock
    | audit => exact b .audit
  | image r holds =>
    intro l
    cases l with
    | desk =>
      have now := b .desk
      rw [State.placesTaken, holds] at now
      simp only [State.placesTaken, State.groupHolds, State.link, State.groupPhase, GroupPhase.holds, List.length_append,
        List.length_singleton, Bool.and_false, beq_self_eq_true, Bool.and_true, Bool.toNat_true, Bool.toNat_false] at now ⊢
      omega
    | lock => exact b .lock
    | audit => exact b .audit
  | journal _ op =>
    intro l
    have same : t.placesTaken l = s.placesTaken l := by
      rw [State.placesTaken, State.placesTaken, op.link l, State.groupHolds, op.frame]
      rfl
    rw [same]
    exact b l
  | link l k _ _ places =>
    intro x
    by_cases h : x = l
    · rw [h]; exact places (b l)
    · rw [State.placesTaken_setLink_other s k h]; exact b x
  | cold _ a c start =>
    obtain rfl := Host.Outcome.next.inj start
    intro l
    cases l <;> exact Nat.zero_le 16
  | _ => exact b

/-! #### The Session Pool (O4) -/

theorem Move.keeps_pool {s t : State} (m : Move s t) (w : s.tablesWf) (b : s.poolBounded) : t.poolBounded := by
  cases m with
  | watch => rw [State.watchAdd_frame]; exact b
  | cred _ op => rw [op.frame]; exact b
  | session n x place =>
    obtain none | open_ | free := place
    · subst none; exact le_trans (length_tablePut_default none s.mini.sessions n) b
    · exact le_trans (length_tablePut_listed w.sessions x open_) b
    · exact le_trans (length_tablePut_le _ _ n x) free
  | emptyPool => exact Nat.zero_le _
  | journal _ op => rw [op.frame]; exact b
  | link l k => simpa [State.poolBounded] using b
  | cold _ a c start =>
    obtain rfl := Host.Outcome.next.inj start
    exact Nat.zero_le _
  | _ => exact b

end Sys2Proof.Machine
end

section
/-! PROOFS. Every change keeps the ranges (O5). -/

namespace Sys2Proof.Machine

/-! #### The Watch List under the add procedure -/

theorem watchEarliest_mem {w : List WatchEntry} {e : WatchEntry} (h : watchEarliest w = some e) : e ∈ w := by
  induction w generalizing e with
  | nil => cases h
  | cons x w ih =>
    unfold watchEarliest at h
    split at h
    · exact Option.some.inj h ▸ List.mem_cons_self
    · next f found =>
      split at h
      · exact Option.some.inj h ▸ List.mem_cons_of_mem _ (ih found)
      · exact Option.some.inj h ▸ List.mem_cons_self

/-- An eviction is planned of an entry of the list, for a serial that is not on it. -/
theorem State.watchPlan_evicting {s : State} {serial u old : Nat} (h : s.watchPlan serial u = .evicting old) :
    s.watched serial = none ∧ ∃ e ∈ s.cred.watch, e.serial = old := by
  unfold State.watchPlan at h
  split at h
  · cases h
  · next absent =>
    split at h
    · cases h
    · split at h
      · next e found =>
        split at h
        · exact ⟨absent, e, watchEarliest_mem found, WatchOutcome.evicting.inj h⟩
        · cases h
      · cases h

theorem State.watchPlan_added {s : State} {serial u : Nat} (h : s.watchPlan serial u = .added) :
    s.watched serial = none ∧ s.cred.watch.length < Config.watchEntries := by
  unfold State.watchPlan at h
  split at h
  · cases h
  · next absent =>
    split at h
    · next room => exact ⟨absent, room⟩
    · split at h
      · split at h <;> cases h
      · cases h

/-- The Watch List that the add procedure leaves, by its outcome (R63, R64). -/
theorem State.watchAdd_watch (s : State) (serial u : Nat) (reason : WatchReason) :
    (s.watchAdd serial u reason).cred.watch =
      match s.watchPlan serial u with
      | .updated =>
        s.cred.watch.map fun x => if x.serial = serial then { serial := serial, untilMinute := u, reason := reason } else x
      | .added => s.cred.watch ++ [{ serial := serial, untilMinute := u, reason := reason }]
      | .evicting old =>
        (s.cred.watch.filter fun x => x.serial != old) ++ [{ serial := serial, untilMinute := u, reason := reason }]
      | .full => s.cred.watch := by
  unfold State.watchAdd
  cases s.watchPlan serial u <;> rfl

theorem State.watchAdd_bounded {s : State} (b : s.watchBounded) (serial u : Nat) (reason : WatchReason) :
    (s.watchAdd serial u reason).watchBounded := by
  unfold State.watchBounded
  rw [State.watchAdd_watch]
  cases h : s.watchPlan serial u with
  | updated => exact (List.length_map _).le.trans b
  | added =>
    have room := (State.watchPlan_added h).2
    simp only [List.length_append, List.length_singleton]
    omega
  | evicting old =>
    obtain ⟨e, mem, rfl⟩ := (State.watchPlan_evicting h).2
    have fewer : (s.cred.watch.filter fun x => x.serial != e.serial).length < s.cred.watch.length :=
      List.length_filter_lt_length_iff_exists.mpr ⟨e, mem, by simp⟩
    have now : s.cred.watch.length ≤ Config.watchEntries := b
    simp only [List.length_append, List.length_singleton]
    omega
  | full => exact b

/-! #### Tallies -/

theorem State.tally_bounded {s : State} (b : s.talliesBounded) (n : Nat) : (s.tally n).tally ≤ Config.maxTally :=
  tableLook_of_forall (p := fun x : Tally => x.tally ≤ Config.maxTally) b (Nat.zero_le _) n

theorem State.setTally_bounded {s : State} (b : s.talliesBounded) (n : Nat) {x : Tally} (h : x.tally ≤ Config.maxTally) :
    (s.setTally n x).talliesBounded :=
  forall_mem_tablePut (p := fun x : Tally => x.tally ≤ Config.maxTally) b h

/-- A check-out writes one tally, its open flag alone. -/
theorem State.checkOutRoom_tallies (s : State) (room minute second stayEnd : Nat) :
    (s.checkOutRoom room minute second stayEnd).1.mini.tallies =
      (s.setTally room { s.tally room with isOpen := false }).mini.tallies := by
  have one : ∀ (a : State × Nat × Nat) (n : Nat),
      (checkOutVisit room minute second a n).1.mini.tallies = a.1.mini.tallies := fun a n => by
    unfold checkOutVisit
    dsimp only
    split
    · rfl
    · split <;> rfl
  exact State.foldl_frame (fun s t => t.mini.tallies = s.mini.tallies) (fun _ => rfl) (fun _ _ _ h g => g.trans h) _ one
    (s.room room).keyList (s.setTally room { s.tally room with isOpen := false }, 0, 0)

theorem CredOp.keeps_watchBounded {s t : State} (op : CredOp s t) (b : s.watchBounded) : t.watchBounded := by
  cases op with
  | cancel n k reason => rw [State.cancelKey_frame]; exact b
  | free n k => rw [State.freeKey_frame]; exact b
  | lose n k serial u =>
    refine State.watchAdd_bounded ?_ _ _ _
    rw [State.cancelKey_frame]
    exact b
  | enroll o n k => rw [State.joinLists_frame (s.setKey n (some k)) n k.entries]; exact b
  | advance room key g => rw [s.advanceCards_frame room key g]; exact b
  | checkOut room minute second stayEnd =>
    have one : ∀ (a : State × Nat × Nat) (n : Nat), (checkOutVisit room minute second a n).1.cred.watch = a.1.cred.watch :=
      fun a n => by
        unfold checkOutVisit
        dsimp only
        split
        · rfl
        · split <;> rfl
    have same := State.foldl_frame (fun s t => t.cred.watch = s.cred.watch) (fun _ => rfl) (fun _ _ _ h g => g.trans h) _ one
      (s.room room).keyList (s.setTally room { s.tally room with isOpen := false }, 0, 0)
    exact (congrArg (fun w : List WatchEntry => w.length ≤ Config.watchEntries) same).mpr b
  | commit op =>
    rw [State.occupyAll_frame { s with cred := { s.cred with op := none } } op.minute op.stayEnd op.rooms]
    exact b

theorem CredOp.keeps_talliesBounded {s t : State} (op : CredOp s t) (b : s.talliesBounded) : t.talliesBounded := by
  cases op with
  | cancel n k reason => rw [State.cancelKey_frame]; exact b
  | free n k => rw [State.freeKey_frame]; exact b
  | lose n k serial u => rw [State.watchAdd_frame, State.cancelKey_frame]; exact b
  | enroll o n k => rw [State.joinLists_frame (s.setKey n (some k)) n k.entries]; exact b
  | advance room key g => rw [s.advanceCards_frame room key g]; exact b
  | checkOut room minute second stayEnd =>
    unfold State.talliesBounded
    rw [State.checkOutRoom_tallies]
    exact State.setTally_bounded b _ (State.tally_bounded b room)
  | commit op =>
    rw [State.occupyAll_frame { s with cred := { s.cred with op := none } } op.minute op.stayEnd op.rooms]
    exact b

/-! #### The ranges -/

/-- A part right after reset is in its ranges. -/
theorem State.reset_inRanges : State.reset.inRanges :=
  ⟨⟨by decide, by decide⟩, ⟨by decide, by decide⟩, Nat.zero_le 4, ⟨fun _ => rfl, fun _ => rfl⟩, Nat.zero_le _,
    ⟨by decide, by decide, by decide, by decide, by decide⟩, fun _ h => absurd h List.not_mem_nil,
    fun l => by cases l <;> decide⟩

theorem Move.keeps_ranges {s t : State} (m : Move s t) (r : s.inRanges) : t.inRanges := by
  obtain ⟨clock, staging, allowance, record, watch, settings, tallies, rings⟩ := id r
  cases m with
  | settings x range keeps => exact ⟨clock, staging, allowance, keeps record, watch, range settings, tallies, rings⟩
  | clock c _ _ range => exact ⟨range clock, staging, allowance, record, watch, settings, tallies, rings⟩
  | allowance a d range => exact ⟨clock, staging, range allowance, record, watch, settings, tallies, rings⟩
  | watch serial u reason =>
    have bounded := State.watchAdd_bounded watch serial u reason
    rw [State.watchAdd_frame]
    exact ⟨clock, staging, allowance, record, bounded, settings, tallies, rings⟩
  | unwatch w sub => exact ⟨clock, staging, allowance, record, le_trans sub.length_le watch, settings, tallies, rings⟩
  | cred _ op =>
    have watch' := op.keeps_watchBounded watch
    have tallies' := op.keeps_talliesBounded tallies
    rw [op.frame]
    exact ⟨clock, staging, allowance, record, watch', settings, tallies', rings⟩
  | tally n x bound =>
    have le : x.tally ≤ Config.maxTally := bound.elim id fun h => le_trans h (State.tally_bounded tallies n)
    exact ⟨clock, staging, allowance, record, watch, settings, State.setTally_bounded tallies n le, rings⟩
  | image x =>
    refine ⟨clock, staging, allowance, record, watch, settings, tallies, fun l => ?_⟩
    cases l
    · exact rings .desk
    · exact rings .lock
    · exact rings .audit
  | journal _ op =>
    have staging' := op.staging staging
    rw [op.frame]
    refine ⟨clock, staging', allowance, record, watch, settings, tallies, fun l => ?_⟩
    cases l
    · exact rings .desk
    · exact rings .lock
    · exact rings .audit
  | link l k _ ring =>
    have here := ring (rings l)
    refine ⟨?_, ?_, ?_, ?_, ?_, ?_, ?_, fun x => ?_⟩
    · simpa [State.clockInRange] using clock
    · simpa [State.stagingBounded] using staging
    · simpa [State.allowanceBounded] using allowance
    · simpa [State.recordMatchesService] using record
    · simpa [State.watchBounded] using watch
    · simpa [State.settingsInRange] using settings
    · unfold State.talliesBounded; rw [State.setLink_mini]; exact tallies
    · rw [State.link_setLink]
      split
      · exact here
      · exact rings x
  | cold _ a b start =>
    obtain rfl := Host.Outcome.next.inj start
    exact State.reset_inRanges
  | _ => exact r

end Sys2Proof.Machine
end

section
/-! PROOFS. The changes of rooms and keys by what becomes of the keys: a key gone from its lists, a key enrolled, keys off one
room's list, rooms checked in. -/

namespace Sys2Proof.Machine

/-! #### A key gone from its lists -/

/-- A PENDING or LIVE key is gone: it is FREE or CANCELLED, and off every room it names (R23, R43). -/
structure KeyGone (s t : State) (n : Nat) (k : KeyRec) : Prop where
  others : ∀ m, m ≠ n → t.key m = s.key m
  self : ∀ j, t.key n = some j → j.isActive = false ∧ j.entries = k.entries
  rooms : ∀ r, t.room r = if r ∈ k.entries.map Entry.room then s.roomWithout n r else s.room r
  entries : ∀ e, t.entry e = s.entry e

theorem State.cancelKey_gone {s : State} (w : s.tablesWf) (n : Nat) (k : KeyRec) (reason : CancelReason) :
    KeyGone s (s.cancelKey n k reason) n k := by
  refine ⟨fun m hm => s.cancelKey_other n m k reason hm, fun j hj => ?_, State.cancelKey_room w.rooms n k reason, fun e => ?_⟩
  · rw [State.cancelKey_key s n k reason w.keys] at hj
    exact Option.some.inj hj ▸ ⟨rfl, rfl⟩
  · rw [State.cancelKey_frame]; rfl

theorem State.freeKey_gone {s : State} (w : s.tablesWf) (n : Nat) (k : KeyRec) : KeyGone s (s.freeKey n k) n k := by
  refine ⟨fun m hm => s.freeKey_other n m k hm, fun j hj => ?_, State.freeKey_room w.rooms n k, fun e => ?_⟩
  · rw [State.freeKey_key s n k w.keys] at hj
    cases hj
  · rw [State.freeKey_frame]; rfl

/-- Records and Watch List are not among what the gone key's law speaks of. -/
theorem KeyGone.of_same {s t u : State} {n : Nat} {k : KeyRec} (g : KeyGone s t n k) (rooms : u.cred.rooms = t.cred.rooms)
    (keys : u.cred.keys = t.cred.keys) (entries : u.group.entries = t.group.entries) : KeyGone s u n k := by
  have room : ∀ r, u.room r = t.room r := fun r => by rw [State.room, rooms]; rfl
  have key : ∀ m, u.key m = t.key m := fun m => by rw [State.key, keys]; rfl
  refine ⟨fun m hm => (key m).trans (g.others m hm), fun j hj => g.self j ((key n).symm.trans hj),
    fun r => (room r).trans (g.rooms r), fun e => ?_⟩
  rw [State.entry, entries]
  exact g.entries e

theorem State.lose_gone {s : State} (w : s.tablesWf) (n : Nat) (k : KeyRec) (serial u : Nat) :
    KeyGone s (((s.cancelKey n k .lost).credOffer (.keyCancelled n .lost false)).watchAdd serial u .lost) n k := by
  refine (State.cancelKey_gone w n k .lost).of_same ?_ ?_ ?_ <;> rw [State.watchAdd_frame] <;> rfl

/-! #### A key enrolled -/

/-- What an accepted issue has checked (R49 to R51). -/
structure IssuePassed (s : State) (o : IssueOrder) (n : Nat) (k : KeyRec) (reused : Option CancelReason) : Prop where
  occupied : ∀ r ∈ o.rooms, (s.room r).state = .occupied
  free : ∀ r ∈ o.rooms, (s.room r).keyList.length < Config.roomKeys
  near : ∀ rooms zones minibar, o.rights = .guest .new rooms zones minibar →
    ∀ r ∈ rooms, genDistance ((s.room r).ig + 1#8) (s.room r).cg ≤ 127
  allocated : s.allocate = some (n, reused)
  key : ∃ start stop, k = s.newKey o start stop

theorem State.issueCheckWindow_accepted {s : State} {o : IssueOrder} {n : Nat} {k : KeyRec} {reused : Option CancelReason}
    (h : s.issueCheckWindow o = .accepted n k reused) :
    s.allocate = some (n, reused) ∧ ∃ start stop, k = s.newKey o start stop := by
  unfold State.issueCheckWindow at h
  split at h
  · cases h
  · next start stop _ =>
    split at h
    · cases h
    · split at h
      · cases h
      · next m r allocated =>
        obtain ⟨rfl, rfl, rfl⟩ := IssueOutcome.accepted.inj h
        exact ⟨allocated, start, stop, rfl⟩

theorem State.issueCheck_accepted {s : State} {o : IssueOrder} {n : Nat} {k : KeyRec} {reused : Option CancelReason}
    (h : s.issueCheck o = .accepted n k reused) : IssuePassed s o n k reused := by
  unfold State.issueCheck at h
  split at h
  case h_1 | h_2 | h_3 => cases h
  case h_4 noClosed noFull noFar =>
    obtain ⟨allocated, key⟩ := State.issueCheckWindow_accepted h
    refine ⟨fun r hr => ?_, fun r hr => ?_, fun rooms zones minibar rights r hr => ?_, allocated, key⟩
    · simpa using List.find?_eq_none.mp noClosed r hr
    · simpa using List.find?_eq_none.mp noFull r hr
    · rw [rights] at noFar
      simpa using List.find?_eq_none.mp noFar r hr

theorem freeKeyFrom_free {s : State} {fuel low n : Nat} (h : freeKeyFrom s fuel low = some n) : s.key n = none := by
  induction fuel generalizing low with
  | zero => cases h
  | succ fuel ih =>
    unfold freeKeyFrom at h
    split at h
    · next free => exact Option.some.inj h ▸ Option.isNone_iff_eq_none.mp free
    · exact ih h

theorem earliestCancelled_mem {t : Table (Option KeyRec)} {n m : Nat} {r : CancelReason}
    (h : earliestCancelled t = some (n, m, r)) : ∃ k, (n, some k) ∈ t ∧ k.cancelInfo = some (m, r) := by
  induction t generalizing n m r with
  | nil => cases h
  | cons x rest ih =>
    obtain ⟨j, v⟩ := x
    have later : earliestCancelled rest = some (n, m, r) → ∃ k, (n, some k) ∈ (j, v) :: rest ∧ k.cancelInfo = some (m, r) :=
      fun found => (ih found).imp fun _ ⟨mem, info⟩ => ⟨List.mem_cons_of_mem _ mem, info⟩
    have here : ∀ m' r', v.bind KeyRec.cancelInfo = some (m', r') → some (j, m', r') = some (n, m, r) →
        ∃ k, (n, some k) ∈ (j, v) :: rest ∧ k.cancelInfo = some (m, r) := fun m' r' info same => by
      obtain ⟨rfl, rfl, rfl⟩ : j = n ∧ m' = m ∧ r' = r := by simpa using same
      obtain ⟨k, rfl, info⟩ := Option.bind_eq_some_iff.mp info
      exact ⟨k, List.mem_cons_self, info⟩
    unfold earliestCancelled at h
    split at h
    · exact later h
    · next m' r' info none => exact here m' r' info h
    · next m' r' n' m'' r'' info found =>
      split at h
      · exact later (found.trans h)
      · exact here m' r' info h

theorem KeyRec.cancelInfo_inactive {k : KeyRec} {i : Nat × CancelReason} (h : k.cancelInfo = some i) : k.isActive = false := by
  unfold KeyRec.cancelInfo at h
  unfold KeyRec.isActive
  split at h
  · next status => rw [status]
  · cases h

/-- The number an issue takes is that of a FREE or CANCELLED key (R45). -/
theorem State.allocate_inactive {s : State} (w : tableWf none s.cred.keys = true) {n : Nat} {reused : Option CancelReason}
    (h : s.allocate = some (n, reused)) {j : KeyRec} (hj : s.key n = some j) : j.isActive = false := by
  unfold State.allocate at h
  split at h
  · next m free =>
    obtain ⟨rfl, _⟩ : m = n ∧ none = reused := by simpa using h
    rw [freeKeyFrom_free free] at hj
    cases hj
  · obtain ⟨⟨m, minute, reason⟩, found, same⟩ := Option.map_eq_some_iff.mp h
    obtain ⟨rfl, _⟩ : m = n ∧ some reason = reused := by simpa using same
    obtain ⟨k, mem, info⟩ := earliestCancelled_mem found
    have look : s.key m = some k := (tableLook_of_mem w mem).1
    rw [look] at hj
    exact Option.some.inj hj ▸ KeyRec.cancelInfo_inactive info

theorem State.newKey_isActive (s : State) (o : IssueOrder) (start stop : Nat) : (s.newKey o start stop).isActive = true := rfl

theorem State.newKey_entries (s : State) (o : IssueOrder) (start stop : Nat) :
    (s.newKey o start stop).entries.map Entry.room = o.rooms := by
  unfold State.newKey KeyRec.entries IssueOrder.rooms issueRights
  cases o.rights <;> simp [Function.comp_def]

/-- The generation of an entry of a new key: the room's ig, or one further on under mode NEW (R50). -/
theorem State.newKey_gen {s : State} {o : IssueOrder} {start stop : Nat} {e : Entry} (h : e ∈ (s.newKey o start stop).entries) :
    e.room ∈ o.rooms ∧ (e.gen = (s.room e.room).ig ∨
      e.gen = (s.room e.room).ig + 1#8 ∧ ∃ rooms zones minibar, o.rights = .guest .new rooms zones minibar ∧ e.room ∈ rooms) := by
  refine ⟨by rw [← s.newKey_entries o start stop]; exact List.mem_map_of_mem h, ?_⟩
  unfold State.newKey KeyRec.entries issueRights at h
  cases rights : o.rights with
  | guest mode rooms zones minibar =>
    rw [rights] at h
    obtain ⟨r, hr, rfl⟩ := List.mem_map.mp h
    cases mode with
    | new => exact .inr ⟨rfl, rooms, zones, minibar, rfl, hr⟩
    | copy => exact .inl rfl
  | staff zones schedule restock => rw [rights] at h; cases h
  | service zones uses => rw [rights] at h; cases h
  | emergency => rw [rights] at h; cases h

/-- A key enrolled under a FREE or CANCELLED number, at the end of the lists of its rooms. -/
structure Enrolled (s t : State) (n : Nat) (k : KeyRec) : Prop where
  keys : ∀ m, t.key m = if m = n then some k else s.key m
  listed : ∀ e ∈ k.entries, t.room e.room = (s.room e.room).joined n e.gen
  rooms : ∀ r, r ∉ k.entries.map Entry.room → t.room r = s.room r
  entries : ∀ e, t.entry e = s.entry e

theorem State.enroll_spec {s : State} (w : s.tablesWf) (n : Nat) {k : KeyRec} (nodup : (k.entries.map Entry.room).Nodup) :
    Enrolled s (k.entries.foldl (fun s e => s.joinList n e) (s.setKey n (some k))) n k := by
  have frame := State.joinLists_frame (s.setKey n (some k)) n k.entries
  refine ⟨fun m => ?_, fun e he => State.joinLists_room (s := s.setKey n (some k)) w.rooms n nodup he,
    fun r hr => State.joinLists_room_other (s.setKey n (some k)) n k.entries hr, fun e => ?_⟩
  · rw [frame]; exact State.key_setKey w.keys n (some k) m
  · rw [frame]; rfl

/-! #### Keys off one room's list -/

/-- Some keys of one room's list are off it: each loses its entry for the room, or, if the room is its only one, is
cancelled (R26, R32). -/
structure KeysOff (s t : State) (room : Nat) (off : Nat → Bool) : Prop where
  members : ∀ n, off n = true → n ∈ (s.room room).keyList
  keys : ∃ reason minute, ∀ n, t.key n = if off n = true then s.keyOff room reason minute n else s.key n
  list : (t.room room).keyList = (s.room room).keyList.filter fun n => !off n
  rooms : ∀ r, r ≠ room → t.room r = s.room r
  entries : ∀ e, t.entry e = s.entry e

theorem State.listsMatchKeys.known {s : State} (h : s.listsMatchKeys) {r n : Nat} (mem : n ∈ (s.room r).keyList) :
    s.key n ≠ none := by
  obtain ⟨_, listed, _⟩ := h
  obtain ⟨k, hk, _⟩ := (listed r n).mp mem
  simp [hk]

theorem State.advance_off {s : State} (w : s.tablesWf) (h : s.listsMatchKeys) (room key : Nat) (g : Byte) :
    KeysOff s (s.advanceCards room key g) room fun n => decide (n ∈ (s.room room).keyList) && s.behind room key g n := by
  obtain ⟨spec, _⟩ := State.advanceCards_spec w room key g (h.1 room) fun n => h.known
  refine ⟨fun n hn => ?_, ⟨.superseded, s.clock.minute, fun n => ?_⟩, ?_, spec.rooms, fun e => ?_⟩
  · simp only [Bool.and_eq_true, decide_eq_true_eq] at hn
    exact hn.1
  · rw [spec.keys n]
    simp only [Bool.and_eq_true, decide_eq_true_eq]
  · rw [spec.listed]
    exact List.filter_congr fun n hn => by simp [hn]
  · rw [spec.frame]; rfl

theorem State.checkOut_off {s : State} (w : s.tablesWf) (h : s.listsMatchKeys) (room minute second stayEnd : Nat) :
    KeysOff s (s.checkOutRoom room minute second stayEnd).1 room fun n => decide (n ∈ (s.room room).keyList) := by
  have spec := State.checkOutRoom_spec w room minute second stayEnd (h.1 room) fun n => h.known
  refine ⟨fun n hn => of_decide_eq_true hn, ⟨.checkedOut, minute, fun n => ?_⟩, ?_, fun r hr => ?_, fun e => ?_⟩
  · rw [spec.keys n]
    simp only [decide_eq_true_eq]
  · rw [spec.rooms room, if_pos rfl]
    exact (List.filter_eq_nil_iff.mpr fun n hn => by simp [hn]).symm
  · rw [spec.rooms r, if_neg hr]
  · rw [s.checkOutRoom_frame room minute second stayEnd]; rfl

/-- What becomes of a key that is off a room's list: it is active no more, or it is as it was but for its entry of the room. -/
theorem State.keyOff_cases {s : State} (h : s.listsMatchKeys) {room n : Nat} (mem : n ∈ (s.room room).keyList)
    (reason : CancelReason) (minute : Nat) :
    ∃ k, s.key n = some k ∧ k.isActive = true ∧ room ∈ k.entries.map Entry.room ∧
      (s.keyOff room reason minute n = some (k.without room) ∨
        s.keyOff room reason minute n = some (k.cancelled reason minute) ∧ k.entries.map Entry.room = [room]) := by
  obtain ⟨_, listed, _⟩ := h
  obtain ⟨k, hk, active, names⟩ := (listed room n).mp mem
  refine ⟨k, hk, active, names, ?_⟩
  rw [State.keyOff, hk, Option.map_some]
  by_cases c : 1 < k.entries.length
  · exact .inl (by rw [if_pos c])
  · refine .inr ⟨by rw [if_neg c], ?_⟩
    have one : (k.entries.map Entry.room).length = 1 := by
      have := List.length_pos_of_mem names
      simp only [List.length_map] at this ⊢
      omega
    obtain ⟨x, hx⟩ := List.length_eq_one_iff.mp one
    rw [hx] at names ⊢
    rw [List.mem_singleton.mp names]

end Sys2Proof.Machine
end

section
/-! PROOFS. Every change keeps the laws of key lists, active keys, serials and list lengths (O9, O10). -/

namespace Sys2Proof.Machine

/-! #### The laws in terms of what a key number holds -/

/-- A key number holds a PENDING or LIVE key with an entry for a room. -/
def namesActive (k : Option KeyRec) (r : Nat) : Prop := ∃ j, k = some j ∧ j.isActive = true ∧ r ∈ j.entries.map Entry.room

/-- A key number holds a LIVE key bound to a serial. -/
def boundTo (k : Option KeyRec) (serial : Nat) : Prop := ∃ j, k = some j ∧ j.status = .live serial

theorem not_namesActive_of_inactive {k : Option KeyRec} (h : ∀ j, k = some j → j.isActive = false) (r : Nat) :
    ¬ namesActive k r := fun ⟨j, hj, active, _⟩ => by rw [h j hj] at active; cases active

theorem not_namesActive_of_noEntries {k : Option KeyRec} (h : ∀ j, k = some j → j.entries = []) (r : Nat) :
    ¬ namesActive k r := fun ⟨j, hj, _, names⟩ => by rw [h j hj] at names; cases names

theorem boundTo.active {k : KeyRec} {serial : Nat} (h : k.status = .live serial) : k.isActive = true := by
  simp [KeyRec.isActive, h]

theorem not_boundTo_of_inactive {k : Option KeyRec} (h : ∀ j, k = some j → j.isActive = false) (serial : Nat) :
    ¬ boundTo k serial := fun ⟨j, hj, live⟩ =>
  absurd (boundTo.active live) (by simp [h j hj])

theorem State.listsMatchKeys_of {s t : State} (h : s.listsMatchKeys)
    (lists : ∀ r, (t.room r).keyList = (s.room r).keyList)
    (keys : ∀ n r, namesActive (t.key n) r ↔ namesActive (s.key n) r)
    (nodup : ∀ n k, t.key n = some k → (k.entries.map Entry.room).Nodup)
    (entries : ∀ n f, (t.entry n).fields = some f → f.rooms.Nodup) : t.listsMatchKeys := by
  obtain ⟨once, listed, _, _⟩ := h
  refine ⟨fun r => ?_, fun r n => ?_, nodup, entries⟩
  · rw [lists]; exact once r
  · rw [lists, listed r n]; exact (keys n r).symm

theorem State.activeKeysInOccupiedRooms_of {s t : State} (h : s.activeKeysInOccupiedRooms)
    (states : ∀ r, (s.room r).state = .occupied → (t.room r).state = .occupied)
    (keys : ∀ n r, namesActive (t.key n) r → namesActive (s.key n) r) : t.activeKeysInOccupiedRooms :=
  fun n k hk active r names =>
    have ⟨j, hj, active', names'⟩ := keys n r ⟨k, hk, active, names⟩
    states r (h n j hj active' r names')

theorem State.serialsUnique_of {s t : State} (h : s.serialsUnique) (keys : ∀ n x, boundTo (t.key n) x → boundTo (s.key n) x)
    (watch : ∀ e ∈ t.cred.watch, ∃ x ∈ s.cred.watch, x.serial = e.serial) : t.serialsUnique := by
  obtain ⟨unique, unwatched⟩ := h
  refine ⟨fun n m j k serial hj hk liveJ liveK => ?_, fun n k serial hk live e he same => ?_⟩
  · obtain ⟨j', hj', liveJ'⟩ := keys n serial ⟨j, hj, liveJ⟩
    obtain ⟨k', hk', liveK'⟩ := keys m serial ⟨k, hk, liveK⟩
    exact unique n m j' k' serial hj' hk' liveJ' liveK'
  · obtain ⟨k', hk', live'⟩ := keys n serial ⟨k, hk, live⟩
    obtain ⟨x, hx, sameX⟩ := watch e he
    exact unwatched n k' serial hk' live' x hx (sameX.trans same)

/-! #### Writing one key -/

theorem State.listsMatchKeys_setKey {s : State} (w : s.tablesWf) (h : s.listsMatchKeys) (n : Nat) (new : Option KeyRec)
    (same : ∀ r, namesActive new r ↔ namesActive (s.key n) r) (nodup : ∀ k, new = some k → (k.entries.map Entry.room).Nodup) :
    (s.setKey n new).listsMatchKeys := by
  have key := State.key_setKey (s := s) w.keys n new
  obtain ⟨_, _, once, entries⟩ := id h
  refine State.listsMatchKeys_of h (fun _ => rfl) (fun m r => ?_) (fun m k hk => ?_) entries
  · rw [key]
    by_cases hm : m = n
    · rw [if_pos hm, hm]; exact same r
    · rw [if_neg hm]
  · rw [key] at hk
    by_cases hm : m = n
    · rw [if_pos hm] at hk; exact nodup k hk
    · rw [if_neg hm] at hk; exact once m k hk

theorem State.activeKeysInOccupiedRooms_setKey {s : State} (w : s.tablesWf) (h : s.activeKeysInOccupiedRooms) (n : Nat)
    (new : Option KeyRec) (same : ∀ r, namesActive new r → namesActive (s.key n) r) :
    (s.setKey n new).activeKeysInOccupiedRooms := by
  refine State.activeKeysInOccupiedRooms_of h (fun _ => id) fun m r => ?_
  rw [State.key_setKey w.keys n new m]
  by_cases hm : m = n
  · rw [if_pos hm, hm]; exact same r
  · rw [if_neg hm]; exact id

theorem State.serialsUnique_setKey {s : State} (w : s.tablesWf) (h : s.serialsUnique) (n : Nat) (new : Option KeyRec)
    (same : ∀ x, boundTo new x → boundTo (s.key n) x) : (s.setKey n new).serialsUnique := by
  refine State.serialsUnique_of h (fun m x => ?_) fun e he => ⟨e, he, rfl⟩
  rw [State.key_setKey w.keys n new m]
  by_cases hm : m = n
  · rw [if_pos hm, hm]; exact same x
  · rw [if_neg hm]; exact id

/-! #### A key gone -/

theorem KeyGone.key_names {s t : State} {n : Nat} {k : KeyRec} (g : KeyGone s t n k) (m r : Nat) :
    namesActive (t.key m) r ↔ m ≠ n ∧ namesActive (s.key m) r := by
  by_cases hm : m = n
  · subst hm
    simpa using not_namesActive_of_inactive (fun j hj => (g.self j hj).1) r
  · rw [g.others m hm]
    simp [hm]

theorem KeyGone.keyList {s t : State} {n : Nat} {k : KeyRec} (g : KeyGone s t n k) (r : Nat) :
    (t.room r).keyList =
      if r ∈ k.entries.map Entry.room then (s.room r).keyList.filter fun m => m != n else (s.room r).keyList := by
  rw [g.rooms r]
  split <;> rfl

theorem KeyGone.keeps_lists {s t : State} {n : Nat} {k : KeyRec} (g : KeyGone s t n k) (found : s.key n = some k)
    (h : s.listsMatchKeys) : t.listsMatchKeys := by
  obtain ⟨once, listed, nodup, entries⟩ := h
  refine ⟨fun r => ?_, fun r m => (?_ : _ ↔ namesActive (t.key m) r), fun m j hj => ?_, fun e f hf => ?_⟩
  · rw [g.keyList r]
    split
    · exact (once r).filter _
    · exact once r
  · rw [g.keyList r, g.key_names m r]
    have before : m ∈ (s.room r).keyList ↔ namesActive (s.key m) r := listed r m
    split
    · simp [before, and_comm]
    · next off =>
      rw [before, iff_and_self]
      rintro ⟨j, hj, _, names⟩ rfl
      rw [found] at hj
      exact off (Option.some.inj hj ▸ names)
  · by_cases hm : m = n
    · rw [(g.self j (hm ▸ hj)).2]; exact nodup n k found
    · rw [g.others m hm] at hj; exact nodup m j hj
  · rw [g.entries e] at hf; exact entries e f hf

theorem KeyGone.keeps_active {s t : State} {n : Nat} {k : KeyRec} (g : KeyGone s t n k) (h : s.activeKeysInOccupiedRooms) :
    t.activeKeysInOccupiedRooms := by
  refine State.activeKeysInOccupiedRooms_of h (fun r hr => ?_) fun m r hm => ((g.key_names m r).mp hm).2
  rw [g.rooms r]
  split <;> exact hr

theorem KeyGone.key_bound {s t : State} {n : Nat} {k : KeyRec} (g : KeyGone s t n k) {m x : Nat} (h : boundTo (t.key m) x) :
    m ≠ n ∧ boundTo (s.key m) x := by
  by_cases hm : m = n
  · subst hm; exact absurd h (not_boundTo_of_inactive (fun j hj => (g.self j hj).1) x)
  · rw [g.others m hm] at h; exact ⟨hm, h⟩

theorem KeyGone.keeps_serials {s t : State} {n : Nat} {k : KeyRec} (g : KeyGone s t n k) (h : s.serialsUnique)
    (watch : t.cred.watch = s.cred.watch) : t.serialsUnique :=
  State.serialsUnique_of h (fun _ _ hm => (g.key_bound hm).2) (by rw [watch]; exact fun e he => ⟨e, he, rfl⟩)

theorem KeyGone.keeps_bounded {s t : State} {n : Nat} {k : KeyRec} (g : KeyGone s t n k) (h : s.listsBounded) :
    t.listsBounded := fun r => by
  rw [g.keyList r]
  split
  · exact le_trans (List.length_filter_le _ _) (h r)
  · exact h r

/-! #### A key enrolled -/

theorem Enrolled.keyList {s t : State} {n : Nat} {k : KeyRec} (g : Enrolled s t n k) (r : Nat) :
    (t.room r).keyList =
      if r ∈ k.entries.map Entry.room then (s.room r).keyList ++ [n] else (s.room r).keyList := by
  split
  · next names =>
    obtain ⟨e, he, rfl⟩ := List.mem_map.mp names
    rw [g.listed e he]; rfl
  · next names => rw [g.rooms r names]

theorem Enrolled.state {s t : State} {n : Nat} {k : KeyRec} (g : Enrolled s t n k) (r : Nat) :
    (t.room r).state = (s.room r).state := by
  by_cases names : r ∈ k.entries.map Entry.room
  · obtain ⟨e, he, rfl⟩ := List.mem_map.mp names
    rw [g.listed e he]; rfl
  · rw [g.rooms r names]

theorem Enrolled.keeps_lists {s t : State} {n : Nat} {k : KeyRec} (g : Enrolled s t n k) (h : s.listsMatchKeys)
    (inactive : ∀ j, s.key n = some j → j.isActive = false) (active : k.isActive = true)
    (nodupK : (k.entries.map Entry.room).Nodup) : t.listsMatchKeys := by
  obtain ⟨once, listed, nodup, entries⟩ := h
  have absent : ∀ r, n ∉ (s.room r).keyList := fun r mem =>
    not_namesActive_of_inactive inactive r ((listed r n).mp mem)
  refine ⟨fun r => ?_, fun r m => (?_ : _ ↔ namesActive (t.key m) r), fun m j hj => ?_, fun e f hf => ?_⟩
  · rw [g.keyList r]
    split
    · exact List.nodup_append.mpr ⟨once r, List.nodup_singleton n, fun a ha b hb => by
        rw [List.mem_singleton.mp hb]; exact fun q => absent r (q ▸ ha)⟩
    · exact once r
  · have before : m ∈ (s.room r).keyList ↔ namesActive (s.key m) r := listed r m
    rw [g.keyList r, g.keys m]
    by_cases hm : m = n
    · subst hm
      have now : namesActive (some k) r ↔ r ∈ k.entries.map Entry.room :=
        ⟨fun ⟨j, hj, _, names⟩ => Option.some.inj hj ▸ names, fun names => ⟨k, rfl, active, names⟩⟩
      rw [if_pos rfl, now]
      by_cases names : r ∈ k.entries.map Entry.room
      · simp only [names, iff_true]; exact List.mem_append_right _ (List.mem_singleton_self m)
      · simp only [names, iff_false]; exact absent r
    · rw [if_neg hm, ← before]
      split <;> simp [hm]
  · rw [g.keys m] at hj
    by_cases hm : m = n
    · rw [if_pos hm] at hj; exact Option.some.inj hj ▸ nodupK
    · rw [if_neg hm] at hj; exact nodup m j hj
  · rw [g.entries e] at hf; exact entries e f hf

theorem Enrolled.keeps_active {s t : State} {n : Nat} {k : KeyRec} (g : Enrolled s t n k) (h : s.activeKeysInOccupiedRooms)
    (occupied : ∀ r ∈ k.entries.map Entry.room, (s.room r).state = .occupied) : t.activeKeysInOccupiedRooms :=
  fun m j hj active r names => by
    rw [g.state r]
    rw [g.keys m] at hj
    by_cases hm : m = n
    · rw [if_pos hm] at hj; exact occupied r (Option.some.inj hj ▸ names)
    · rw [if_neg hm] at hj; exact h m j hj active r names

/-! #### Keys off one room's list -/

theorem KeysOff.key_off {s t : State} {room : Nat} {off : Nat → Bool} (g : KeysOff s t room off) (h : s.listsMatchKeys)
    {n : Nat} (hn : off n = true) :
    ∃ k, s.key n = some k ∧ k.isActive = true ∧ room ∈ k.entries.map Entry.room ∧
      (t.key n = some (k.without room) ∨
        ∃ reason minute, t.key n = some (k.cancelled reason minute) ∧ k.entries.map Entry.room = [room]) := by
  obtain ⟨reason, minute, keys⟩ := g.keys
  obtain ⟨k, hk, active, names, cases⟩ := State.keyOff_cases h (g.members n hn) reason minute
  have key := keys n
  rw [if_pos hn] at key
  exact ⟨k, hk, active, names, cases.imp key.trans fun ⟨c, one⟩ => ⟨reason, minute, key.trans c, one⟩⟩

theorem KeysOff.key_on {s t : State} {room : Nat} {off : Nat → Bool} (g : KeysOff s t room off) {n : Nat}
    (hn : off n = false) : t.key n = s.key n := by
  obtain ⟨reason, minute, keys⟩ := g.keys
  rw [keys n, if_neg (by simp [hn])]

theorem KeyRec.without_rooms (k : KeyRec) (room : Nat) :
    (k.without room).entries.map Entry.room = (k.entries.map Entry.room).filter fun r => r != room := by
  rw [KeyRec.without_entries, List.filter_map]
  rfl

/-- An active key names a room after the change exactly where it did before, but for the room whose list it is off. -/
theorem KeysOff.key_names {s t : State} {room : Nat} {off : Nat → Bool} (g : KeysOff s t room off) (h : s.listsMatchKeys)
    (n r : Nat) : namesActive (t.key n) r ↔ namesActive (s.key n) r ∧ ¬ (off n = true ∧ r = room) := by
  cases hn : off n with
  | false => simp [g.key_on hn]
  | true =>
    obtain ⟨k, hk, active, _, without | ⟨reason, minute, cancelled, one⟩⟩ := g.key_off h hn
    · rw [without, hk]
      constructor
      · rintro ⟨j, hj, _, names⟩
        rw [← Option.some.inj hj, KeyRec.without_rooms] at names
        obtain ⟨names, other⟩ := List.mem_filter.mp names
        exact ⟨⟨k, rfl, active, names⟩, by simpa using other⟩
      · rintro ⟨⟨j, hj, _, names⟩, other⟩
        refine ⟨_, rfl, by simpa using active, ?_⟩
        rw [KeyRec.without_rooms]
        exact List.mem_filter.mpr ⟨Option.some.inj hj ▸ names, by simpa using other⟩
    · constructor
      · exact fun names => absurd names (not_namesActive_of_inactive (fun j hj => by
          rw [cancelled] at hj; rw [← Option.some.inj hj]; rfl) r)
      · rintro ⟨⟨j, hj, _, names⟩, other⟩
        rw [hk] at hj
        rw [← Option.some.inj hj, one, List.mem_singleton] at names
        exact absurd ⟨rfl, names⟩ other

theorem KeysOff.keeps_lists {s t : State} {room : Nat} {off : Nat → Bool} (g : KeysOff s t room off) (h : s.listsMatchKeys) :
    t.listsMatchKeys := by
  obtain ⟨once, listed, nodup, entries⟩ := id h
  refine ⟨fun r => ?_, fun r n => (?_ : _ ↔ namesActive (t.key n) r), fun n j hj => ?_, fun e f hf => ?_⟩
  · by_cases hr : r = room
    · rw [hr, g.list]; exact (once room).filter _
    · rw [g.rooms r hr]; exact once r
  · have before : n ∈ (s.room r).keyList ↔ namesActive (s.key n) r := listed r n
    rw [g.key_names h n r, ← before]
    by_cases hr : r = room
    · subst hr; rw [g.list, List.mem_filter]; simp
    · rw [g.rooms r hr]; simp [hr]
  · cases hn : off n with
    | false => rw [g.key_on hn] at hj; exact nodup n j hj
    | true =>
      obtain ⟨k, hk, _, _, without | ⟨reason, minute, cancelled, _⟩⟩ := g.key_off h hn
      · rw [without] at hj
        rw [← Option.some.inj hj, KeyRec.without_rooms]
        exact (nodup n k hk).filter _
      · rw [cancelled] at hj
        rw [← Option.some.inj hj]
        exact nodup n k hk
  · rw [g.entries e] at hf; exact entries e f hf

theorem KeysOff.key_bound {s t : State} {room : Nat} {off : Nat → Bool} (g : KeysOff s t room off) {n x : Nat}
    (h : boundTo (t.key n) x) : boundTo (s.key n) x := by
  obtain ⟨reason, minute, keys⟩ := g.keys
  obtain ⟨j, hj, live⟩ := h
  rw [keys n] at hj
  split at hj
  · obtain ⟨k, hk, same⟩ := Option.map_eq_some_iff.mp hj
    refine ⟨k, hk, ?_⟩
    split at same
    · rw [← same, KeyRec.without_status] at live; exact live
    · rw [← same] at live; cases live
  · exact ⟨j, hj, live⟩

theorem KeysOff.keeps_bounded {s t : State} {room : Nat} {off : Nat → Bool} (g : KeysOff s t room off) (h : s.listsBounded) :
    t.listsBounded := fun r => by
  by_cases hr : r = room
  · rw [hr, g.list]; exact le_trans (List.length_filter_le _ _) (h room)
  · rw [g.rooms r hr]; exact h r

end Sys2Proof.Machine
end

section
/-! PROOFS. Every change keeps the generations (O10), the tallies (O3), the key lists, the active keys and the serials (O9,
O10). -/

namespace Sys2Proof.Machine

/-! #### Forward distances (R24) -/

theorem genDistance_add (c : Byte) {g : Nat} (h : g < 256) : genDistance (c + BitVec.ofNat 8 g) c = g := by
  have same : c + BitVec.ofNat 8 g - c = BitVec.ofNat 8 g := by bv_omega
  rw [genDistance, same, BitVec.toNat_ofNat, Nat.mod_eq_of_lt h]

theorem genDistance_self (c : Byte) : genDistance c c = 0 := by simp [genDistance]

theorem foldl_max_le {l : List Nat} {a b : Nat} (ha : a ≤ b) (h : ∀ x ∈ l, x ≤ b) : l.foldl max a ≤ b := by
  induction l generalizing a with
  | nil => exact ha
  | cons x l ih =>
    obtain ⟨hx, h⟩ := List.forall_mem_cons.mp h
    exact ih (max_le ha hx) h

theorem le_foldl_max_start (l : List Nat) (a : Nat) : a ≤ l.foldl max a := by
  induction l generalizing a with
  | nil => exact le_rfl
  | cons x l ih => exact le_trans (le_max_left a x) (ih _)

theorem le_foldl_max {l : List Nat} {x : Nat} (h : x ∈ l) (a : Nat) : x ≤ l.foldl max a := by
  induction l generalizing a with
  | nil => cases h
  | cons y l ih =>
    cases h with
    | head => exact le_trans (le_max_right a x) (le_foldl_max_start l _)
    | tail _ h => exact ih h _

/-- The laws of R24 for one room. -/
def State.roomLawful (s : State) (r : Nat) : Prop :=
  genDistance (s.room r).ig (s.room r).cg ≤ 127 ∧
    ∀ n ∈ (s.room r).keyList, genDistance (s.listedGen r n) (s.room r).cg ≤ genDistance (s.room r).ig (s.room r).cg

/-- A recomputed ig is lawful when no listed key is further ahead than 127 (R25). -/
theorem State.roomLawful_of_furthest {t : State} {r : Nat}
    (ig : (t.room r).ig = (t.room r).cg + BitVec.ofNat 8
      (((t.room r).keyList.map fun n => (t.listedGen r n - (t.room r).cg).toNat).foldl max 0))
    (near : ∀ n ∈ (t.room r).keyList, genDistance (t.listedGen r n) (t.room r).cg ≤ 127) : t.roomLawful r := by
  have bound : ((t.room r).keyList.map fun n => (t.listedGen r n - (t.room r).cg).toNat).foldl max 0 ≤ 127 :=
    foldl_max_le (Nat.zero_le _) fun x hx => by
      obtain ⟨n, hn, rfl⟩ := List.mem_map.mp hx
      exact near n hn
  rw [State.roomLawful, ig, genDistance_add _ (by omega)]
  exact ⟨bound, fun n hn => le_foldl_max
    (List.mem_map.mpr ⟨n, hn, rfl⟩ : (t.listedGen r n - (t.room r).cg).toNat ∈ _) 0⟩

theorem State.roomLawful_of_same {s t : State} {r : Nat} (h : s.roomLawful r) (room : t.room r = s.room r)
    (gens : ∀ n ∈ (s.room r).keyList, t.listedGen r n = s.listedGen r n) : t.roomLawful r := by
  rw [State.roomLawful, room]
  exact ⟨h.1, fun n hn => by rw [gens n hn]; exact h.2 n hn⟩

/-- A key without room entries is on no list. -/
theorem State.listsMatchKeys.not_listed {s : State} (h : s.listsMatchKeys) {n : Nat}
    (absent : ∀ r, ¬ namesActive (s.key n) r) (r : Nat) : n ∉ (s.room r).keyList :=
  fun mem => absent r ((h.2.1 r n).mp mem)

/-- Writing a key that is on no list leaves every room lawful. -/
theorem State.generationsLawful_setKey {s : State} (h : s.generationsLawful) (n : Nat) (new : Option KeyRec)
    (same : ∀ r, n ∈ (s.room r).keyList → (s.setKey n new).listedGen r n = s.listedGen r n) :
    (s.setKey n new).generationsLawful := fun r => by
  refine State.roomLawful_of_same (h r) rfl fun m hm => ?_
  by_cases q : m = n
  · subst q; exact same r hm
  · exact State.listedGen_of_key (State.key_setKey_other s n m new q) r

theorem KeyGone.keeps_generations {s t : State} {n : Nat} {k : KeyRec} (g : KeyGone s t n k) (found : s.key n = some k)
    (lists : s.listsMatchKeys) (h : s.generationsLawful) : t.generationsLawful := fun r => by
  have gens : ∀ m, m ≠ n → t.listedGen r m = s.listedGen r m := fun m hm => State.listedGen_of_key (g.others m hm) r
  have room := g.rooms r
  by_cases names : r ∈ k.entries.map Entry.room
  · rw [if_pos names] at room
    have listed : ∀ m ∈ (t.room r).keyList, m ∈ (s.room r).keyList ∧ m ≠ n := fun m hm => by
      rw [room] at hm
      simpa [State.roomWithout] using hm
    refine State.roomLawful_of_furthest ?_ fun m hm => ?_
    · rw [List.map_congr_left fun m hm => by rw [gens m (listed m hm).2], room]
      rfl
    · rw [gens m (listed m hm).2, room]
      exact le_trans ((h r).2 m (listed m hm).1) (h r).1
  · rw [if_neg names] at room
    refine State.roomLawful_of_same (h r) room fun m hm => gens m fun q => ?_
    obtain ⟨j, hj, _, namesJ⟩ := (lists.2.1 r m).mp hm
    rw [q, found] at hj
    exact names (Option.some.inj hj ▸ namesJ)

theorem KeyRec.genFor_of_mem {k : KeyRec} (nodup : (k.entries.map Entry.room).Nodup) {e : Entry} (h : e ∈ k.entries) :
    k.genFor e.room = some e.gen := by
  unfold KeyRec.genFor
  generalize k.entries = es at nodup h
  induction es with
  | nil => cases h
  | cons x es ih =>
    obtain ⟨fresh, nodup⟩ := List.nodup_cons.mp nodup
    cases h with
    | head => simp
    | tail _ h =>
      have other : (x.room == e.room) = false := by
        simpa using fun q : x.room = e.room => fresh (q ▸ List.mem_map_of_mem h)
      rw [List.find?_cons, other]
      exact ih nodup h

theorem Enrolled.keeps_generations {s t : State} {n : Nat} {k : KeyRec} (g : Enrolled s t n k) (lists : s.listsMatchKeys)
    (inactive : ∀ j, s.key n = some j → j.isActive = false) (nodup : (k.entries.map Entry.room).Nodup)
    (near : ∀ e ∈ k.entries, genDistance e.gen (s.room e.room).cg ≤ 127) (h : s.generationsLawful) : t.generationsLawful :=
  fun r => by
    have absent := lists.not_listed (not_namesActive_of_inactive inactive) r
    have gens : ∀ m ∈ (s.room r).keyList, t.listedGen r m = s.listedGen r m := fun m hm =>
      State.listedGen_of_key ((g.keys m).trans (if_neg fun q : m = n => absent (q ▸ hm))) r
    by_cases names : r ∈ k.entries.map Entry.room
    · obtain ⟨e, he, rfl⟩ := List.mem_map.mp names
      have own : t.listedGen e.room n = e.gen := by
        rw [State.listedGen, g.keys n, if_pos rfl]
        simp [KeyRec.genFor_of_mem nodup he]
      obtain ⟨bound, ordered⟩ := h e.room
      have nearE := near e he
      have ig : genDistance (t.room e.room).ig (t.room e.room).cg =
          max (genDistance (s.room e.room).ig (s.room e.room).cg) (genDistance e.gen (s.room e.room).cg) := by
        rw [g.listed e he]
        unfold Room.joined
        dsimp only
        split <;> omega
      have cg : (t.room e.room).cg = (s.room e.room).cg := by rw [g.listed e he]; rfl
      refine ⟨by omega, fun m hm => ?_⟩
      rw [ig, cg]
      rw [g.listed e he] at hm
      obtain old | new := List.mem_append.mp hm
      · rw [gens m old]; exact le_max_of_le_left (ordered m old)
      · rw [List.mem_singleton.mp new, own]; exact le_max_right _ _
    · exact State.roomLawful_of_same (h r) (g.rooms r names) gens

theorem KeysOff.listedGen_other {s t : State} {room : Nat} {off : Nat → Bool} (g : KeysOff s t room off)
    {r : Nat} (hr : r ≠ room) (n : Nat) : t.listedGen r n = s.listedGen r n := by
  obtain ⟨reason, minute, keys⟩ := g.keys
  by_cases hn : off n = true
  · rw [State.listedGen, State.listedGen, keys n, if_pos hn, State.keyOff]
    cases s.key n with
    | none => rfl
    | some k =>
      by_cases several : 1 < k.entries.length
      · simp only [Option.map_some, if_pos several, KeyRec.without_genFor k hr]
      · simp only [Option.map_some, if_neg several]; rfl
  · exact State.listedGen_of_key ((keys n).trans (if_neg hn)) r

theorem KeysOff.keeps_generations {s t : State} {room : Nat} {off : Nat → Bool} (g : KeysOff s t room off)
    (h : s.generationsLawful) (here : t.roomLawful room) : t.generationsLawful := fun r => by
  by_cases hr : r = room
  · subst hr; exact here
  · exact State.roomLawful_of_same (h r) (g.rooms r hr) fun n _ => g.listedGen_other hr n

/-- The keys that an advance leaves on the list are at most 127 ahead (R26). -/
theorem State.advance_roomLawful {s : State} (w : s.tablesWf) (lists : s.listsMatchKeys) {room key : Nat} {g : Byte}
    {k : KeyRec} (found : s.key key = some k) (gen : k.genFor room = some g) : (s.advanceCards room key g).roomLawful room := by
  obtain ⟨spec, _⟩ := State.advanceCards_spec w room key g (lists.1 room) fun n => lists.known
  have kept : ∀ n ∈ ((s.advanceCards room key g).room room).keyList,
      n ∈ (s.room room).keyList ∧ s.behind room key g n = false := fun n hn => by
    rw [spec.listed] at hn
    simpa using hn
  have gens : ∀ n ∈ ((s.advanceCards room key g).room room).keyList,
      (s.advanceCards room key g).listedGen room n = s.listedGen room n := fun n hn =>
    State.listedGen_of_key ((spec.keys n).trans (if_neg fun c => by rw [(kept n hn).2] at c; cases c.2)) room
  refine State.roomLawful_of_furthest ?_ fun n hn => ?_
  · rw [List.map_congr_left fun n hn => by rw [gens n hn], spec.listed]
  · rw [gens n hn]
    have stays := (kept n hn).2
    have cg : ((s.advanceCards room key g).room room).cg = g := by rw [spec.listed]
    rw [cg]
    by_cases q : n = key
    · rw [q, State.listedGen, found]
      simp [gen, genDistance_self]
    · simpa [State.behind, q] using stays

theorem State.checkOut_roomLawful {s : State} (w : s.tablesWf) (lists : s.listsMatchKeys) (room minute second stayEnd : Nat) :
    (s.checkOutRoom room minute second stayEnd).1.roomLawful room := by
  have spec := State.checkOutRoom_spec w room minute second stayEnd (lists.1 room) fun n => lists.known
  have left := (spec.rooms room).trans (if_pos rfl)
  rw [State.roomLawful, left]
  exact ⟨by simp [Room.departed, genDistance_self], fun n hn => absurd hn List.not_mem_nil⟩

/-! #### Tallies and room states (R105) -/

theorem State.talliesMatchRooms_of {s t : State} (h : s.talliesMatchRooms) (op : t.cred.op = s.cred.op)
    (tallies : ∀ r, (t.tally r).isOpen = (s.tally r).isOpen)
    (states : ∀ r, (t.room r).state = .occupied ↔ (s.room r).state = .occupied) : t.talliesMatchRooms := by
  unfold State.talliesMatchRooms at *
  rw [op]
  split at h
  · obtain ⟨within, outside, done⟩ := h
    exact ⟨within, fun r hr => by rw [tallies, states]; exact outside r hr, fun r hr hd => by rw [tallies]; exact done r hr hd⟩
  · exact fun r => by rw [tallies, states]; exact h r

/-- An operation that keeps every room's state, with the form of the room table. -/
def keepsStates (s t : State) : Prop :=
  tableWf Room.blank s.cred.rooms = true →
    tableWf Room.blank t.cred.rooms = true ∧ ∀ r, (t.room r).state = (s.room r).state

theorem keepsStates_refl (s : State) : keepsStates s s := fun w => ⟨w, fun _ => rfl⟩

theorem keepsStates_trans (s t u : State) (h : keepsStates s t) (g : keepsStates t u) : keepsStates s u := fun w =>
  have ⟨wt, ht⟩ := h w
  have ⟨wu, hu⟩ := g wt
  ⟨wu, fun r => (hu r).trans (ht r)⟩

theorem keepsStates_setRoom (s : State) (n : Nat) (r : Room) (h : r.state = (s.room n).state) :
    keepsStates s (s.setRoom n r) := fun w =>
  ⟨State.setRoom_wf w n r, fun m => by
    rw [State.room_setRoom w]
    split
    · next q => rw [q, h]
    · rfl⟩

theorem State.advanceCards_states (s : State) (room key : Nat) (g : Byte) : keepsStates s (s.advanceCards room key g) := by
  have off : ∀ (s : State) (n : Nat) (k : Option KeyRec), keepsStates s ((s.unlist n room).setKey n k) := fun s n _ =>
    keepsStates_setRoom s room { s.room room with keyList := (s.room room).keyList.filter fun m => m != n } rfl
  have one : ∀ (a : State × Nat × List Nat) (n : Nat), keepsStates a.1 (advanceVisit room key g a n).1 := fun a n => by
    unfold advanceVisit
    dsimp only
    split
    · exact keepsStates_refl _
    · split
      · split <;> exact off _ _ _
      · exact keepsStates_refl _
  have visited := State.foldl_frame keepsStates keepsStates_refl keepsStates_trans _ one (s.room room).keyList
    (s.setRoom room { s.room room with cg := g }, 0, [])
  have opened : keepsStates s (s.setRoom room { s.room room with cg := g }) := keepsStates_setRoom s room _ rfl
  have recomputed : ∀ u : State, keepsStates u (u.recompute room) := fun u => keepsStates_setRoom u room _ rfl
  exact keepsStates_trans _ _ _ (keepsStates_trans _ _ _ opened visited) (recomputed _)

theorem State.joinLists_states (s : State) (n : Nat) (es : List Entry) :
    keepsStates s (es.foldl (fun s e => s.joinList n e) s) := by
  induction es generalizing s with
  | nil => exact keepsStates_refl s
  | cons e es ih =>
    have joined : keepsStates s (s.joinList n e) := keepsStates_setRoom s e.room _ rfl
    exact keepsStates_trans _ _ _ joined (ih _)

theorem KeyGone.states {s t : State} {n : Nat} {k : KeyRec} (g : KeyGone s t n k) (r : Nat) :
    (t.room r).state = (s.room r).state := by
  rw [g.rooms r]
  split <;> rfl

/-- The rooms and the operation that a check-out leaves, whatever the keys. -/
theorem State.checkOutRoom_room {s : State} (w : tableWf Room.blank s.cred.rooms = true) (room minute second stayEnd r : Nat) :
    ((s.checkOutRoom room minute second stayEnd).1.room r).state =
      if r = room then .departed else (s.room r).state := by
  have one : ∀ (a : State × Nat × Nat) (n : Nat),
      (checkOutVisit room minute second a n).1.cred.rooms = a.1.cred.rooms := fun a n => by
    unfold checkOutVisit
    dsimp only
    split
    · rfl
    · split <;> rfl
  obtain ⟨p, hp⟩ : ∃ p, p = (s.room room).keyList.foldl (checkOutVisit room minute second)
    (s.setTally room { s.tally room with isOpen := false }, 0, 0) := ⟨_, rfl⟩
  have same : p.1.cred.rooms = s.cred.rooms := by
    rw [hp]
    exact State.foldl_frame (fun s t => t.cred.rooms = s.cred.rooms) (fun _ => rfl) (fun _ _ _ h g => g.trans h) _ one
      (s.room room).keyList (s.setTally room { s.tally room with isOpen := false }, 0, 0)
  have written : (s.checkOutRoom room minute second stayEnd).1.room r =
      (p.1.setRoom room ((p.1.room room).departed stayEnd)).room r := by rw [hp]; rfl
  rw [written, State.room_setRoom (by rw [same]; exact w)]
  split
  · rfl
  · rw [State.room, same]; rfl

theorem CredOp.keeps_tallies {s t : State} (op : CredOp s t) (w : s.tablesWf) (h : s.talliesMatchRooms) :
    t.talliesMatchRooms := by
  cases op with
  | cancel n k reason =>
    refine State.talliesMatchRooms_of h ?_ ?_ fun r => by rw [(State.cancelKey_gone w n k reason).states r]
    · rw [State.cancelKey_frame]
    · rw [State.cancelKey_frame]; exact fun _ => rfl
  | free n k =>
    refine State.talliesMatchRooms_of h ?_ ?_ fun r => by rw [(State.freeKey_gone w n k).states r]
    · rw [State.freeKey_frame]
    · rw [State.freeKey_frame]; exact fun _ => rfl
  | lose n k serial u =>
    refine State.talliesMatchRooms_of h ?_ ?_ fun r => by rw [(State.lose_gone w n k serial u).states r]
    · rw [State.watchAdd_frame, State.cancelKey_frame]; rfl
    · rw [State.watchAdd_frame, State.cancelKey_frame]; exact fun _ => rfl
  | enroll o n k =>
    have states := (State.joinLists_states (s.setKey n (some k)) n k.entries w.rooms).2
    have frame := State.joinLists_frame (s.setKey n (some k)) n k.entries
    refine State.talliesMatchRooms_of h ?_ ?_ fun r => by rw [states r]; rfl
    · rw [frame]; rfl
    · rw [frame]; exact fun _ => rfl
  | advance room key g =>
    have states := (s.advanceCards_states room key g w.rooms).2
    refine State.talliesMatchRooms_of h ?_ ?_ fun r => by rw [states r]
    · rw [s.advanceCards_frame room key g]
    · rw [s.advanceCards_frame room key g]; exact fun _ => rfl
  | checkOut room minute second stayEnd doing =>
    rw [State.talliesMatchRooms, doing] at h
    refine fun r => ?_
    have tally : (s.checkOutRoom room minute second stayEnd).1.tally r = _ :=
      (congrArg (fun x => tableLook Tally.blank x r) (s.checkOutRoom_tallies room minute second stayEnd)).trans
        (State.tally_setTally w.tallies room _ r)
    rw [tally, State.checkOutRoom_room w.rooms]
    by_cases hr : r = room
    · simp [hr]
    · simpa [hr] using h r
  | commit op doing done =>
    have closed := done w h
    rw [State.talliesMatchRooms, doing] at h
    obtain ⟨_, outside, _⟩ := h
    have frame := State.occupyAll_frame { s with cred := { s.cred with op := none } } op.minute op.stayEnd op.rooms
    have rooms := State.occupyAll_room (s := { s with cred := { s.cred with op := none } }) w.rooms op.minute op.stayEnd op.rooms
    have idle : (op.rooms.foldl (fun (s : State) r => s.occupy op.minute op.stayEnd r)
      { s with cred := { s.cred with op := none } }).cred.op = none := by rw [frame]
    rw [State.talliesMatchRooms, idle]
    intro r
    have tally : ∀ r, (op.rooms.foldl (fun (s : State) r => s.occupy op.minute op.stayEnd r)
      { s with cred := { s.cred with op := none } }).tally r = s.tally r := fun r => by rw [frame]; rfl
    rw [tally, rooms r]
    by_cases hr : r ∈ op.rooms
    · simp [hr, closed r hr]
    · rw [if_neg hr]; exact outside r hr

end Sys2Proof.Machine
end

section
/-! PROOFS. Every change keeps the key lists, the active keys in occupied rooms, the serials, the list lengths, the generations
and the tallies (O3, O9, O10). -/

namespace Sys2Proof.Machine

/-! #### The rooms of a check-in written -/

/-- What the commit of a check-in leaves (R28). -/
structure CheckedIn (s t : State) (op : CheckInOp) : Prop where
  rooms : ∀ r, t.room r =
    if r ∈ op.rooms then
      { s.room r with state := .occupied, privacy := false, stay := some { checkIn := op.minute, stayEnd := op.stayEnd } }
    else s.room r
  keys : ∀ n, t.key n = s.key n
  entries : ∀ e, t.entry e = s.entry e
  watch : t.cred.watch = s.cred.watch

theorem State.commit_spec {s : State} (w : s.tablesWf) (op : CheckInOp) :
    CheckedIn s (op.rooms.foldl (fun s r => s.occupy op.minute op.stayEnd r) { s with cred := { s.cred with op := none } }) op := by
  have frame := State.occupyAll_frame { s with cred := { s.cred with op := none } } op.minute op.stayEnd op.rooms
  refine ⟨State.occupyAll_room (s := { s with cred := { s.cred with op := none } }) w.rooms op.minute op.stayEnd op.rooms,
    fun n => ?_, fun e => ?_, ?_⟩ <;> rw [frame] <;> rfl

theorem CheckedIn.keyList {s t : State} {op : CheckInOp} (g : CheckedIn s t op) (r : Nat) :
    (t.room r).keyList = (s.room r).keyList := by
  rw [g.rooms r]; split <;> rfl

theorem CheckedIn.keeps_lists {s t : State} {op : CheckInOp} (g : CheckedIn s t op) (h : s.listsMatchKeys) :
    t.listsMatchKeys := by
  obtain ⟨_, _, nodup, entries⟩ := id h
  refine State.listsMatchKeys_of h g.keyList (fun n r => by rw [g.keys n]) (fun n k hk => ?_) fun n f hf => ?_
  · rw [g.keys n] at hk; exact nodup n k hk
  · rw [g.entries n] at hf; exact entries n f hf

theorem CheckedIn.keeps_active {s t : State} {op : CheckInOp} (g : CheckedIn s t op) (h : s.activeKeysInOccupiedRooms) :
    t.activeKeysInOccupiedRooms := by
  refine State.activeKeysInOccupiedRooms_of h (fun r hr => ?_) fun n r => by rw [g.keys n]; exact id
  rw [g.rooms r]
  split
  · rfl
  · exact hr

theorem State.roomLawful_of_fields {s t : State} {r : Nat} (h : s.roomLawful r) (cg : (t.room r).cg = (s.room r).cg)
    (ig : (t.room r).ig = (s.room r).ig) (list : (t.room r).keyList = (s.room r).keyList)
    (gens : ∀ n, t.listedGen r n = s.listedGen r n) : t.roomLawful r := by
  obtain ⟨bound, ordered⟩ := h
  rw [State.roomLawful, cg, ig, list]
  exact ⟨bound, fun n hn => by rw [gens n]; exact ordered n hn⟩

theorem CheckedIn.keeps_generations {s t : State} {op : CheckInOp} (g : CheckedIn s t op) (h : s.generationsLawful) :
    t.generationsLawful := fun r =>
  State.roomLawful_of_fields (h r) (by rw [g.rooms r]; split <;> rfl) (by rw [g.rooms r]; split <;> rfl) (g.keyList r)
    fun n => State.listedGen_of_key (g.keys n) r

/-! #### The key lists -/

theorem CredOp.keeps_lists {s t : State} (op : CredOp s t) (w : s.tablesWf) (h : s.listsMatchKeys) : t.listsMatchKeys := by
  cases op with
  | cancel n k reason found => exact (State.cancelKey_gone w n k reason).keeps_lists (found w.keys) h
  | free n k found => exact (State.freeKey_gone w n k).keeps_lists found h
  | lose n k serial u found => exact (State.lose_gone w n k serial u).keeps_lists (found w.keys) h
  | enroll o n k reused accepted rooms =>
    have passed := State.issueCheck_accepted accepted
    obtain ⟨start, stop, rfl⟩ := passed.key
    have nodup : ((s.newKey o start stop).entries.map Entry.room).Nodup := by rw [State.newKey_entries]; exact rooms h
    exact (State.enroll_spec w n nodup).keeps_lists h (fun _ => State.allocate_inactive w.keys passed.allocated)
      (State.newKey_isActive ..) nodup
  | advance room key g => exact (State.advance_off w h room key g).keeps_lists h
  | checkOut room minute second stayEnd => exact (State.checkOut_off w h room minute second stayEnd).keeps_lists h
  | commit op => exact (State.commit_spec w op).keeps_lists h

theorem State.room_setRoom_field {s : State} (w : s.tablesWf) {α : Sort*} (f : Room → α) {n : Nat} {r : Room}
    (same : f r = f (s.room n)) (m : Nat) : f ((s.setRoom n r).room m) = f (s.room m) := by
  rw [State.room_setRoom w.rooms]
  split
  · next q => rw [same, q]
  · rfl

theorem namesActive_bind {s : State} {n : Nat} {k : KeyRec} {deadline serial : Nat} (found : s.key n = some k)
    (pending : k.status = .pending deadline) (r : Nat) :
    namesActive (some { k with status := .live serial }) r ↔ namesActive (s.key n) r := by
  have active : k.isActive = true := by simp [KeyRec.isActive, pending]
  rw [found]
  constructor
  · rintro ⟨j, hj, _, names⟩
    rw [← Option.some.inj hj] at names
    exact ⟨k, rfl, active, names⟩
  · rintro ⟨j, hj, _, names⟩
    rw [← Option.some.inj hj] at names
    exact ⟨_, rfl, rfl, names⟩

theorem namesActive_noEntries {s : State} {n : Nat} {old new : KeyRec} (found : s.key n = some old) (before : old.entries = [])
    (after : new.entries = []) (r : Nat) : namesActive (some new) r ↔ namesActive (s.key n) r :=
  iff_of_false (not_namesActive_of_noEntries (fun _ hj => Option.some.inj hj ▸ after) r)
    (found ▸ not_namesActive_of_noEntries (fun _ hj => Option.some.inj hj ▸ before) r)

theorem namesActive_reclaimed {s : State} {n : Nat} {k : KeyRec} (found : s.key n = some k) (inactive : k.isActive = false)
    (r : Nat) : namesActive none r ↔ namesActive (s.key n) r :=
  iff_of_false (fun ⟨_, hj, _⟩ => nomatch hj)
    (found ▸ not_namesActive_of_inactive (fun _ hj => Option.some.inj hj ▸ inactive) r)

theorem State.listsMatchKeys_empty {s : State} (rooms : s.cred.rooms = []) (keys : s.cred.keys = [])
    (entries : s.group.entries = []) : s.listsMatchKeys := by
  have key : ∀ n, s.key n = none := fun n => by rw [State.key, keys]; rfl
  have list : ∀ r, (s.room r).keyList = [] := fun r => by rw [State.room, rooms]; rfl
  have entry : ∀ n, (s.entry n).fields = none := fun n => by rw [State.entry, entries]; rfl
  simp [State.listsMatchKeys, key, list, entry]

theorem Move.keeps_lists {s t : State} (m : Move s t) (w : s.tablesWf) (h : s.listsMatchKeys) : t.listsMatchKeys := by
  obtain ⟨once, listed, nodup, entries⟩ := id h
  cases m with
  | room n r list =>
    exact State.listsMatchKeys_of h (State.room_setRoom_field w Room.keyList list) (fun _ _ => Iff.rfl) nodup entries
  | useKey n old new found before after =>
    exact State.listsMatchKeys_setKey w h n _ (namesActive_noEntries found before after)
      fun k hk => by rw [← Option.some.inj hk, after]; exact List.nodup_nil
  | reclaim n k found inactive =>
    exact State.listsMatchKeys_setKey w h n _ (namesActive_reclaimed found inactive) fun _ hk => nomatch hk
  | bind n k deadline serial found pending =>
    exact State.listsMatchKeys_setKey w h n _ (namesActive_bind found pending)
      fun j hj => Option.some.inj hj ▸ nodup n k found
  | watch serial u reason => rw [State.watchAdd_frame]; exact h
  | cred _ op => exact op.keeps_lists w h
  | entry n e rooms =>
    refine State.listsMatchKeys_of h (fun _ => rfl) (fun _ _ => Iff.rfl) nodup fun m f hf => ?_
    rw [State.entry_setEntry w.entries] at hf
    split at hf
    · exact (rooms f hf).elim id (entries n f)
    · exact entries m f hf
  | group g same =>
    exact State.listsMatchKeys_of h (fun _ => rfl) (fun _ _ => Iff.rfl) nodup fun m f hf =>
      entries m f ((congrArg (fun x => (tableLook GroupEntry.blank x m).fields) same).symm.trans hf)
  | journal _ op => rw [op.frame]; exact h
  | link l k =>
    exact State.listsMatchKeys_of h (fun r => by simp [State.room]) (fun n r => by simp [State.key])
      (fun n k hk => nodup n k (by simpa [State.key] using hk)) fun n f hf => entries n f (by simpa [State.entry] using hf)
  | cold _ a b start =>
    obtain rfl := Host.Outcome.next.inj start
    exact State.listsMatchKeys_empty rfl rfl rfl
  | _ => exact h

/-! #### Active keys in occupied rooms -/

theorem CredOp.keeps_active {s t : State} (op : CredOp s t) (w : s.tablesWf) (lists : s.listsMatchKeys)
    (h : s.activeKeysInOccupiedRooms) : t.activeKeysInOccupiedRooms := by
  cases op with
  | cancel n k reason => exact (State.cancelKey_gone w n k reason).keeps_active h
  | free n k => exact (State.freeKey_gone w n k).keeps_active h
  | lose n k serial u => exact (State.lose_gone w n k serial u).keeps_active h
  | enroll o n k reused accepted rooms =>
    have passed := State.issueCheck_accepted accepted
    obtain ⟨start, stop, rfl⟩ := passed.key
    have named := s.newKey_entries o start stop
    exact (State.enroll_spec w n (by rw [named]; exact rooms lists)).keeps_active h
      fun r hr => passed.occupied r (named ▸ hr)
  | advance room key g =>
    have off := State.advance_off w lists room key g
    exact State.activeKeysInOccupiedRooms_of h (fun r hr => (s.advanceCards_states room key g w.rooms).2 r ▸ hr)
      fun n r names => ((off.key_names lists n r).mp names).1
  | checkOut room minute second stayEnd =>
    have off := State.checkOut_off w lists room minute second stayEnd
    intro n k hk active r names
    obtain ⟨⟨j, hj, activeJ, namesJ⟩, kept⟩ := (off.key_names lists n r).mp ⟨k, hk, active, names⟩
    have other : r ≠ room := fun q => kept ⟨decide_eq_true ((lists.2.1 room n).mpr ⟨j, hj, activeJ, q ▸ namesJ⟩), q⟩
    rw [off.rooms r other]
    exact h n j hj activeJ r namesJ
  | commit op => exact (State.commit_spec w op).keeps_active h

theorem Move.keeps_active {s t : State} (m : Move s t) (w : s.tablesWf ∧ s.listsMatchKeys)
    (h : s.activeKeysInOccupiedRooms) : t.activeKeysInOccupiedRooms := by
  obtain ⟨w, lists⟩ := w
  cases m with
  | room n r _ _ _ state =>
    refine State.activeKeysInOccupiedRooms_of h (fun m hm => ?_) fun _ _ => id
    exact (State.room_setRoom_field w (fun x => x.state = .occupied) (propext state) m).mpr hm
  | useKey n old new found before after =>
    exact State.activeKeysInOccupiedRooms_setKey w h n _ fun r => (namesActive_noEntries found before after r).mp
  | reclaim n k found inactive =>
    exact State.activeKeysInOccupiedRooms_setKey w h n _ fun r => (namesActive_reclaimed found inactive r).mp
  | bind n k deadline serial found pending =>
    exact State.activeKeysInOccupiedRooms_setKey w h n _ fun r => (namesActive_bind found pending r).mp
  | watch serial u reason => rw [State.watchAdd_frame]; exact h
  | cred _ op => exact op.keeps_active w lists h
  | journal _ op => rw [op.frame]; exact h
  | link l k =>
    exact State.activeKeysInOccupiedRooms_of h (fun r hr => by simpa [State.room] using hr)
      fun n r names => by simpa [State.key] using names
  | cold _ a b start =>
    obtain rfl := Host.Outcome.next.inj start
    exact fun _ _ hk => nomatch hk
  | _ => exact h

/-! #### The bound serials -/

/-- Every entry that the add procedure leaves is one of the list before or the added serial's (R63). -/
theorem State.watchAdd_serials {s : State} {serial u : Nat} {reason : WatchReason} {e : WatchEntry}
    (h : e ∈ (s.watchAdd serial u reason).cred.watch) : e ∈ s.cred.watch ∨ e.serial = serial := by
  rw [State.watchAdd_watch] at h
  split at h
  · obtain ⟨x, hx, rfl⟩ := List.mem_map.mp h
    split
    · exact .inr rfl
    · exact .inl hx
  · obtain old | new := List.mem_append.mp h
    · exact .inl old
    · rw [List.mem_singleton.mp new]; exact .inr rfl
  · obtain old | new := List.mem_append.mp h
    · exact .inl (List.mem_of_mem_filter old)
    · rw [List.mem_singleton.mp new]; exact .inr rfl
  · exact .inl h

/-- A serial to which no key is bound can join the Watch List. -/
theorem State.watchAdd_keeps_serials {s : State} (h : s.serialsUnique) (serial u : Nat) (reason : WatchReason)
    (free : ∀ n, ¬ boundTo (s.key n) serial) : (s.watchAdd serial u reason).serialsUnique := by
  obtain ⟨unique, unwatched⟩ := h
  have keys : ∀ n, (s.watchAdd serial u reason).key n = s.key n := fun n => by rw [State.watchAdd_frame]; rfl
  refine ⟨fun n m j k x hj hk => ?_, fun n k x hk live e he => ?_⟩
  · rw [keys] at hj hk
    exact unique n m j k x hj hk
  · rw [keys] at hk
    obtain old | new := State.watchAdd_serials he
    · exact unwatched n k x hk live e old
    · exact fun same => free n ⟨k, hk, by rw [live, ← same, new]⟩


/-- The serial of a key that `liveKeyOf` does not find is bound to no key. -/
theorem State.liveKeyOf_none {s : State} {serial : Nat} (h : s.liveKeyOf serial = none) (n : Nat) :
    ¬ boundTo (s.key n) serial := fun ⟨k, hk, live⟩ => by
  have listed : tableLook none s.cred.keys n = some k := hk
  have mem : (n, some k) ∈ s.cred.keys := listed ▸ mem_of_tableLook none (by rw [listed]; exact Option.some_ne_none k)
  have here := List.findSome?_eq_none_iff.mp h (n, some k) mem
  simp [KeyRec.serial, live] at here

/-- The lost key's serial is free for the Watch List: no other key is bound to it (R58). -/
theorem State.lose_keeps_serials {s : State} (w : s.tablesWf) (h : s.serialsUnique) {n : Nat} {k : KeyRec} {serial : Nat}
    (found : s.key n = some k) (live : k.status = .live serial) (u : Nat) :
    (((s.cancelKey n k .lost).credOffer (.keyCancelled n .lost false)).watchAdd serial u .lost).serialsUnique := by
  have gone := (State.cancelKey_gone w n k .lost).of_same (u := (s.cancelKey n k .lost).credOffer (.keyCancelled n .lost false))
    rfl rfl rfl
  refine State.watchAdd_keeps_serials (gone.keeps_serials h ?_) serial u .lost fun m bound => ?_
  · rw [State.cancelKey_frame]; rfl
  · obtain ⟨other, j, hj, liveJ⟩ := gone.key_bound bound
    exact other (h.1 m n j k serial hj found liveJ live)

/-- An operation that binds no key, with the form of the key table. -/
def bindsNone (s t : State) : Prop :=
  tableWf none s.cred.keys = true →
    tableWf none t.cred.keys = true ∧ ∀ n x, boundTo (t.key n) x → boundTo (s.key n) x

theorem bindsNone_refl (s : State) : bindsNone s s := fun w => ⟨w, fun _ _ => id⟩

theorem bindsNone_trans (s t u : State) (h : bindsNone s t) (g : bindsNone t u) : bindsNone s u := fun w =>
  have ⟨wt, ht⟩ := h w
  have ⟨wu, hu⟩ := g wt
  ⟨wu, fun n x bound => ht n x (hu n x bound)⟩

theorem bindsNone_of_keys {s t : State} (keys : t.cred.keys = s.cred.keys) : bindsNone s t := fun w => by
  rw [keys]
  exact ⟨w, fun n x => by rw [State.key, keys]; exact id⟩

theorem bindsNone_setKey (s : State) (n : Nat) (new : Option KeyRec) (h : ∀ x, boundTo new x → boundTo (s.key n) x) :
    bindsNone s (s.setKey n new) := fun w =>
  ⟨State.setKey_wf w n new, fun m x bound => by
    rw [State.key_setKey w] at bound
    split at bound
    · next q => rw [q]; exact h x bound
    · exact bound⟩

theorem not_boundTo_cancelled (k : KeyRec) (reason : CancelReason) (minute x : Nat) :
    ¬ boundTo (some (k.cancelled reason minute)) x :=
  not_boundTo_of_inactive (fun _ hj => Option.some.inj hj ▸ rfl) x

theorem boundTo_withEntries {k : KeyRec} {es : List Entry} {x : Nat} (h : boundTo (some (k.withEntries es)) x) :
    boundTo (some k) x := by
  obtain ⟨j, hj, live⟩ := h
  refine ⟨k, rfl, ?_⟩
  rw [← Option.some.inj hj] at live
  unfold KeyRec.withEntries at live
  split at live <;> exact live

theorem advanceVisit_bindsNone (room key : Nat) (g : Byte) (a : State × Nat × List Nat) (n : Nat) :
    bindsNone a.1 (advanceVisit room key g a n).1 := by
  have unlisted : bindsNone a.1 (a.1.unlist n room) := bindsNone_of_keys rfl
  unfold advanceVisit
  dsimp only
  split
  · exact bindsNone_refl _
  · next k hk =>
    split
    · split
      · exact bindsNone_trans _ _ _ unlisted (bindsNone_setKey _ _ _ fun x bound => hk ▸ boundTo_withEntries bound)
      · exact bindsNone_trans _ _ _ unlisted
          (bindsNone_setKey _ _ _ fun x bound => absurd bound (not_boundTo_cancelled k _ _ x))
    · exact bindsNone_refl _

theorem checkOutVisit_bindsNone (room minute second : Nat) (a : State × Nat × Nat) (n : Nat) :
    bindsNone a.1 (checkOutVisit room minute second a n).1 := by
  unfold checkOutVisit
  dsimp only
  split
  · exact bindsNone_refl _
  · next k hk =>
    split
    · exact bindsNone_setKey _ _ _ fun x bound => hk ▸ boundTo_withEntries bound
    · exact bindsNone_setKey _ _ _ fun x bound => absurd bound (not_boundTo_cancelled k _ _ x)

theorem State.advanceCards_bindsNone (s : State) (room key : Nat) (g : Byte) : bindsNone s (s.advanceCards room key g) := by
  have opened : bindsNone s (s.setRoom room { s.room room with cg := g }) := bindsNone_of_keys rfl
  have visited := State.foldl_frame bindsNone bindsNone_refl bindsNone_trans _ (advanceVisit_bindsNone room key g)
    (s.room room).keyList (s.setRoom room { s.room room with cg := g }, 0, [])
  have recomputed : ∀ u : State, bindsNone u (u.recompute room) := fun _ => bindsNone_of_keys rfl
  exact bindsNone_trans _ _ _ (bindsNone_trans _ _ _ opened visited) (recomputed _)

theorem State.checkOutRoom_watch (s : State) (room minute second stayEnd : Nat) :
    (s.checkOutRoom room minute second stayEnd).1.cred.watch = s.cred.watch := by
  have one : ∀ (a : State × Nat × Nat) (n : Nat),
      (checkOutVisit room minute second a n).1.cred.watch = a.1.cred.watch := fun a n => by
    unfold checkOutVisit
    dsimp only
    split
    · rfl
    · split <;> rfl
  exact State.foldl_frame (fun s t => t.cred.watch = s.cred.watch) (fun _ => rfl) (fun _ _ _ h g => g.trans h) _ one
    (s.room room).keyList (s.setTally room { s.tally room with isOpen := false }, 0, 0)

theorem State.checkOutRoom_bindsNone (s : State) (room minute second stayEnd : Nat) :
    bindsNone s (s.checkOutRoom room minute second stayEnd).1 := by
  have closed : bindsNone s (s.setTally room { s.tally room with isOpen := false }) := bindsNone_of_keys rfl
  have visited := State.foldl_frame bindsNone bindsNone_refl bindsNone_trans _ (checkOutVisit_bindsNone room minute second)
    (s.room room).keyList (s.setTally room { s.tally room with isOpen := false }, 0, 0)
  exact bindsNone_trans _ _ _ (bindsNone_trans _ _ _ closed visited) (bindsNone_of_keys rfl)

theorem State.enroll_bindsNone (s : State) (o : IssueOrder) (n start stop : Nat) :
    bindsNone s ((s.newKey o start stop).entries.foldl (fun s e => s.joinList n e)
      (s.setKey n (some (s.newKey o start stop)))) := by
  have pending : ∀ x, ¬ boundTo (some (s.newKey o start stop)) x := by
    rintro x ⟨j, hj, live⟩
    rw [← Option.some.inj hj] at live
    cases live
  exact bindsNone_trans _ _ _ (bindsNone_setKey s n _ fun x bound => absurd bound (pending x))
    (bindsNone_of_keys (by rw [State.joinLists_frame]))

theorem CredOp.keeps_serials {s t : State} (op : CredOp s t) (w : s.tablesWf) (h : s.serialsUnique) : t.serialsUnique := by
  have of_bindsNone : ∀ {u}, bindsNone s u → u.cred.watch = s.cred.watch → u.serialsUnique := fun binds watch =>
    State.serialsUnique_of h (binds w.keys).2 (by rw [watch]; exact fun e he => ⟨e, he, rfl⟩)
  cases op with
  | cancel n k reason =>
    exact (State.cancelKey_gone w n k reason).keeps_serials h (by rw [State.cancelKey_frame])
  | free n k => exact (State.freeKey_gone w n k).keeps_serials h (by rw [State.freeKey_frame])
  | lose n k serial u found live => exact State.lose_keeps_serials w h (found w.keys) live u
  | enroll o n k reused accepted =>
    obtain ⟨start, stop, rfl⟩ := (State.issueCheck_accepted accepted).key
    exact of_bindsNone (s.enroll_bindsNone o n start stop) (by rw [State.joinLists_frame]; rfl)
  | advance room key g =>
    exact of_bindsNone (s.advanceCards_bindsNone room key g) (by rw [s.advanceCards_frame room key g])
  | checkOut room minute second stayEnd =>
    exact of_bindsNone (s.checkOutRoom_bindsNone room minute second stayEnd) (s.checkOutRoom_watch room minute second stayEnd)
  | commit op =>
    have spec := State.commit_spec w op
    exact State.serialsUnique_of h (fun n x => by rw [spec.keys n]; exact id)
      (by rw [spec.watch]; exact fun e he => ⟨e, he, rfl⟩)


theorem watchFind_none {serial : Nat} {w : List WatchEntry} {i : Nat} :
    watchFind serial i w = none ↔ ∀ e ∈ w, e.serial ≠ serial := by
  induction w generalizing i with
  | nil => simp [watchFind]
  | cons x w ih =>
    unfold watchFind
    split
    · next q => simp [q]
    · next q => simp [q, ih]

theorem State.watched_none {s : State} {serial : Nat} :
    s.watched serial = none ↔ ∀ e ∈ s.cred.watch, e.serial ≠ serial := by
  rw [State.watched, Option.map_eq_none_iff, watchFind_none]

/-- A serial neither bound nor watched can be bound (R56). -/
theorem State.bind_keeps_serials {s : State} (w : s.tablesWf) (h : s.serialsUnique) {n serial : Nat} {k : KeyRec}
    (free : s.liveKeyOf serial = none) (unwatched : s.watched serial = none) :
    (s.setKey n (some { k with status := .live serial })).serialsUnique := by
  obtain ⟨unique, off⟩ := h
  have bound : ∀ m j x, (s.setKey n (some { k with status := .live serial })).key m = some j → j.status = .live x →
      m = n ∧ x = serial ∨ m ≠ n ∧ x ≠ serial ∧ s.key m = some j := fun m j x hj live => by
    rw [State.key_setKey w.keys] at hj
    by_cases q : m = n
    · rw [if_pos q] at hj
      rw [← Option.some.inj hj] at live
      exact .inl ⟨q, (KeyStatus.live.inj live).symm⟩
    · rw [if_neg q] at hj
      exact .inr ⟨q, fun same => State.liveKeyOf_none free m ⟨j, hj, same ▸ live⟩, hj⟩
  refine ⟨fun m m' j j' x hj hj' live live' => ?_, fun m j x hj live e he => ?_⟩
  · obtain ⟨rfl, rfl⟩ | ⟨_, other, hm⟩ := bound m j x hj live
    · obtain ⟨rfl, _⟩ | ⟨_, other, _⟩ := bound m' j' x hj' live'
      · rfl
      · exact absurd rfl other
    · obtain ⟨_, same⟩ | ⟨_, _, hm'⟩ := bound m' j' x hj' live'
      · exact absurd same other
      · exact unique m m' j j' x hm hm' live live'
  · obtain ⟨_, rfl⟩ | ⟨_, _, hm⟩ := bound m j x hj live
    · exact State.watched_none.mp unwatched e he
    · exact off m j x hm live e he

theorem State.serialsUnique_empty {s : State} (keys : s.cred.keys = []) : s.serialsUnique := by
  have key : ∀ n, s.key n = none := fun n => by rw [State.key, keys]; rfl
  simp [State.serialsUnique, key]

theorem Move.keeps_serials {s t : State} (m : Move s t) (w : s.tablesWf) (h : s.serialsUnique) : t.serialsUnique := by
  cases m with
  | useKey n old new found _ _ status =>
    refine State.serialsUnique_setKey w h n _ fun x ⟨j, hj, live⟩ => ?_
    rw [← Option.some.inj hj] at live
    obtain same | inactive := status
    · exact ⟨old, found, same.symm.trans live⟩
    · rw [boundTo.active live] at inactive; cases inactive
  | reclaim n => exact State.serialsUnique_setKey w h n _ fun _ ⟨_, hj, _⟩ => nomatch hj
  | bind n k deadline serial found pending free unwatched =>
    exact State.bind_keeps_serials w h free unwatched
  | watch serial u reason free => exact State.watchAdd_keeps_serials h serial u reason (State.liveKeyOf_none free)
  | unwatch l sub => exact State.serialsUnique_of h (fun _ _ => id) fun e he => ⟨e, sub.subset he, rfl⟩
  | cred _ op => exact op.keeps_serials w h
  | journal _ op => rw [op.frame]; exact h
  | link l k =>
    refine State.serialsUnique_of h (fun n x => by simp [State.key]) fun e he => ⟨e, ?_, rfl⟩
    rw [State.setLink_cred] at he
    exact he
  | cold _ a b start =>
    obtain rfl := Host.Outcome.next.inj start
    exact State.serialsUnique_empty rfl
  | _ => exact h

/-! #### The length of the key lists -/

theorem Enrolled.keeps_bounded {s t : State} {n : Nat} {k : KeyRec} (g : Enrolled s t n k) (h : s.listsBounded)
    (free : ∀ r ∈ k.entries.map Entry.room, (s.room r).keyList.length < Config.roomKeys) : t.listsBounded := fun r => by
  rw [g.keyList r]
  split
  · next names => rw [List.length_append]; exact free r names
  · exact h r

theorem CredOp.keeps_bounded {s t : State} (op : CredOp s t) (w : s.tablesWf) (lists : s.listsMatchKeys)
    (h : s.listsBounded) : t.listsBounded := by
  cases op with
  | cancel n k reason => exact (State.cancelKey_gone w n k reason).keeps_bounded h
  | free n k => exact (State.freeKey_gone w n k).keeps_bounded h
  | lose n k serial u => exact (State.lose_gone w n k serial u).keeps_bounded h
  | enroll o n k reused accepted rooms =>
    have passed := State.issueCheck_accepted accepted
    obtain ⟨start, stop, rfl⟩ := passed.key
    have named := s.newKey_entries o start stop
    exact (State.enroll_spec w n (by rw [named]; exact rooms lists)).keeps_bounded h
      fun r hr => passed.free r (named ▸ hr)
  | advance room key g => exact (State.advance_off w lists room key g).keeps_bounded h
  | checkOut room minute second stayEnd => exact (State.checkOut_off w lists room minute second stayEnd).keeps_bounded h
  | commit op =>
    intro r
    rw [(State.commit_spec w op).keyList r]
    exact h r

theorem Move.keeps_bounded {s t : State} (m : Move s t) (w : s.tablesWf ∧ s.listsMatchKeys) (h : s.listsBounded) :
    t.listsBounded := by
  obtain ⟨w, lists⟩ := w
  cases m with
  | room n r list =>
    intro m
    rw [State.room_setRoom_field w Room.keyList list m]
    exact h m
  | watch serial u reason => rw [State.watchAdd_frame]; exact h
  | cred _ op => exact op.keeps_bounded w lists h
  | journal _ op => rw [op.frame]; exact h
  | link l k => exact fun r => by simpa [State.room] using h r
  | cold _ a b start =>
    obtain rfl := Host.Outcome.next.inj start
    exact fun _ => Nat.zero_le _
  | _ => exact h

/-! #### The generations -/

theorem State.enroll_near {s : State} (lawful : s.generationsLawful) {o : IssueOrder} {n start stop : Nat}
    {reused : Option CancelReason} (passed : IssuePassed s o n (s.newKey o start stop) reused) {e : Entry}
    (he : e ∈ (s.newKey o start stop).entries) : genDistance e.gen (s.room e.room).cg ≤ 127 := by
  obtain ⟨_, copy | ⟨new, rooms, zones, minibar, rights, mem⟩⟩ := State.newKey_gen he
  · rw [copy]; exact (lawful e.room).1
  · rw [new]; exact passed.near rooms zones minibar rights e.room mem

theorem CredOp.keeps_generations {s t : State} (op : CredOp s t) (w : s.tablesWf) (lists : s.listsMatchKeys)
    (h : s.generationsLawful) : t.generationsLawful := by
  cases op with
  | cancel n k reason found => exact (State.cancelKey_gone w n k reason).keeps_generations (found w.keys) lists h
  | free n k found => exact (State.freeKey_gone w n k).keeps_generations found lists h
  | lose n k serial u found => exact (State.lose_gone w n k serial u).keeps_generations (found w.keys) lists h
  | enroll o n k reused accepted rooms =>
    have passed := State.issueCheck_accepted accepted
    obtain ⟨start, stop, rfl⟩ := passed.key
    have nodup : ((s.newKey o start stop).entries.map Entry.room).Nodup := by rw [State.newKey_entries]; exact rooms lists
    exact (State.enroll_spec w n nodup).keeps_generations lists (fun _ => State.allocate_inactive w.keys passed.allocated)
      nodup (fun e he => State.enroll_near h passed he) h
  | advance room key g k found active gen =>
    exact (State.advance_off w lists room key g).keeps_generations h (State.advance_roomLawful w lists found gen)
  | checkOut room minute second stayEnd =>
    exact (State.checkOut_off w lists room minute second stayEnd).keeps_generations h
      (State.checkOut_roomLawful w lists room minute second stayEnd)
  | commit op => exact (State.commit_spec w op).keeps_generations h

theorem State.generationsLawful_empty {s : State} (rooms : s.cred.rooms = []) : s.generationsLawful := fun r => by
  have room : s.room r = Room.blank := by rw [State.room, rooms]; rfl
  rw [room]
  exact ⟨by decide, fun _ hn => absurd hn List.not_mem_nil⟩

theorem Move.keeps_generations {s t : State} (m : Move s t) (w : s.tablesWf ∧ s.listsMatchKeys)
    (h : s.generationsLawful) : t.generationsLawful := by
  obtain ⟨w, lists⟩ := w
  cases m with
  | room n r list cg ig =>
    exact fun m => State.roomLawful_of_fields (h m) (State.room_setRoom_field w Room.cg cg m)
      (State.room_setRoom_field w Room.ig ig m) (State.room_setRoom_field w Room.keyList list m) fun _ => rfl
  | useKey n old new found before =>
    refine State.generationsLawful_setKey h n _ fun r listed => absurd listed (lists.not_listed ?_ r)
    rw [found]
    exact not_namesActive_of_noEntries fun _ hj => Option.some.inj hj ▸ before
  | reclaim n k found inactive =>
    refine State.generationsLawful_setKey h n _ fun r listed => absurd listed (lists.not_listed ?_ r)
    rw [found]
    exact not_namesActive_of_inactive fun _ hj => Option.some.inj hj ▸ inactive
  | bind n k deadline serial found =>
    refine State.generationsLawful_setKey h n _ fun r _ => ?_
    rw [State.listedGen, State.listedGen, State.key_setKey w.keys, if_pos rfl, found]
    rfl
  | watch serial u reason => rw [State.watchAdd_frame]; exact h
  | cred _ op => exact op.keeps_generations w lists h
  | journal _ op => rw [op.frame]; exact h
  | link l k =>
    exact fun r => State.roomLawful_of_fields (h r) (by simp [State.room]) (by simp [State.room]) (by simp [State.room])
      fun n => State.listedGen_of_key (by simp [State.key]) r
  | cold _ a b start =>
    obtain rfl := Host.Outcome.next.inj start
    exact State.generationsLawful_empty rfl
  | _ => exact h

/-! #### The tallies -/

theorem Move.keeps_tallies {s t : State} (m : Move s t) (w : s.tablesWf) (h : s.talliesMatchRooms) :
    t.talliesMatchRooms := by
  cases m with
  | operation o law => exact law w h
  | room n r _ _ _ state =>
    exact State.talliesMatchRooms_of h rfl (fun _ => rfl) fun m =>
      iff_of_eq (State.room_setRoom_field w (fun x => x.state = .occupied) (propext state) m)
  | watch serial u reason => rw [State.watchAdd_frame]; exact h
  | cred _ op => exact op.keeps_tallies w h
  | tally n x _ law => exact law w h
  | journal _ op => rw [op.frame]; exact h
  | link l k =>
    exact State.talliesMatchRooms_of h (by simp) (fun r => by simp [State.tally]) fun r => by simp [State.room]
  | cold _ a b start =>
    obtain rfl := Host.Outcome.next.inj start
    exact fun _ => iff_of_false Bool.false_ne_true nofun
  | _ => exact h

end Sys2Proof.Machine
end

section
/-! PROOFS. The operations of the Journal Unit: what each keeps of pages, staging and marks (O5). -/

namespace Sys2Proof.Machine

/-! #### Chains of journal operations -/

theorem JournalOp.refl (s : State) : JournalOp s s := ⟨rfl, id, id⟩

theorem JournalOp.trans {s t u : State} (h : JournalOp s t) (g : JournalOp t u) : JournalOp s u := by
  refine ⟨?_, g.pages ∘ h.pages, g.staging ∘ h.staging⟩
  have second := g.frame
  rw [h.frame] at second
  exact second

/-- A change of the journal that keeps its pages and its staging. -/
theorem JournalOp.setJournal (s : State) (j : Journal) (pages : j.pages = s.journal.pages)
    (staging : j.staging = s.journal.staging) (unstaged : j.unstaged = s.journal.unstaged) : JournalOp s (s.setJournal j) := by
  refine ⟨rfl, ?_, ?_⟩
  · unfold State.pagesWf State.setJournal
    dsimp only
    rw [pages]
    exact id
  · unfold State.stagingBounded State.setJournal
    dsimp only
    rw [staging, unstaged]
    exact id

theorem JournalOp.setPage (s : State) (p : Nat) (x : Page) (slots : s.pagesWf → tableWf erasedSlot x.slots = true) :
    JournalOp s (s.setPage p x) :=
  ⟨rfl, fun w => State.setPage_wf w p (slots w), id⟩

theorem JournalOp.raise (s : State) {n : Notice} (audit : noticeLink n = .audit) : JournalOp s (s.raise n) := by
  unfold State.raise
  rw [audit]
  exact ⟨rfl, id, id⟩

theorem State.page_setPage {s : State} (w : s.pagesWf) (p : Nat) (x : Page) (q : Nat) :
    (s.setPage p x).page q = if q = p then x else s.page q := tableLook_put w.1 p x q

@[simp] theorem State.raise_page (s : State) (n : Notice) (p : Nat) : (s.raise n).page p = s.page p := by
  rw [State.page, State.raise_journal]; rfl

@[simp] theorem State.raise_writeFilling (s : State) (n : Notice) : (s.raise n).writeFilling = s.writeFilling := by
  simp only [State.writeFilling, State.raise_journal, State.raise_page]

/-! #### Operations that make no record readable -/

/-- What such an operation leaves: the marks, and each page as it was or with no readable record. -/
structure Fade (s t : State) : Prop where
  write : t.journal.write = s.journal.write
  newest : t.journal.newest = s.journal.newest
  released : t.journal.released = s.journal.released
  discarded : t.journal.discarded = s.journal.discarded
  pages : ∀ p, (t.page p).readable = [] ∨ t.page p = s.page p
  filling : t.writeFilling = true → s.writeFilling = true ∨ (t.page t.journal.write.page).readable = []
  programming : t.journal.writer = .programming → s.journal.writer = .programming
  state : t.journal.state = .recovering → s.journal.state = .recovering

theorem Fade.refl (s : State) : Fade s s := ⟨rfl, rfl, rfl, rfl, fun _ => .inr rfl, .inl, id, id⟩

theorem Fade.trans {s t u : State} (h : Fade s t) (g : Fade t u) : Fade s u := by
  have pages : ∀ p, (u.page p).readable = [] ∨ u.page p = t.page p := g.pages
  refine ⟨g.write.trans h.write, g.newest.trans h.newest, g.released.trans h.released, g.discarded.trans h.discarded,
    fun p => ?_, fun filling => ?_, h.programming ∘ g.programming, h.state ∘ g.state⟩
  · obtain blank | same := pages p
    · exact .inl blank
    · rw [same]; exact h.pages p
  · obtain before | blank := g.filling filling
    · obtain before | blank := h.filling before
      · exact .inl before
      · obtain blank' | same := pages u.journal.write.page
        · exact .inr blank'
        · rw [g.write] at same ⊢
          exact .inr (same ▸ blank)
    · exact .inr blank

theorem Fade.of_same {s t : State} (pages : t.journal.pages = s.journal.pages) (map : t.journal.map = s.journal.map)
    (write : t.journal.write = s.journal.write) (newest : t.journal.newest = s.journal.newest)
    (released : t.journal.released = s.journal.released) (discarded : t.journal.discarded = s.journal.discarded)
    (programming : t.journal.writer = .programming → s.journal.writer = .programming)
    (state : t.journal.state = .recovering → s.journal.state = .recovering) : Fade s t := by
  have page : ∀ p, t.page p = s.page p := fun p => by rw [State.page, pages]; rfl
  refine ⟨write, newest, released, discarded, fun p => .inr (page p), fun filling => .inl ?_, programming, state⟩
  rw [State.writeFilling, page, map, write] at filling
  exact filling

/-- A change of the ring after which a page is FILLING at the ring only where it was, or has no readable record. -/
theorem Fade.of_ring {s t : State} (pages : t.journal.pages = s.journal.pages)
    (write : t.journal.write = s.journal.write) (newest : t.journal.newest = s.journal.newest)
    (released : t.journal.released = s.journal.released) (discarded : t.journal.discarded = s.journal.discarded)
    (programming : t.journal.writer = .programming → s.journal.writer = .programming)
    (state : t.journal.state = .recovering → s.journal.state = .recovering)
    (ring : ∀ w, (s.page w).readable = [] ∨ ∀ e, t.journal.map.posOf w = some e → e.held = none → s.journal.map.posOf w = some e) :
    Fade s t := by
  have page : ∀ p, t.page p = s.page p := fun p => by rw [State.page, pages]; rfl
  refine ⟨write, newest, released, discarded, fun p => .inr (page p), fun filling => ?_, programming, state⟩
  obtain blank | kept := ring s.journal.write.page
  · rw [write, page]; exact .inr blank
  · left
    rw [State.writeFilling, page, write, Bool.and_eq_true] at filling
    obtain ⟨active, fill⟩ := filling
    cases h : t.journal.map.posOf s.journal.write.page with
    | none => rw [h] at active; cases active
    | some e =>
      rw [h] at active
      have held : e.held = none := Option.isNone_iff_eq_none.mp active
      rw [State.writeFilling, kept e h held]
      simp [held, fill]

/-- An operation of the Journal Unit that makes no record readable. -/
def Quiet (s t : State) : Prop := JournalOp s t ∧ (s.pagesWf → Fade s t)

theorem Quiet.refl (s : State) : Quiet s s := ⟨.refl s, fun _ => .refl s⟩

theorem Quiet.trans {s t u : State} (h : Quiet s t) (g : Quiet t u) : Quiet s u :=
  ⟨h.1.trans g.1, fun w => (h.2 w).trans (g.2 (h.1.pages w))⟩

theorem Quiet.raise (s : State) {n : Notice} (audit : noticeLink n = .audit) : Quiet s (s.raise n) :=
  ⟨.raise s audit, fun _ => Fade.of_same (by simp) (by simp) (by simp) (by simp) (by simp) (by simp) (by simp) (by simp)⟩

/-- A page without readable records is written. -/
theorem Quiet.setPage (s : State) (p : Nat) (x : Page) (slots : s.pagesWf → tableWf erasedSlot x.slots = true)
    (blank : x.readable = []) : Quiet s (s.setPage p x) := by
  refine ⟨.setPage s p x slots, fun w => ?_⟩
  have page := State.page_setPage w p x
  refine ⟨rfl, rfl, rfl, rfl, fun q => ?_, fun filling => ?_, id, id⟩
  · rw [page]
    split
    · exact .inl blank
    · exact .inr rfl
  · rw [page]
    rw [State.writeFilling, page] at filling
    change _ ∨ (if s.journal.write.page = p then x else s.page s.journal.write.page).readable = []
    by_cases here : s.journal.write.page = p
    · rw [if_pos here]; exact .inr blank
    · rw [show (s.setPage p x).journal.write.page = s.journal.write.page from rfl, if_neg here] at filling
      exact .inl filling

/-- The records of a page stop being readable. -/
theorem Quiet.clear (s : State) (p : Nat) : Quiet s (s.setPage p { s.page p with readable := [] }) :=
  .setPage s p _ (fun w => State.pageSlots_wf w p) rfl

theorem Quiet.highTest (s : State) : Quiet s s.highTest := by
  have marked : ∀ b, Quiet s (s.setJournal { s.journal with high := b }) := fun b =>
    ⟨.setJournal s _ rfl rfl rfl, fun _ => Fade.of_same rfl rfl rfl rfl rfl rfl id id⟩
  unfold State.highTest
  split
  · split
    · exact .refl s
    · exact (marked true).trans (.raise _ rfl)
  · exact marked false

theorem Quiet.failJournal (s : State) (c : FailCause) : Quiet s (s.failJournal c) := by
  have failed : Quiet s (s.setJournal { s.journal with state := .failed c }) :=
    ⟨.setJournal s _ rfl rfl rfl, fun _ => Fade.of_same rfl rfl rfl rfl rfl rfl id nofun⟩
  unfold State.failJournal
  split
  · exact .refl s
  · exact failed.trans (.raise _ rfl)

theorem Quiet.sequenceTest (s : State) : Quiet s s.sequenceTest := by
  unfold State.sequenceTest
  split
  · exact .failJournal s _
  · exact .refl s

theorem Quiet.eraseAheadTest (s : State) : Quiet s s.eraseAheadTest := by
  unfold State.eraseAheadTest
  split
  · exact .refl s
  · dsimp only
    split
    · exact ⟨.setJournal s _ rfl rfl rfl, fun _ => Fade.of_same rfl rfl rfl rfl rfl rfl id id⟩
    · exact .refl s

theorem Quiet.setWriter (s : State) (w : Writer) (other : w ≠ .programming) :
    Quiet s (s.setJournal { s.journal with writer := w }) :=
  ⟨.setJournal s _ rfl rfl rfl, fun _ => Fade.of_same rfl rfl rfl rfl rfl rfl (fun h => absurd h other) id⟩

theorem Quiet.beginErase (s : State) (p : Nat) (forTurn : Bool) : Quiet s (s.beginErase p forTurn) :=
  (Quiet.clear s p).trans (.setWriter _ _ nofun)

/-! #### A page goes OUT (R157) -/

theorem Writer.wake_programming {w : Writer} (h : w.wake = .programming) : w = .programming := by
  cases w with
  | programming => rfl
  | idle => cases h
  | erasing page forTurn => cases h
  | waitingPage => cases h

theorem posOf_swap (ring : List RingPos) (p spare pos : Nat) {w : Nat} (hp : w ≠ p) (hs : w ≠ spare) :
    (ring.map fun x => if x.page = p then { pos := pos, page := spare, held := none } else x).find? (fun e => e.page == w) =
      ring.find? fun e => e.page == w := by
  induction ring with
  | nil => rfl
  | cons x ring ih =>
    rw [List.map_cons, List.find?_cons, List.find?_cons, ih]
    have other : ∀ n, w ≠ n → (n == w) = false := fun n h => by simpa using Ne.symm h
    by_cases h : x.page = p
    · rw [if_pos h, h, other p hp, other spare hs]
    · rw [if_neg h]

theorem posOf_remove (ring : List RingPos) (p : Nat) {w : Nat} (hp : w ≠ p) :
    (ring.filter fun x => x.page != p).find? (fun e => e.page == w) = ring.find? fun e => e.page == w := by
  induction ring with
  | nil => rfl
  | cons x ring ih =>
    by_cases h : x.page = p
    · rw [List.filter_cons_of_neg (by simp [h]), ih, List.find?_cons_of_neg (by simp [h, Ne.symm hp])]
    · rw [List.filter_cons_of_pos (by simpa using h), List.find?_cons, List.find?_cons, ih]

theorem posOf_retire (ring : List RingPos) (p held w : Nat) {e : RingPos}
    (found : (ring.map fun x => if x.page = p then { x with held := some held } else x).find? (fun e => e.page == w) = some e)
    (active : e.held = none) : ring.find? (fun e => e.page == w) = some e := by
  induction ring with
  | nil => cases found
  | cons x ring ih =>
    rw [List.map_cons, List.find?_cons] at found
    rw [List.find?_cons]
    by_cases h : x.page = p
    · rw [if_pos h] at found
      dsimp only at found
      by_cases q : x.page = w
      · rw [q, beq_self_eq_true] at found
        rw [← Option.some.inj found] at active
        cases active
      · have other : (x.page == w) = false := by simpa using q
        rw [other] at found ⊢
        exact ih found
    · rw [if_neg h] at found
      by_cases q : (x.page == w) = true
      · rw [q] at found ⊢; exact found
      · rw [Bool.not_eq_true] at q
        rw [q] at found ⊢
        exact ih found

/-- The ring changes, and with it whether the writer waits. -/
theorem JournalOp.setRing (s : State) (m : PageMap) (w : Writer) :
    JournalOp s (s.setJournal { s.journal with map := m, writer := w }) := .setJournal s _ rfl rfl rfl

theorem Fade.setRing {s : State} {m : PageMap} {w : Writer} (programming : w = .programming → s.journal.writer = .programming)
    (ring : ∀ q, (s.page q).readable = [] ∨ ∀ e, m.posOf q = some e → e.held = none → s.journal.map.posOf q = some e) :
    Fade s (s.setJournal { s.journal with map := m, writer := w }) :=
  Fade.of_ring rfl rfl rfl rfl rfl programming id ring

theorem Quiet.pageOut (s : State) (p : Nat) : Quiet s (s.pageOut p) := by
  unfold State.pageOut
  split
  · exact .refl s
  · next e _ =>
    dsimp only
    obtain ⟨s0, hs0⟩ : ∃ t, t = s.setPage p { s.page p with readable := [] } := ⟨_, rfl⟩
    have cleared : Quiet s s0 := hs0 ▸ Quiet.clear s p
    have map : s0.journal.map = s.journal.map := by rw [hs0]; rfl
    have here : s.pagesWf → (s0.page p).readable = [] := fun w => by rw [hs0, State.page_setPage w, if_pos rfl]
    rw [← hs0]
    split
    · next spare rest _ =>
      obtain ⟨s1, hs1⟩ : ∃ t, t = s0.setPage spare Page.blank := ⟨_, rfl⟩
      have blanked : Quiet s0 s1 := hs1 ▸ Quiet.setPage s0 spare Page.blank (fun _ => rfl) rfl
      have map1 : s1.journal.map = s.journal.map := by rw [hs1]; exact map
      have page : s.pagesWf → ∀ q, (q = p ∨ q = spare) → (s1.page q).readable = [] := fun w q hq => by
        rw [hs1, State.page_setPage (cleared.1.pages w)]
        split
        · rfl
        · next other => rw [hq.resolve_right other]; exact here w
      rw [← hs1]
      have swapped : Quiet s (s1.setJournal { s1.journal with
          map := {
            ring := s.journal.map.ring.map fun x => if x.page = p then { pos := e.pos, page := spare, held := none } else x,
            spares := rest, out := s.journal.map.out ++ [p] },
          writer := s1.journal.writer.wake }) := by
        refine ⟨(cleared.trans blanked).1.trans (.setRing ..), fun w => ((cleared.trans blanked).2 w).trans
          (Fade.setRing Writer.wake_programming fun q => ?_)⟩
        by_cases hq : q = p ∨ q = spare
        · exact .inl (page w q hq)
        · obtain ⟨hp, hs⟩ := not_or.mp hq
          exact .inr fun x hx _ => by rw [map1]; exact (posOf_swap _ p spare e.pos hp hs).symm.trans hx
      split
      · exact swapped.trans (.raise _ rfl)
      · exact swapped
    · have removed : Quiet s (s0.setJournal { s0.journal with
          map := { s.journal.map with
            ring := s.journal.map.ring.filter fun x => x.page != p, out := s.journal.map.out ++ [p] },
          writer := s0.journal.writer.wake }) := by
        refine ⟨cleared.1.trans (.setRing ..), fun w => (cleared.2 w).trans (Fade.setRing Writer.wake_programming fun q => ?_)⟩
        by_cases hq : q = p
        · exact .inl (hq ▸ here w)
        · exact .inr fun x hx _ => by rw [map]; exact (posOf_remove _ p hq).symm.trans hx
      split
      · exact (removed.trans (.highTest _)).trans (.failJournal _ _)
      · exact removed.trans (.highTest _)

theorem Quiet.pagesOut (s : State) (ps : List Nat) : Quiet s (ps.foldl State.pageOut s) := by
  induction ps generalizing s with
  | nil => exact .refl s
  | cons p ps ih => exact (Quiet.pageOut s p).trans (ih _)

theorem Quiet.outReleased (s : State) : Quiet s s.outReleased := .pagesOut s _

theorem Quiet.outUnread (s : State) : Quiet s s.outUnread := .pagesOut s _

theorem Quiet.retirePage (s : State) (p held : Nat) : Quiet s (s.retirePage p held) := by
  have marked : Quiet s (s.setJournal { s.journal with
      map := { s.journal.map with
        ring := s.journal.map.ring.map fun x => if x.page = p then { x with held := some held } else x } }) :=
    ⟨.setRing s _ s.journal.writer, fun _ => Fade.setRing id fun q => .inr fun e he active => posOf_retire _ p held q he active⟩
  have raised := marked.trans (.raise _ (n := .pageRetired) rfl)
  unfold State.retirePage
  dsimp only
  split
  · exact raised.trans (.pageOut _ p)
  · exact raised

/-! #### What the operations keep of the marks (R148) -/

/-- The law of the marks outside RECOVERING. -/
def State.marksHold (s : State) : Prop :=
  s.journal.discarded ≤ s.journal.released ∧ s.journal.released ≤ s.journal.newest ∧
  (∀ p, ∀ n ∈ (s.page p).sequences, n ≤ s.journal.newest) ∧
  (s.journal.writer = .programming ∨ s.writeFilling = true →
    ∀ n ∈ (s.page s.journal.write.page).readable, n < s.journal.write.slot)

theorem State.marksLawful.holds {s : State} (h : s.marksLawful) (going : s.journal.state ≠ .recovering) : s.marksHold := by
  obtain ⟨marks, _, numbered, ahead⟩ := h
  obtain ⟨low, high⟩ := marks going
  exact ⟨low, high, numbered, ahead⟩

theorem State.marksHold.lawful {s : State} (h : s.marksHold) (going : s.journal.state ≠ .recovering) : s.marksLawful := by
  obtain ⟨low, high, numbered, ahead⟩ := h
  exact ⟨fun _ => ⟨low, high⟩, fun recovering => absurd recovering going, numbered, ahead⟩

/-- While the writer is not idle, the journal is not RECOVERING. -/
theorem State.marksLawful.going {s : State} (h : s.marksLawful) (busy : s.journal.writer ≠ .idle) :
    s.journal.state ≠ .recovering := fun recovering => busy (h.2.1 recovering).1

theorem Page.sequences_nil {p : Page} (h : p.readable = []) : p.sequences = [] := by rw [Page.sequences, h]; rfl

/-- Pages that are as they were or without readable records have no record numbered higher. -/
theorem sequences_le_of_fade {s t : State} {bound : Nat} (pages : ∀ p, (t.page p).readable = [] ∨ t.page p = s.page p)
    (numbered : ∀ p, ∀ n ∈ (s.page p).sequences, n ≤ bound) : ∀ p, ∀ n ∈ (t.page p).sequences, n ≤ bound := fun p n hn => by
  obtain blank | same := pages p
  · rw [Page.sequences_nil blank] at hn; cases hn
  · rw [same] at hn; exact numbered p n hn

theorem Fade.keeps_marksHold {s t : State} (f : Fade s t) (h : s.marksHold) : t.marksHold := by
  obtain ⟨low, high, numbered, ahead⟩ := h
  rw [State.marksHold, f.discarded, f.released, f.newest]
  refine ⟨low, high, sequences_le_of_fade f.pages numbered, fun may n hn => ?_⟩
  rw [f.write] at hn ⊢
  obtain blank | same := f.pages s.journal.write.page
  · rw [blank] at hn; cases hn
  · rw [same] at hn
    obtain programming | filling := may
    · exact ahead (.inl (f.programming programming)) n hn
    · obtain before | blank := f.filling filling
      · exact ahead (.inr before) n hn
      · rw [f.write, same] at blank
        rw [blank] at hn; cases hn

/-- An operation of the Journal Unit that keeps the law of the marks. -/
structure MarksOp (s t : State) : Prop where
  op : JournalOp s t
  holds : s.pagesWf → s.marksHold → t.marksHold
  state : s.pagesWf → t.journal.state = .recovering → s.journal.state = .recovering

theorem Quiet.marksOp {s t : State} (h : Quiet s t) : MarksOp s t :=
  ⟨h.1, fun w => (h.2 w).keeps_marksHold, fun w => (h.2 w).state⟩

theorem MarksOp.refl (s : State) : MarksOp s s := (Quiet.refl s).marksOp

theorem MarksOp.trans {s t u : State} (h : MarksOp s t) (g : MarksOp t u) : MarksOp s u :=
  ⟨h.op.trans g.op, fun w => g.holds (h.op.pages w) ∘ h.holds w, fun w => h.state w ∘ g.state (h.op.pages w)⟩

theorem MarksOp.quiet {s t u : State} (h : MarksOp s t) (g : Quiet t u) : MarksOp s u := h.trans g.marksOp

/-- Outside RECOVERING such an operation is a change of the part. -/
theorem MarksOp.move {s t : State} (h : MarksOp s t) (going : s.marksLawful → s.journal.state ≠ .recovering) : Move s t := by
  refine .journal s t h.op fun w lawful => ?_
  have wp : s.pagesWf := ⟨w.pages, w.pageSlots⟩
  exact (h.holds wp (lawful.holds (going lawful))).lawful fun recovering => going lawful (h.state wp recovering)

/-- The marks move up to at most the newest record. -/
theorem MarksOp.setMarks (s : State) (d r : Nat) (bound : s.marksHold → d ≤ r ∧ r ≤ s.journal.newest) :
    MarksOp s (s.setJournal { s.journal with discarded := d, released := r }) := by
  refine ⟨.setJournal s _ rfl rfl rfl, fun _ h => ?_, fun _ => id⟩
  obtain ⟨low, high⟩ := bound h
  exact ⟨low, high, h.2.2⟩

theorem foldl_max_mem_le {l : List Nat} {bound : Nat} (h : ∀ n ∈ l, n ≤ bound) : l.foldl max 0 ≤ bound :=
  foldl_max_le (Nat.zero_le bound) h

theorem MarksOp.discardPage (s : State) (p : Nat) : MarksOp s (s.discardPage p) := by
  have marked := MarksOp.setMarks s ((s.page p).sequences.foldl max 0)
    (max s.journal.released ((s.page p).sequences.foldl max 0))
    fun ⟨_, high, numbered, _⟩ => ⟨le_max_right _ _, max_le high (foldl_max_mem_le (numbered p))⟩
  have cleared := marked.quiet (.setPage _ p { s.page p with readable := [] } (fun w => State.pageSlots_wf (s := s) w p) rfl)
  exact ((cleared.quiet (.outReleased _)).quiet (.raise _ (n := .journalDiscard) rfl)).quiet (.highTest _)

theorem MarksOp.takePage (s : State) (e : RingPos) : MarksOp s (s.takePage e) := by
  have quiet := Quiet.setPage s e.page { s.page e.page with fill := .filling, readable := [] }
    (fun w => State.pageSlots_wf w e.page) rfl
  refine ⟨quiet.1.trans (.setJournal _ _ rfl rfl rfl), fun w h => ?_, fun _ => id⟩
  obtain ⟨low, high, numbered, _⟩ := (quiet.2 w).keeps_marksHold h
  refine ⟨low, high, numbered, fun _ n hn => ?_⟩
  have blank : ((s.takePage e).page e.page).readable = [] := congrArg Page.readable
    ((State.page_setPage w e.page _ e.page).trans (if_pos rfl))
  exact absurd (blank ▸ hn) List.not_mem_nil

theorem MarksOp.turnPage (s : State) : MarksOp s s.turnPage := by
  unfold State.turnPage
  split
  · exact (Quiet.setWriter s .waitingPage nofun).marksOp
  · next e _ =>
    split
    · exact .takePage s e
    · split
      · exact (Quiet.beginErase s e.page true).marksOp
      · dsimp only
        split
        · exact (MarksOp.discardPage s e.page).quiet (.beginErase _ e.page true)
        · exact .discardPage s e.page

theorem MarksOp.releaseTo (s : State) (through : Nat) (above : s.journal.released < through)
    (below : through ≤ s.journal.newest) : MarksOp s (s.releaseTo through) := by
  have marked := MarksOp.setMarks s s.journal.discarded through fun ⟨low, _⟩ => ⟨by omega, below⟩
  have tested := (marked.quiet (.outReleased _)).quiet (.highTest _)
  unfold State.releaseTo
  dsimp only
  split
  · exact tested.quiet (.eraseAheadTest _)
  · exact tested

theorem MarksOp.eraseDone (s : State) (p : Nat) (forTurn : Bool) (slots : Table (List Byte))
    (wf : tableWf erasedSlot slots = true) : MarksOp s (s.eraseDone p forTurn slots) := by
  have read := Quiet.setPage s p { slots := slots, fill := if slots.isEmpty then .erased else .full, readable := [] }
    (fun _ => wf) rfl
  have done := read.trans (Quiet.setWriter _ .idle nofun)
  unfold State.eraseDone
  dsimp only
  split
  · exact (done.trans (.retirePage _ p 0)).marksOp
  · split
    · split
      · exact done.marksOp.trans (.takePage _ _)
      · exact done.marksOp
    · exact done.marksOp

/-! #### Numbers in bytes (R203, R207) -/

theorem foldl_bigEndian (w v a : Nat) :
    (bigEndian w v).foldl (fun n b => 256 * n + b.toNat) a = a * 256 ^ w + v % 256 ^ w := by
  induction w generalizing a with
  | zero => simp [bigEndian, Nat.mod_one]
  | succ w ih =>
    have split : v % 256 ^ (w + 1) = v % 256 ^ w + 256 ^ w * (v / 256 ^ w % 256) := by rw [Nat.pow_succ, Nat.mod_mul]
    rw [bigEndian, List.foldl_cons, ih, BitVec.toNat_ofNat, split]
    ring

theorem numberOf_bigEndian (w v : Nat) : numberOf (bigEndian w v) = v % 256 ^ w := by
  rw [numberOf, foldl_bigEndian, Nat.zero_mul, Nat.zero_add]

theorem foldl_bytes_lt (bs : List Byte) {a c : Nat} (h : a < c) :
    bs.foldl (fun n b => 256 * n + b.toNat) a < c * 256 ^ bs.length := by
  induction bs generalizing a c with
  | nil => simpa using h
  | cons b bs ih =>
    have next : 256 * a + b.toNat < 256 * c := by have := b.isLt; omega
    have := ih next
    rw [List.foldl_cons, List.length_cons, Nat.pow_succ]
    calc _ < 256 * c * 256 ^ bs.length := this
      _ = c * (256 ^ bs.length * 256) := by ring

theorem numberOf_lt (bs : List Byte) : numberOf bs < 256 ^ bs.length := by
  have bound := foldl_bytes_lt bs Nat.one_pos
  rwa [Nat.one_mul] at bound

/-- A field of `w` bytes is below 256 to the `w`. -/
theorem fieldAt_lt (bs : List Byte) (o w : Nat) : fieldAt bs o w < 256 ^ w :=
  lt_of_lt_of_le (numberOf_lt _) (Nat.pow_le_pow_right (by decide) (by simp))

/-- A record programmed under a number reads back with no higher one. -/
theorem slotSequence_recordImage_le (n : Nat) (r : Rec) : slotSequence (recordImage n r) ≤ n := by
  have front : (recordImage n r).take 4 = bigEndian 4 n := by
    have length : (bigEndian 4 n).length = 4 := bigEndian_length 4 n
    unfold recordImage recordBody
    simp only [List.append_assoc]
    rw [List.take_left' length]
  rw [slotSequence, front, numberOf_bigEndian]
  exact Nat.mod_le _ _

/-! #### Programs (R149 to R151, R168) -/

theorem Page.slot_setSlot {x : Page} (w : tableWf erasedSlot x.slots = true) (n : Nat) (bs : List Byte) (m : Nat) :
    (x.setSlot n bs).slot m = if m = n then bs else x.slot m := tableLook_put w n bs m

/-- The write position's page once its slot reads as given. -/
def State.programmed (s : State) (contents : List Byte) (fill : Fill) : State :=
  (s.setPage s.journal.write.page
    { (s.page s.journal.write.page).setSlot s.journal.write.slot contents with fill := fill }).setJournal
    { (s.setPage s.journal.write.page
        { (s.page s.journal.write.page).setSlot s.journal.write.slot contents with fill := fill }).journal with writer := .idle }

/-- A slot that is not readable is written: every readable record stays as it was. -/
theorem sequences_setSlot {x : Page} (w : tableWf erasedSlot x.slots = true) {n : Nat} (bs : List Byte)
    (below : ∀ m ∈ x.readable, m < n) : (x.setSlot n bs).sequences = x.sequences :=
  List.map_congr_left fun m hm => by
    rw [Page.slot_setSlot w, if_neg]
    have := below m hm
    omega

theorem MarksOp.programmed (s : State) (contents : List Byte) (fill : Fill) (programming : s.journal.writer = .programming) :
    MarksOp s (s.programmed contents fill) := by
  have slots : s.pagesWf → tableWf erasedSlot ((s.page s.journal.write.page).setSlot s.journal.write.slot contents).slots = true :=
    fun w => Page.setSlot_wf (State.pageSlots_wf w _) _ _
  have written : JournalOp s (s.setPage s.journal.write.page
      { (s.page s.journal.write.page).setSlot s.journal.write.slot contents with fill := fill }) := .setPage s _ _ slots
  refine ⟨written.trans (.setJournal _ _ rfl rfl rfl), fun w ⟨low, high, numbered, ahead⟩ => ?_, fun _ => id⟩
  have below := ahead (.inl programming)
  have page : ∀ p, (s.programmed contents fill).page p = if p = s.journal.write.page then
      { (s.page s.journal.write.page).setSlot s.journal.write.slot contents with fill := fill } else s.page p :=
    fun p => State.page_setPage w _ _ p
  refine ⟨low, high, fun p n hn => ?_, fun _ n hn => ?_⟩
  · rw [page] at hn
    by_cases here : p = s.journal.write.page
    · rw [if_pos here] at hn
      have same := sequences_setSlot (State.pageSlots_wf w s.journal.write.page) contents below
      exact numbered s.journal.write.page n (same ▸ hn)
    · rw [if_neg here] at hn; exact numbered p n hn
  · have here : (s.programmed contents fill).page s.journal.write.page = _ := (page _).trans (if_pos rfl)
    exact below n (congrArg Page.readable here ▸ hn)

/-- A record made durable, before the tests that follow (R150). -/
def State.recorded (s : State) (contents : List Byte) : State :=
  let w := s.journal.write
  let p := (s.page w.page).setSlot w.slot contents
  let s1 := s.setPage w.page { p with readable := p.readable ++ [w.slot], fill := if w.slot = 63 then .full else p.fill }
  s1.setJournal
    { { s1.journal with newest := s.journal.newest + 1 }.unstage s.clock.minute s.clock.second with
      write := { w with slot := w.slot + 1 }, writer := .idle }

theorem State.recordDurable_eq (s : State) (contents : List Byte) :
    s.recordDurable contents =
      (if s.journal.write.slot + 1 = 32 then (s.recorded contents).eraseAheadTest
        else s.recorded contents).highTest.sequenceTest := rfl

theorem Journal.unstage_journal (j : Journal) (m x : Nat) :
    j.unstage m x = { j with staging := (j.unstage m x).staging, unstaged := (j.unstage m x).unstaged } := by
  unfold Journal.unstage
  split <;> rfl

theorem Journal.unstage_bounded (j : Journal) (m x : Nat) (staging : j.staging.length ≤ Config.staging)
    (unstaged : j.unstaged ≤ 65535) :
    (j.unstage m x).staging.length ≤ Config.staging ∧ (j.unstage m x).unstaged ≤ 65535 := by
  have config : Config.staging = 32 := rfl
  unfold Journal.unstage
  split
  · exact ⟨by simp only [List.length_tail]; omega, unstaged⟩
  · refine ⟨?_, Nat.zero_le _⟩
    simp only [List.length_append, List.length_tail, List.length_singleton]
    omega

theorem JournalOp.recorded (s : State) (contents : List Byte) : JournalOp s (s.recorded contents) := by
  refine ⟨rfl, fun w => ?_, fun ⟨staging, unstaged⟩ => Journal.unstage_bounded _ _ _ staging unstaged⟩
  have written := State.setPage_wf w s.journal.write.page (x :=
    { (s.page s.journal.write.page).setSlot s.journal.write.slot contents with
      readable := (s.page s.journal.write.page).readable ++ [s.journal.write.slot]
      fill := if s.journal.write.slot = 63 then .full else (s.page s.journal.write.page).fill })
    (Page.setSlot_wf (State.pageSlots_wf w _) _ _)
  unfold State.recorded State.pagesWf State.setJournal
  dsimp only
  rw [Journal.unstage_journal]
  exact written

theorem MarksOp.recorded (s : State) (contents : List Byte) (programming : s.journal.writer = .programming)
    (number : slotSequence contents ≤ s.journal.newest + 1) : MarksOp s (s.recorded contents) := by
  refine ⟨.recorded s contents, fun w ⟨low, high, numbered, ahead⟩ => ?_, fun _ => ?_⟩
  · have below := ahead (.inl programming)
    have page : ∀ p, (s.recorded contents).page p = if p = s.journal.write.page then
        { (s.page s.journal.write.page).setSlot s.journal.write.slot contents with
          readable := (s.page s.journal.write.page).readable ++ [s.journal.write.slot]
          fill := if s.journal.write.slot = 63 then .full else (s.page s.journal.write.page).fill } else s.page p := fun p => by
      unfold State.recorded State.setJournal State.page
      dsimp only
      rw [Journal.unstage_journal]
      exact State.page_setPage w _ _ p
    have slot := Page.slot_setSlot (State.pageSlots_wf w s.journal.write.page) s.journal.write.slot contents
    have newest : (s.recorded contents).journal.newest = s.journal.newest + 1 := by
      unfold State.recorded; dsimp only; rw [Journal.unstage_journal]; rfl
    have marks : (s.recorded contents).journal.discarded = s.journal.discarded ∧
        (s.recorded contents).journal.released = s.journal.released := by
      unfold State.recorded; dsimp only; rw [Journal.unstage_journal]; exact ⟨rfl, rfl⟩
    rw [State.marksHold, marks.1, marks.2, newest]
    refine ⟨low, by omega, fun p n hn => ?_, fun _ n hn => ?_⟩
    · rw [page] at hn
      by_cases here : p = s.journal.write.page
      · rw [if_pos here] at hn
        obtain ⟨m, hm, rfl⟩ := List.mem_map.mp hn
        change slotSequence (((s.page s.journal.write.page).setSlot s.journal.write.slot contents).slot m) ≤ _
        rw [slot]
        obtain old | new := List.mem_append.mp hm
        · have := below m old
          rw [if_neg (by omega)]
          exact le_trans (numbered s.journal.write.page _ (List.mem_map_of_mem old)) (Nat.le_succ _)
        · rw [if_pos (List.mem_singleton.mp new)]; exact number
      · rw [if_neg here] at hn; exact le_trans (numbered p n hn) (Nat.le_succ _)
    · have here : (s.recorded contents).page s.journal.write.page = _ := (page _).trans (if_pos rfl)
      change n < s.journal.write.slot + 1
      obtain old | new := List.mem_append.mp (congrArg Page.readable here ▸ hn)
      · have := below n old; omega
      · rw [List.mem_singleton.mp new]; omega
  · unfold State.recorded; dsimp only; rw [Journal.unstage_journal]; exact id

theorem MarksOp.recordDurable (s : State) (r : Rec) (programming : s.journal.writer = .programming) :
    MarksOp s (s.recordDurable (recordImage (s.journal.newest + 1) r)) := by
  have recorded := MarksOp.recorded s _ programming (slotSequence_recordImage_le (s.journal.newest + 1) r)
  rw [State.recordDurable_eq]
  refine MarksOp.quiet (.quiet ?_ (.highTest _)) (.sequenceTest _)
  split
  · exact recorded.quiet (.eraseAheadTest _)
  · exact recorded

theorem MarksOp.programDone (s : State) (contents : List Byte) (programming : s.journal.writer = .programming) :
    MarksOp s (s.programDone contents) := by
  unfold State.programDone
  split
  · exact (Quiet.setWriter s .idle nofun).marksOp
  · next r _ _ =>
    dsimp only
    split
    · next same => rw [same]; exact .recordDurable s r programming
    · exact (MarksOp.programmed s contents _ programming).quiet (.retirePage _ _ _)

theorem MarksOp.resolveProgram (s : State) (contents : List Byte) : MarksOp s (s.resolveProgram contents) := by
  unfold State.resolveProgram
  split
  · next r _ programming _ =>
    split
    · next same => rw [same]; exact .recordDurable s r programming
    · exact .programmed s contents .full programming
  · exact .refl s

theorem MarksOp.programStart (s : State) (filling : s.writeFilling = true) :
    MarksOp s (s.setJournal { s.journal with writer := .programming }) := by
  refine ⟨.setJournal s _ rfl rfl rfl, fun _ ⟨low, high, numbered, ahead⟩ => ?_, fun _ => id⟩
  exact ⟨low, high, numbered, fun _ => ahead (.inr filling)⟩

end Sys2Proof.Machine
end

section
/-! PROOFS. The recovery scan keeps the law of the marks, and so does every change (O5). -/

namespace Sys2Proof.Machine

/-! #### What the scan finds (R166) -/

theorem mem_foundFrom {s : State} {l : List RingPos} {i : Nat} {x : Found} (h : x ∈ s.foundFrom i l) :
    ∃ e ∈ l, e.page = x.page ∧ x.slot ∈ foundSlots (s.page x.page) e.held ∧
      x.seq = slotSequence ((s.page x.page).slot x.slot) := by
  induction l generalizing i with
  | nil => cases h
  | cons e l ih =>
    rw [State.foundFrom] at h
    obtain here | later := List.mem_append.mp h
    · obtain ⟨n, hn, rfl⟩ := List.mem_map.mp here
      exact ⟨e, List.mem_cons_self, rfl, hn, rfl⟩
    · obtain ⟨e, he, rest⟩ := ih later
      exact ⟨e, List.mem_cons_of_mem _ he, rest⟩

theorem mem_of_mem_lastCopies {l : List Found} {x : Found} (h : x ∈ lastCopies l) : x ∈ l := by
  induction l with
  | nil => cases h
  | cons y l ih =>
    unfold lastCopies at h
    split at h
    · exact List.mem_cons_of_mem _ (ih h)
    · cases h with
      | head => exact List.mem_cons_self
      | tail _ h => exact List.mem_cons_of_mem _ (ih h)

/-- Every number found has a last copy. -/
theorem exists_lastCopy {l : List Found} {x : Found} (h : x ∈ l) : ∃ y ∈ lastCopies l, y.seq = x.seq := by
  induction l generalizing x with
  | nil => cases h
  | cons z l ih =>
    unfold lastCopies
    split
    · next later =>
      cases h with
      | tail _ h => exact ih h
      | head =>
        obtain ⟨y, hy, same⟩ := List.any_eq_true.mp later
        obtain ⟨u, hu, seq⟩ := ih hy
        exact ⟨u, hu, seq.trans (beq_iff_eq.mp same)⟩
    · cases h with
      | head => exact ⟨_, List.mem_cons_self, rfl⟩
      | tail _ h =>
        obtain ⟨y, hy, seq⟩ := ih h
        exact ⟨y, List.mem_cons_of_mem _ hy, seq⟩

theorem oldestFrom_le (seqs : List Nat) (fuel n : Nat) : oldestFrom seqs fuel n ≤ n := by
  induction fuel generalizing n with
  | zero => exact le_rfl
  | succ fuel ih =>
    unfold oldestFrom
    split
    · exact le_trans (ih (n - 1)) (Nat.sub_le n 1)
    · exact le_rfl

theorem foldl_max_eq (l : List Nat) (a : Nat) : l.foldl max a = a ∨ l.foldl max a ∈ l := by
  induction l generalizing a with
  | nil => exact .inl rfl
  | cons x l ih =>
    rw [List.foldl_cons]
    obtain first | later := ih (max a x)
    · rw [first]
      obtain h | h := max_choice a x
      · exact .inl h
      · rw [h]; exact .inr List.mem_cons_self
    · exact .inr (List.mem_cons_of_mem _ later)

/-- The greatest number found is a number found. -/
theorem exists_newest {l : List Found} (some : l ≠ []) : ∃ x ∈ l, x.seq = (l.map Found.seq).foldl max 0 := by
  obtain zero | mem := foldl_max_eq (l.map Found.seq) 0
  · obtain ⟨x, hx⟩ := List.exists_mem_of_ne_nil l some
    refine ⟨x, hx, Nat.le_antisymm (le_foldl_max (List.mem_map_of_mem hx) 0) ?_⟩
    rw [zero]
    exact Nat.zero_le _
  · obtain ⟨x, hx, seq⟩ := List.mem_map.mp mem
    exact ⟨x, hx, seq⟩

/-- What the rebuild of the pages rests on. -/
structure ScanFacts (s : State) (r : ScanResult) : Prop where
  found : ∀ x ∈ r.readable, x ∈ s.foundFrom 0 s.journal.map.ring ∧ x.seq ≤ r.newest
  mark : r.oldest.elim r.newest (fun n => n - 1) ≤ r.newest
  holder : r.holder = none → r.readable = []

theorem State.scan_facts (s : State) : ScanFacts s s.scan := by
  unfold State.scan
  dsimp only
  obtain ⟨all, hall⟩ : ∃ all, all = s.foundFrom 0 s.journal.map.ring := ⟨_, rfl⟩
  rw [← hall]
  obtain ⟨newest, hnewest⟩ : ∃ n, n = (all.map Found.seq).foldl max 0 := ⟨_, rfl⟩
  rw [← hnewest]
  obtain ⟨top, htop⟩ : ∃ top, top = (all.filter fun x => x.seq == newest).foldl (fun i x => max i x.idx) 0 := ⟨_, rfl⟩
  rw [← htop]
  have rotated : ∀ x, x ∈ (all.filter fun x => decide (top < x.idx)) ++ (all.filter fun x => decide (x.idx ≤ top)) ↔ x ∈ all :=
    fun x => by
      simp only [List.mem_append, List.mem_filter, decide_eq_true_eq]
      have := Nat.lt_or_ge top x.idx
      tauto
  split
  · next empty => exact ⟨fun _ hx => (List.not_mem_nil hx).elim, le_rfl, fun _ => rfl⟩
  · next some =>
    refine ⟨fun x hx => ?_, ?_, fun none => ?_⟩
    · have mem := (rotated x).mp (mem_of_mem_lastCopies (List.mem_of_mem_filter hx))
      exact ⟨hall ▸ mem, hnewest ▸ le_foldl_max (List.mem_map_of_mem mem) 0⟩
    · exact le_trans (Nat.sub_le _ 1) (oldestFrom_le _ _ _)
    · obtain ⟨x, hx, seq⟩ := exists_newest (l := all) fun nil => some (by rw [nil]; rfl)
      rw [← hnewest] at seq
      obtain ⟨y, hy, same⟩ := exists_lastCopy ((rotated x).mpr hx)
      have absent := List.find?_eq_none.mp none y hy
      simp [same, seq] at absent

/-- A slot found on a page lies among the records that lead it, when only erased slots follow those (R166). -/
theorem foundSlots_lt {p : Page} {held : Option Nat} {n : Nat} (rest : restErased p = true) (h : n ∈ foundSlots p held) :
    n < (recordPrefix p Config.slotsPerPage 0).length := by
  have leading_lt : ∀ fuel m, ∀ n ∈ recordPrefix p fuel m, n < m + (recordPrefix p fuel m).length := fun fuel => by
    induction fuel with
    | zero => exact fun m n hn => absurd hn List.not_mem_nil
    | succ fuel ih =>
      intro m n hn
      unfold recordPrefix at hn ⊢
      split at hn
      · next record =>
        rw [if_pos record, List.length_cons]
        cases hn with
        | head => omega
        | tail _ hn => have := ih (m + 1) n hn; omega
      · cases hn
  unfold foundSlots at h
  cases held with
  | none => simpa using leading_lt _ 0 n h
  | some k =>
    have written := (List.mem_filter.mp h).2
    have listed := mem_of_tableLook (t := p.slots) (n := n) erasedSlot (by simpa [Page.slot] using written)
    simpa using List.all_eq_true.mp rest _ listed

/-! #### The pages rebuilt (R166) -/

/-- A ring page as the scan rebuilds it. -/
def Page.rebuilt (x : Page) (r : ScanResult) (filling : Option Nat) (p : Nat) : Page :=
  { x with
    readable := slotsOn p r.readable
    fill := if filling = some p then .filling else if x.slots.isEmpty then .erased else .full }

theorem JournalOp.rebuildPages (s : State) (r : ScanResult) (filling : Option Nat) : JournalOp s (s.rebuildPages r filling) := by
  unfold State.rebuildPages
  generalize s.journal.map.ring = ring
  induction ring generalizing s with
  | nil => exact .refl s
  | cons e ring ih =>
    exact (JournalOp.setPage s e.page ((s.page e.page).rebuilt r filling e.page) fun w => State.pageSlots_wf w _).trans (ih _)

theorem State.rebuildPages_journal (s : State) (r : ScanResult) (filling : Option Nat) :
    (s.rebuildPages r filling).journal = { s.journal with pages := (s.rebuildPages r filling).journal.pages } := by
  unfold State.rebuildPages
  generalize s.journal.map.ring = ring
  induction ring generalizing s with
  | nil => rfl
  | cons e ring ih => exact ih (s.setPage e.page ((s.page e.page).rebuilt r filling e.page))

theorem State.rebuildPages_page {s : State} (w : s.pagesWf) (r : ScanResult) (filling : Option Nat) (p : Nat) :
    (s.rebuildPages r filling).page p =
      if p ∈ s.journal.map.ring.map RingPos.page then (s.page p).rebuilt r filling p else s.page p := by
  unfold State.rebuildPages
  generalize s.journal.map.ring = ring
  induction ring generalizing s with
  | nil => rfl
  | cons e ring ih =>
    have wf := State.setPage_wf w e.page (x := (s.page e.page).rebuilt r filling e.page) (State.pageSlots_wf w _)
    refine (ih wf).trans ?_
    rw [State.page_setPage w]
    by_cases here : p = e.page
    · subst here; simp [Page.rebuilt]
    · simp [here]

theorem mem_slotsOn {p n : Nat} {xs : List Found} (h : n ∈ slotsOn p xs) : ∃ x ∈ xs, x.page = p ∧ x.slot = n := by
  obtain ⟨x, hx, same⟩ := List.any_eq_true.mp (List.mem_filter.mp h).2
  exact ⟨x, hx, by simpa using same⟩

/-- Once the pages are rebuilt, no readable record is numbered above the newest found. -/
theorem ScanFacts.numbered {s : State} {r : ScanResult} (facts : ScanFacts s r) (w : s.pagesWf)
    (blank : ∀ p, (s.page p).readable = []) (filling : Option Nat) (p : Nat) :
    ∀ n ∈ ((s.rebuildPages r filling).page p).sequences, n ≤ r.newest := fun n hn => by
  rw [State.rebuildPages_page w] at hn
  split at hn
  · obtain ⟨m, hm, rfl⟩ := List.mem_map.mp hn
    obtain ⟨x, hx, rfl, rfl⟩ := mem_slotsOn hm
    obtain ⟨found, below⟩ := facts.found x hx
    obtain ⟨_, _, _, _, seq⟩ := mem_foundFrom found
    exact seq ▸ below
  · rw [Page.sequences_nil (blank p)] at hn; cases hn

/-- The slots readable on the page of the newest record lie before the write position, when that page is FILLING. -/
theorem ScanFacts.ahead {s : State} {r : ScanResult} (facts : ScanFacts s r) (w : s.pagesWf)
    (blank : ∀ p, (s.page p).readable = []) {x : Found} (filling : (s.scanWrite x).2 = true) (f : Option Nat) :
    ∀ n ∈ ((s.rebuildPages r f).page x.page).readable, n < x.slot + 1 := fun n hn => by
  unfold State.scanWrite at filling
  simp only [Bool.and_eq_true, decide_eq_true_eq] at filling
  obtain ⟨⟨_, rest⟩, length⟩ := filling
  rw [State.rebuildPages_page w] at hn
  split at hn
  · obtain ⟨y, hy, same, rfl⟩ := mem_slotsOn hn
    obtain ⟨_, _, _, slot, _⟩ := mem_foundFrom (facts.found y hy).1
    rw [same] at slot
    exact length ▸ foundSlots_lt rest slot
  · rw [blank] at hn; cases hn

/-- The marks and the write position that the scan found (R166). -/
def State.placed (s : State) (r : ScanResult) (w : WritePos) : State :=
  s.setJournal { s.journal with
    newest := r.newest, released := r.oldest.elim r.newest (fun n => n - 1)
    discarded := r.oldest.elim r.newest (fun n => n - 1), write := w }

theorem marksHold_of_blank {s : State} (low : s.journal.discarded ≤ s.journal.released)
    (high : s.journal.released ≤ s.journal.newest) (blank : ∀ p, (s.page p).readable = []) : s.marksHold :=
  ⟨low, high, fun p _ hn => (List.not_mem_nil (Page.sequences_nil (blank p) ▸ hn)).elim,
    fun _ _ hn => (List.not_mem_nil (blank _ ▸ hn)).elim⟩

theorem State.scanPlaces_op (s : State) (r : ScanResult) : JournalOp s (s.scanPlaces r) := by
  have placed : ∀ f w, JournalOp s ((s.rebuildPages r f).placed r w) := fun f _ =>
    (JournalOp.rebuildPages s r f).trans (.setJournal _ _ rfl rfl rfl)
  have first : ∀ s : State, JournalOp s s.takeFirst := fun s => by
    unfold State.takeFirst
    split
    · exact .refl s
    · split
      · exact (MarksOp.takePage s _).op
      · exact .setJournal s _ rfl rfl rfl
  unfold State.scanPlaces
  dsimp only
  split
  · next x _ =>
    exact (placed (if (s.scanWrite x).2 then some (s.scanWrite x).1.page else none) (s.scanWrite x).1).trans
      (Quiet.outUnread _).1
  · exact ((placed none (s.rebuildPages r none).journal.write).trans (Quiet.outUnread _).1).trans (first _)

theorem PageMap.mem_of_posOf {m : PageMap} {p : Nat} {e : RingPos} (h : m.posOf p = some e) : p ∈ m.ring.map RingPos.page :=
  List.mem_map.mpr ⟨e, List.mem_of_find?_eq_some h, by simpa using List.find?_some h⟩

/-- A rebuild that leaves no page FILLING leaves none at the write position. -/
theorem State.placed_not_filling {s : State} (w : s.pagesWf) (r : ScanResult) (pos : WritePos) :
    ((s.rebuildPages r none).placed r pos).writeFilling = false := by
  have map : (s.rebuildPages r none).journal.map = s.journal.map := by rw [State.rebuildPages_journal]
  have page : ((s.rebuildPages r none).placed r pos).page pos.page = (s.rebuildPages r none).page pos.page := rfl
  change ((match (s.rebuildPages r none).journal.map.posOf pos.page with
    | some e => e.held.isNone
    | none => false) && (((s.rebuildPages r none).placed r pos).page pos.page).fill == .filling) = false
  rw [page, map]
  cases h : s.journal.map.posOf pos.page with
  | none => rfl
  | some e =>
    rw [State.rebuildPages_page w, if_pos (PageMap.mem_of_posOf h)]
    unfold Page.rebuilt
    cases (s.page pos.page).slots.isEmpty <;> simp

theorem State.rebuildPages_blank {s : State} (w : s.pagesWf) {r : ScanResult} (unread : r.readable = [])
    (blank : ∀ p, (s.page p).readable = []) (f : Option Nat) (p : Nat) : ((s.rebuildPages r f).page p).readable = [] := by
  rw [State.rebuildPages_page w]
  split
  · simp [Page.rebuilt, unread, slotsOn]
  · exact blank p

theorem State.takeFirst_marks {s : State} (w : s.pagesWf) (low : s.journal.discarded ≤ s.journal.released)
    (high : s.journal.released ≤ s.journal.newest) (blank : ∀ p, (s.page p).readable = []) : s.takeFirst.marksHold := by
  have hold := marksHold_of_blank low high blank
  unfold State.takeFirst
  split
  · exact hold
  · split
    · exact (MarksOp.takePage s _).holds w hold
    · exact marksHold_of_blank low high blank

theorem State.scanPlaces_marks {s : State} {r : ScanResult} (w : s.pagesWf) (idle : s.journal.writer = .idle)
    (blank : ∀ p, (s.page p).readable = []) (facts : ScanFacts s r) : (s.scanPlaces r).marksHold := by
  have wf : ∀ f p, ((s.rebuildPages r f).placed r p).pagesWf := fun f p => (JournalOp.rebuildPages s r f).pages w
  unfold State.scanPlaces
  dsimp only
  split
  · next x _ =>
    refine ((Quiet.outUnread _).2 (wf _ _)).keeps_marksHold ⟨le_rfl, facts.mark, facts.numbered w blank _, fun may n hn => ?_⟩
    have still : (s.rebuildPages r (if (s.scanWrite x).2 then some (s.scanWrite x).1.page else none)).journal.writer = .idle := by
      rw [State.rebuildPages_journal]; exact idle
    obtain programming | filling := may
    · exact absurd (still.symm.trans programming) nofun
    · refine facts.ahead w blank (x := x) ?_ _ n hn
      by_contra off
      rw [if_neg off, State.placed_not_filling w] at filling
      cases filling
  · next absent =>
    have unread := facts.holder absent
    obtain ⟨op, fade⟩ := Quiet.outUnread ((s.rebuildPages r none).placed r (s.rebuildPages r none).journal.write)
    have wp := wf none (s.rebuildPages r none).journal.write
    have faded := fade wp
    change (State.takeFirst (State.outUnread ((s.rebuildPages r none).placed r _))).marksHold
    refine State.takeFirst_marks (op.pages wp) ?_ ?_ fun p => ?_
    · rw [faded.discarded, faded.released]
      exact le_rfl
    · rw [faded.released, faded.newest]
      exact facts.mark
    · obtain gone | same := faded.pages p
      · exact gone
      · rw [same]
        exact State.rebuildPages_blank w unread blank _ p


/-! #### The scan completes (R166, R167) -/

theorem State.failJournal_going (s : State) (c : FailCause) : (s.failJournal c).journal.state ≠ .recovering := by
  unfold State.failJournal
  split
  · next failed => obtain h | h := failed <;> simp [h]
  · simp [State.setJournal]

theorem State.highTest_state (s : State) : s.highTest.journal.state = s.journal.state := by
  unfold State.highTest
  split
  · split
    · rfl
    · simp [State.setJournal]
  · rfl

theorem JournalOp.completeScan (s : State) (r : ScanResult) : JournalOp s (s.completeScan r) := by
  have placed := State.scanPlaces_op s r
  unfold State.completeScan
  dsimp only
  refine JournalOp.trans ?_ (Quiet.highTest _).1
  split
  · exact placed.trans (Quiet.failJournal _ _).1
  · split
    · exact placed.trans (Quiet.failJournal _ _).1
    · exact placed.trans (.setJournal _ _ rfl rfl rfl)

theorem State.completeScan_marks {s : State} {r : ScanResult} (w : s.pagesWf) (held : (s.scanPlaces r).marksHold) :
    (s.completeScan r).marksLawful := by
  have wp := (State.scanPlaces_op s r).pages w
  have last : ∀ t : State, t.pagesWf → t.marksHold → t.journal.state ≠ .recovering → t.highTest.marksLawful :=
    fun t wt hold going => (((Quiet.highTest t).2 wt).keeps_marksHold hold).lawful (by rw [State.highTest_state]; exact going)
  have failed : ∀ c, ((s.scanPlaces r).failJournal c).highTest.marksLawful := fun c =>
    have quiet := Quiet.failJournal (s.scanPlaces r) c
    last _ (quiet.1.pages wp) ((quiet.2 wp).keeps_marksHold held) (State.failJournal_going _ c)
  unfold State.completeScan
  dsimp only
  split
  · exact failed _
  · split
    · exact failed _
    · exact last _ wp held nofun

theorem Move.completeScan (s : State) (recovering : s.journal.state = .recovering) : Move s (s.completeScan s.scan) :=
  .journal s _ (.completeScan s s.scan) fun w lawful => by
    obtain ⟨idle, blank⟩ := lawful.2.1 recovering
    have wp : s.pagesWf := ⟨w.pages, w.pageSlots⟩
    exact State.completeScan_marks wp (State.scanPlaces_marks wp idle blank s.scan_facts)

/-! #### Every change keeps the law of the marks (O5) -/

theorem State.marksLawful_of_same {s t : State} (h : s.marksLawful) (pages : t.journal.pages = s.journal.pages)
    (map : t.journal.map = s.journal.map) (write : t.journal.write = s.journal.write)
    (newest : t.journal.newest = s.journal.newest) (released : t.journal.released = s.journal.released)
    (discarded : t.journal.discarded = s.journal.discarded) (writer : t.journal.writer = s.journal.writer)
    (state : t.journal.state = s.journal.state) : t.marksLawful := by
  have page : ∀ p, t.page p = s.page p := fun p => by rw [State.page, pages]; rfl
  have filling : t.writeFilling = s.writeFilling := by simp only [State.writeFilling, page, map, write]
  unfold State.marksLawful at *
  rw [write, newest, released, discarded, writer, state, filling]
  simpa only [page] using h

theorem scanPages_blank (pages : Table Page) : ∀ e ∈ scanPages pages, e.2.readable = [] := by
  unfold scanPages
  suffices h : ∀ (ps a : Table Page), (∀ e ∈ a, e.2.readable = []) →
      ∀ e ∈ ps.foldl (fun t p => tablePut Page.blank t p.1 { Page.blank with slots := p.2.slots }) a, e.2.readable = [] from
    h pages [] fun _ he => absurd he List.not_mem_nil
  intro ps
  induction ps with
  | nil => exact fun _ ha => ha
  | cons p ps ih => exact fun a ha => ih _ (forall_mem_tablePut (p := fun q : Page => q.readable = []) ha rfl)

/-- Before the scan of a cold start, nothing is readable. -/
theorem State.marksLawful_recovering {s : State} (recovering : s.journal.state = .recovering) (idle : s.journal.writer = .idle)
    (blank : ∀ p, (s.page p).readable = []) : s.marksLawful :=
  ⟨fun going => absurd recovering going, fun _ => ⟨idle, blank⟩,
    fun p _ hn => (List.not_mem_nil (Page.sequences_nil (blank p) ▸ hn)).elim,
    fun _ _ hn => (List.not_mem_nil (blank _ ▸ hn)).elim⟩

theorem Move.keeps_marks {s t : State} (m : Move s t) (w : s.tablesWf) (h : s.marksLawful) : t.marksLawful := by
  cases m with
  | watch serial u reason => rw [State.watchAdd_frame]; exact h
  | cred _ op => rw [op.frame]; exact h
  | journal _ _ marks => exact marks w h
  | link l k => exact State.marksLawful_of_same h (by simp) (by simp) (by simp) (by simp) (by simp) (by simp) (by simp) (by simp)
  | cold _ a b start =>
    obtain rfl := Host.Outcome.next.inj start
    refine State.marksLawful_recovering rfl rfl fun p => ?_
    exact tableLook_of_forall (p := fun q : Page => q.readable = []) (scanPages_blank _) rfl p
  | _ => exact h

end Sys2Proof.Machine
end

section
/-! PROOFS. The shared operations and the commands of the Site Clock as chains of guarded changes (O2 to O5, O9, O10). -/

namespace Sys2Proof.Machine

/-- A command goes on by a chain of changes. -/
def Goes (s : State) (r : Result) : Prop := ∃ t, r = .next t ∧ Moves s t

theorem Goes.of_moves {s t : State} (h : Moves s t) : Goes s (.next t) := ⟨t, rfl, h⟩

theorem Moves.refl (s : State) : Moves s s := Relation.ReflTransGen.refl

theorem Moves.trans {s t u : State} (h : Moves s t) (g : Moves t u) : Moves s u := Relation.ReflTransGen.trans h g

theorem Moves.of {s t : State} (m : Move s t) : Moves s t := Relation.ReflTransGen.single m

/-! #### Changes of a link -/

theorem State.placesTaken_setLink (s : State) (l : LinkId) (k : Link) :
    (s.setLink l k).placesTaken l =
      k.replies.length + (k.inProgress.elim false Request.holdsPlace).toNat + (l == .desk && s.groupHolds).toNat := by
  rw [State.placesTaken, State.link_setLink_same, State.groupHolds, State.setLink_group]
  rfl

/-- A change of a link under which no request becomes taken by a fenced link keeps the law of the fence (R181). -/
theorem State.fence_setLink {s : State} {l : LinkId} {k : Link}
    (taken : ∀ r, k.inProgress = some r → r.phase = .taken → (s.link l).inProgress = some r ∨ s.fenced l = false)
    (fence : s.fenceFollowsTheDesk) : (s.setLink l k).fenceFollowsTheDesk := fun on r hr => by
  rw [State.setLink_settings] at on
  cases l with
  | desk =>
    have hk : k.inProgress = some r := hr
    intro phase
    obtain same | unfenced := taken r hk phase
    · exact fence on r same phase
    · simp [State.fenced, on] at unfenced
  | lock => exact fence on r hr
  | audit => exact fence on r hr

/-- A link may have its request in progress, its replies, its notices and its errors changed, when no place more is taken. -/
theorem Move.setLink {s : State} {l : LinkId} {k : Link} (slots : k.slots = (s.link l).slots) (len : k.len = (s.link l).len)
    (head : k.head = (s.link l).head) (tail : k.tail = (s.link l).tail)
    (places : k.replies.length + (k.inProgress.elim false Request.holdsPlace).toNat ≤
      (s.link l).replies.length + ((s.link l).inProgress.elim false Request.holdsPlace).toNat)
    (taken : ∀ r, k.inProgress = some r → r.phase = .taken → (s.link l).inProgress = some r ∨ s.fenced l = false) :
    Move s (s.setLink l k) := by
  refine .link s l k (by rw [slots]; exact id) (by rw [len, head, tail]; exact id) (fun below => ?_) (State.fence_setLink taken)
  rw [State.placesTaken_setLink]
  unfold State.placesTaken at below
  omega

theorem Move.setLink_same {s : State} {l : LinkId} {k : Link} (slots : k.slots = (s.link l).slots)
    (len : k.len = (s.link l).len) (head : k.head = (s.link l).head) (tail : k.tail = (s.link l).tail)
    (replies : k.replies = (s.link l).replies) (inProgress : k.inProgress = (s.link l).inProgress) : Move s (s.setLink l k) :=
  .setLink slots len head tail (by rw [replies, inProgress]) fun r hr _ => .inl (inProgress ▸ hr)

theorem Moves.raise (s : State) (n : Notice) : Moves s (s.raise n) := .of (Move.setLink_same rfl rfl rfl rfl rfl rfl)

theorem Moves.answerWith (s : State) (l : LinkId) (rs : List Reply) : Moves s (s.setLink l ((s.link l).answerWith rs)) := by
  unfold Link.answerWith
  split
  · rw [State.setLink_link]
  · exact .of (.setLink rfl rfl rfl rfl (Nat.le_add_right _ _) nofun)
  · next r a rest hr =>
    split
    · rw [State.setLink_link]
    · next open_ =>
      split
      · exact .of (.setLink rfl rfl rfl rfl (Nat.le_add_right _ _) nofun)
      · next kept =>
        have holds : r.holdsPlace = true := by simp [Request.holdsPlace, open_, kept]
        refine .of (.setLink rfl rfl rfl rfl ?_ fun q hq phase => ?_)
        · have one : ((s.link l).inProgress.elim false Request.holdsPlace).toNat = 1 := by
            rw [hr]; exact congrArg Bool.toNat holds
          have none : ((if rest.isEmpty then none else some { r with phase := .placing rest }).elim false
              Request.holdsPlace).toNat = 0 := by
            cases rest <;> simp [Request.holdsPlace, Request.answered]
          rw [one]
          dsimp only
          rw [none, List.length_append, List.length_singleton]
        · dsimp only at hq
          split at hq
          · cases hq
          · rw [← Option.some.inj hq] at phase; cases phase

theorem Moves.answer (s : State) (l : LinkId) (st : Status) (fs : List Field) : Moves s (s.answer l st fs) := by
  unfold State.answer
  split
  · exact .refl s
  · exact .answerWith s l _

/-- A request is handed on the link, and no fence answers it. -/
def State.handed (s : State) (l : LinkId) : Prop := s.fenced l = false ∧ ∀ r, (s.link l).inProgress = some r → r.phase = .handed

theorem Moves.markTaken {s : State} {l : LinkId} (h : s.handed l) : Moves s (s.markTaken l) := by
  obtain ⟨unfenced, handed⟩ := h
  unfold State.markTaken
  split
  · exact .refl s
  · next r hr =>
    refine .of (.setLink rfl rfl rfl rfl ?_ fun _ _ _ => .inr unfenced)
    rw [hr]
    simp [Request.holdsPlace, Request.answered, handed r hr]

theorem State.serving_some {s : State} {l : LinkId} {k : ReqKind} {fs : List Byte} (h : s.serving l k = some fs) :
    ∃ r, (s.link l).inProgress = some r ∧ r.phase = .handed ∧ r.kind = k ∧ r.fields = fs ∧ s.powered = true := by
  unfold State.serving at h
  split at h
  · cases h
  · next r hr =>
    split at h
    · next c =>
      simp only [Bool.and_eq_true, beq_iff_eq] at c
      obtain ⟨⟨powered, phase⟩, kind⟩ := c
      exact ⟨r, hr, phase, kind, Option.some.inj h, powered⟩
    · cases h

theorem State.asked.handed {s : State} {l : LinkId} {k : ReqKind} {fs : List Byte} (h : s.asked l k fs) : s.handed l := by
  obtain ⟨serving, unfenced⟩ := h
  obtain ⟨r, hr, phase, _⟩ := State.serving_some serving
  exact ⟨unfenced, fun q hq => by rw [hr] at hq; exact Option.some.inj hq ▸ phase⟩

/-! #### Requests -/

theorem Moves.waiting (s : State) (w : List CmSource) : Moves s { s with cred := { s.cred with waiting := w } } :=
  .of (.waiting s w)

theorem Moves.cmPop (s : State) : Moves s s.cmPop := .waiting s _

theorem Moves.cmHand (s : State) (c : CmSource) : Moves s (s.cmHand c) := .waiting s _

theorem Moves.serveFrom {s s' : State} (l : LinkId) (k : ReqKind) (ready : Bool) (body : List Byte → State → State)
    (taken : Moves s s')
    (asked : ∀ fs, s.serving l k = some fs → ready = true → s'.fenced l = false → Moves s' (body fs s')) :
    Moves s (s.serveFrom l k ready s' body) := by
  unfold State.serveFrom
  split
  · exact .refl s
  · next fs serving =>
    split
    · exact .refl s
    · next busy =>
      split
      · exact taken.trans (.answer s' l .fenced _)
      · next unfenced => exact taken.trans (asked fs serving (by simpa using busy) (by simpa using unfenced))

theorem Moves.serve (s : State) (l : LinkId) (k : ReqKind) (body : List Byte → State → State)
    (asked : ∀ fs, s.asked l k fs → Moves s (body fs s)) : Moves s (s.serve l k body) :=
  .serveFrom l k true body (.refl s) fun fs serving _ unfenced => asked fs ⟨serving, unfenced⟩

theorem Moves.serveCm (s : State) (l : LinkId) (k : ReqKind) (body : List Byte → State → State)
    (asked : ∀ fs, s.cmPop.asked l k fs → Moves s.cmPop (body fs s.cmPop)) : Moves s (s.serveCm l k body) :=
  .serveFrom l k _ body (.cmPop s) fun fs serving _ unfenced => asked fs ⟨by cases l <;> exact serving, unfenced⟩

theorem Moves.serveEval (s : State) (l : LinkId) (k : ReqKind) (body : List Byte → State → State)
    (asked : ∀ fs, s.asked l k fs → Moves s (body fs s)) : Moves s (s.serveEval l k body) :=
  .serveFrom l k _ body (.refl s) fun fs serving _ unfenced => asked fs ⟨serving, unfenced⟩

theorem Moves.serveJournal (s : State) (l : LinkId) (k : ReqKind) (body : List Byte → State → State)
    (asked : ∀ fs, s.asked l k fs → Moves s (body fs s)) : Moves s (s.serveJournal l k body) :=
  .serveFrom l k _ body (.refl s) fun fs serving _ unfenced => asked fs ⟨serving, unfenced⟩

/-- A request that is answered as it stands. -/
theorem Moves.serve_answer (s : State) (l : LinkId) (k : ReqKind) (st : List Byte → State → Status)
    (fields : List Byte → State → List Field) : Moves s (s.serve l k fun fs s => s.answer l (st fs s) (fields fs s)) :=
  .serve s l k _ fun _ _ => .answer s l _ _

/-! #### Records offered -/

theorem Moves.offering (s : State) (rs : List Rec) : Moves s (s.offering rs) := .of (.offering s rs)

theorem Moves.offer (s : State) (r : Rec) : Moves s (s.offer r) := .offering s [r]

theorem Moves.offerNow (s : State) (src : Source) (b : RecBody) : Moves s (s.offerNow src b) := .offer s _

theorem Moves.credOffer (s : State) (b : RecBody) : Moves s (s.credOffer b) := .offer s _

/-- A fold of operations each of which is a chain of changes. -/
theorem Moves.foldl {α : Type} (f : State → α → State) (one : ∀ s x, Moves s (f s x)) (l : List α) (s : State) :
    Moves s (l.foldl f s) := by
  induction l generalizing s with
  | nil => exact .refl s
  | cons x l ih => exact (one s x).trans (ih _)

/-! #### The Site Clock (chapter 1) -/

theorem Moves.sweep (s : State) (w : Sweep) : Moves s { s with clock := { s.clock with sweep := w } } :=
  .of (.clock s _ rfl rfl id)

theorem Moves.minuteEvent (s : State) : Moves s s.minuteEvent := by
  unfold State.minuteEvent
  split
  · exact (Moves.sweep s _).trans (.cmHand _ .sweep)
  · exact .sweep s _

theorem Clock.tick_inRange {s : State} (h : s.clockInRange) : State.clockInRange { s with clock := s.clock.tick } := by
  obtain ⟨minute, second⟩ := h
  unfold State.clockInRange Clock.tick
  dsimp only
  split
  · exact ⟨minute, by dsimp only; omega⟩
  · exact ⟨min_le_right _ _, by dsimp only; omega⟩

theorem Clock.tick_tables (c : Clock) : c.tick.zones = c.zones ∧ c.tick.schedules = c.schedules := by
  unfold Clock.tick
  split <;> exact ⟨rfl, rfl⟩

theorem Moves.idleDue (s : State) (n : Nat) : Moves s { s with mini := { s.mini with idleDue := n } } :=
  .of (.mini s s.mini.rate s.mini.tariffLock n)

theorem execSecondEvent_goes (s : State) : Goes s (execSecondEvent s) := by
  refine .of_moves ?_
  have ticked : Moves s { s with clock := s.clock.tick } :=
    .of (.clock s _ s.clock.tick_tables.1 s.clock.tick_tables.2 Clock.tick_inRange)
  have due := ticked.trans (.idleDue { s with clock := s.clock.tick } (s.mini.idleDue + 1))
  dsimp only
  split
  · split
    · split
      · exact due
      · exact due.trans (.minuteEvent _)
    · exact ticked
  · exact .refl s

theorem State.setTimeRefusal_none {s : State} {m x : Nat} (h : s.setTimeRefusal m x = none) : x ≤ 59 := by
  unfold State.setTimeRefusal at h
  split at h
  · cases h
  · omega

theorem fieldAt_le_maxMinute (fs : List Byte) (o : Nat) : fieldAt fs o 4 ≤ Config.maxMinute := by
  have bound := fieldAt_lt fs o 4
  have : Config.maxMinute = 4294967295 := rfl
  norm_num at bound
  omega

theorem execSetTime_goes (s : State) : Goes s (execSetTime s) := by
  refine .of_moves (.serve s .desk .setTime _ fun fs _ => ?_)
  dsimp only
  split
  · exact .answer s .desk _ _
  · next allowed =>
    have set_ : Moves s { s with clock := s.clock.setTo (fieldAt fs 0 4) (fieldAt fs 4 1) } :=
      .of (.clock s _ rfl rfl fun _ => ⟨fieldAt_le_maxMinute fs 0, Nat.lt_succ_of_le (State.setTimeRefusal_none allowed)⟩)
    refine Moves.trans ?_ (.answer _ .desk .ok _)
    refine Moves.trans ?_ (.raise _ .timeSet)
    refine Moves.trans ?_ (.offerNow _ .siteClock _)
    split
    · exact set_
    · exact set_.trans (.minuteEvent _)

theorem execTimeQuery_goes (l : LinkId) (s : State) : Goes s (execTimeQuery l s) :=
  .of_moves (.serve s l .timeQuery _ fun _ _ => .answer s l _ _)

theorem execZoneSet_goes (s : State) : Goes s (execZoneSet s) := by
  refine .of_moves (.serve s .desk .zoneSet _ fun fs _ => ?_)
  dsimp only
  split
  · exact .answer s .desk _ _
  · exact (Moves.of (.zone s _ _)).trans (.answer _ .desk _ _)

theorem execZoneLockdown_goes (s : State) : Goes s (execZoneLockdown s) := by
  refine .of_moves (.serve s .audit .zoneLockdown _ fun fs _ => ?_)
  dsimp only
  split
  · exact .answer s .audit _ _
  · refine Moves.trans ?_ (.answer _ .audit _ _)
    split
    · exact .refl s
    · exact (Moves.of (.zone s _ _)).trans (.offerNow _ _ _)

theorem execZoneQuery_goes (l : LinkId) (s : State) : Goes s (execZoneQuery l s) := by
  refine .of_moves (.serve s l .zoneQuery _ fun fs _ => ?_)
  dsimp only
  split <;> exact .answer s l _ _

theorem Moves.writeSchedule (s : State) (schedule mask : Nat) (b : Band) : Moves s (s.writeSchedule schedule mask b) :=
  .foldl _ (fun s w => by
    split
    · exact .of (.band s schedule w b)
    · exact .refl s) _ s

theorem execScheduleSet_goes (s : State) : Goes s (execScheduleSet s) := by
  refine .of_moves (.serve s .desk .scheduleSet _ fun fs _ => ?_)
  dsimp only
  split
  · exact .answer s .desk _ _
  · exact (Moves.writeSchedule s _ _ _).trans (.answer _ .desk _ _)

theorem execScheduleQuery_goes (l : LinkId) (s : State) : Goes s (execScheduleQuery l s) := by
  refine .of_moves (.serve s l .scheduleQuery _ fun fs _ => ?_)
  dsimp only
  split <;> exact .answer s l _ _

/-! #### The expiry sweep (R14 to R18) -/

theorem KeyRec.isActive_live {k : KeyRec} {n : Nat} (h : k.status = .live n) : k.isActive = true := by
  simp [KeyRec.isActive, h]

theorem KeyRec.isActive_pending {k : KeyRec} {d : Nat} (h : k.status = .pending d) : k.isActive = true := by
  simp [KeyRec.isActive, h]

theorem KeyRec.isActive_cancelled {k : KeyRec} {reason : CancelReason} {m : Nat} {x : Option Nat}
    (h : k.status = .cancelled reason m x) : k.isActive = false := by simp [KeyRec.isActive, h]

theorem Moves.cancelKey {s : State} {n : Nat} {k : KeyRec} (found : s.key n = some k) (active : k.isActive = true)
    (reason : CancelReason) : Moves s (s.cancelKey n k reason) :=
  .of (.cred s _ (.cancel s n k reason (fun _ => found) active))

theorem Moves.freeKey {s : State} {n : Nat} {k : KeyRec} (found : s.key n = some k) (active : k.isActive = true) :
    Moves s (s.freeKey n k) := .of (.cred s _ (.free s n k found active))

theorem Moves.sweepKey (s : State) (n : Nat) : Moves s (s.sweepKey n) := by
  unfold State.sweepKey
  split
  · exact .refl s
  · next k found =>
    split
    · next live =>
      split
      · exact (Moves.cancelKey found (KeyRec.isActive_live live) _).trans (.credOffer _ _)
      · exact .refl s
    · next pending =>
      split
      · exact ((Moves.freeKey found (KeyRec.isActive_pending pending)).trans (.credOffer _ _)).trans (.raise _ _)
      · exact .refl s
    · next cancelled =>
      split
      · exact .of (.reclaim s n k found (KeyRec.isActive_cancelled cancelled))
      · exact .refl s

theorem Moves.sweepNext (s : State) (p : SweepItem) : Moves s (s.sweepNext p) := (Moves.sweep s _).trans (.cmHand _ .sweep)

theorem execSweepKeyVisit_goes (s : State) : Goes s (execSweepKeyVisit s) := by
  refine .of_moves ?_
  split
  · split
    · exact ((Moves.cmPop s).trans (.sweepKey _ _)).trans (.sweepNext _ _)
    · exact .refl s
  · exact .refl s

theorem Moves.sweepWatch (s : State) : Moves s s.sweepWatch :=
  (Moves.of (.unwatch s _ List.filter_sublist)).trans (.foldl _ (fun s _ => .credOffer s _) _ _)

theorem execSweepWatchVisit_goes (s : State) : Goes s (execSweepWatchVisit s) := by
  refine .of_moves ?_
  split
  · split
    · exact ((Moves.cmPop s).trans (.sweepWatch _)).trans (.sweepNext _ _)
    · exact .refl s
  · exact .refl s

theorem Moves.sweepAllowance (s : State) : Moves s s.sweepAllowance := by
  unfold State.sweepAllowance
  split
  · exact (Moves.of (.allowance s 0 s.cred.allowanceDeadline fun _ => Nat.zero_le _)).trans (.credOffer _ _)
  · exact .refl s

theorem Moves.passComplete (s : State) : Moves s s.passComplete := by
  unfold State.passComplete
  dsimp only
  split
  · exact (Moves.sweep s _).trans (.sweepNext _ _)
  · exact .sweep s _

theorem execSweepAllowanceVisit_goes (s : State) : Goes s (execSweepAllowanceVisit s) := by
  refine .of_moves ?_
  split
  · split
    · exact ((Moves.cmPop s).trans (.sweepAllowance _)).trans (.passComplete _)
    · exact .refl s
  · exact .refl s

end Sys2Proof.Machine
end

section
/-! PROOFS. Sessions, tallies, check-ins, check-outs and the commands of the Access Evaluator as chains of guarded changes. -/

namespace Sys2Proof.Machine

theorem State.handed.of_same {s t : State} {l : LinkId} (h : s.handed l) (settings : t.settings = s.settings)
    (link : (t.link l).inProgress = (s.link l).inProgress) : t.handed l := by
  obtain ⟨unfenced, handed⟩ := h
  refine ⟨?_, by rw [link]; exact handed⟩
  rw [State.fenced, settings]
  exact unfenced

/-! #### Sessions and tallies -/

theorem Moves.offerAt (s : State) (src : Source) (m x : Nat) (b : RecBody) : Moves s (s.offerAt src m x b) := .offer s _

theorem Moves.miniOffer (s : State) (b : RecBody) : Moves s (s.miniOffer b) := .offer s _

theorem Moves.closeSession (s : State) (door : Nat) (cause : CloseCause) : Moves s (s.closeSession door cause) := by
  unfold State.closeSession
  split
  · exact .refl s
  · exact (Moves.of (.session s door none (.inl rfl))).trans (.miniOffer _ _)

theorem Moves.closeRoomSession (s : State) (room : Nat) (cause : CloseCause) : Moves s (s.closeRoomSession room cause) := by
  unfold State.closeRoomSession
  split
  · exact .refl s
  · exact .closeSession s _ cause

theorem Moves.touch (s : State) (door stamp : Nat) : Moves s (s.touch door stamp) := by
  unfold State.touch
  split
  · exact .refl s
  · next x found => exact .of (.session s door _ (.inr (.inl (by rw [found]; exact Option.some_ne_none x))))

/-- A tally written neither opened nor closed keeps the law of R105. -/
theorem Moves.setTally_same (s : State) (n : Nat) (x : Tally)
    (bound : x.tally ≤ Config.maxTally ∨ x.tally ≤ (s.tally n).tally) (same : x.isOpen = (s.tally n).isOpen) :
    Moves s (s.setTally n x) := by
  refine .of (.tally s n x bound fun w h => State.talliesMatchRooms_of h rfl (fun r => ?_) fun _ => Iff.rfl)
  rw [State.tally_setTally w.tallies]
  split
  · next q => rw [q, same]
  · rfl

/-- The law of R105 during a check-in. -/
theorem State.talliesMatchRooms_checkIn {s : State} {op : CheckInOp} (doing : s.cred.op = some (.checkIn op)) :
    s.talliesMatchRooms ↔
      (∀ r ∈ op.todo, r ∈ op.rooms) ∧
        (∀ r, r ∉ op.rooms → ((s.tally r).isOpen = true ↔ (s.room r).state = .occupied)) ∧
          (∀ r ∈ op.rooms, r ∉ op.todo → (s.tally r).isOpen = true) := by
  rw [State.talliesMatchRooms, doing]

/-- The law of R105 outside a check-in. -/
theorem State.talliesMatchRooms_idle {s : State} (idle : s.cred.op = none) :
    s.talliesMatchRooms ↔ ∀ r, (s.tally r).isOpen = true ↔ (s.room r).state = .occupied := by
  rw [State.talliesMatchRooms, idle]

/-- During a check-in, the tally of a room still to do may be written. -/
theorem Moves.setTally_todo {s : State} {op : CheckInOp} (doing : s.cred.op = some (.checkIn op)) {n : Nat}
    (todo : n ∈ op.todo) (x : Tally) (bound : x.tally ≤ Config.maxTally ∨ x.tally ≤ (s.tally n).tally) :
    Moves s (s.setTally n x) := by
  refine .of (.tally s n x bound fun w h => ?_)
  obtain ⟨within, outside, done⟩ := (State.talliesMatchRooms_checkIn doing).mp h
  refine (State.talliesMatchRooms_checkIn (s := s.setTally n x) doing).mpr ⟨within, fun r hr => ?_, fun r hr hd => ?_⟩
  · rw [State.tally_setTally w.tallies, if_neg fun q : r = n => hr (q ▸ within n todo)]
    exact outside r hr
  · rw [State.tally_setTally w.tallies, if_neg fun q : r = n => hd (q ▸ todo)]
    exact done r hr hd

theorem State.closeRoomSession_frame (s : State) (room : Nat) (cause : CloseCause) :
    s.closeRoomSession room cause =
      { s with
        mini := { s.mini with sessions := (s.closeRoomSession room cause).mini.sessions }
        journal := { s.journal with offers := (s.closeRoomSession room cause).journal.offers } } := by
  unfold State.closeRoomSession State.closeSession
  split
  · rfl
  · split <;> rfl

theorem Moves.closeTally {s : State} {op : CheckInOp} (doing : s.cred.op = some (.checkIn op)) {n : Nat} (todo : n ∈ op.todo)
    (cause : CloseCause) : Moves s (s.closeTally n cause) := by
  rw [State.closeTally_eq]
  refine (Moves.closeRoomSession s n cause).trans (.setTally_todo ?_ todo _ (.inr le_rfl))
  rw [State.closeRoomSession_frame]
  exact doing

/-! #### Check-ins (R28 to R30) -/

theorem Moves.beginCheckIn {s : State} (idle : s.cred.op = none) (origin : StayOrigin) (rooms : List Nat) (stayEnd limit : Nat) :
    Moves s (s.beginCheckIn origin rooms stayEnd limit) := by
  refine .of (.operation s _ fun _ h => (State.talliesMatchRooms_checkIn (op := _) rfl).mpr ⟨fun _ => id, ?_, ?_⟩)
  · exact fun r _ => (State.talliesMatchRooms_idle idle).mp h r
  · exact fun r hr hd => absurd hr hd

/-- The check-in goes on to another part of its work, no room more being done. -/
theorem Move.checkInGoesOn {s : State} {op next : CheckInOp} (doing : s.cred.op = some (.checkIn op))
    (rooms : next.rooms = op.rooms) (todo : ∀ r ∈ next.todo, r ∈ op.todo)
    (done : ∀ r ∈ op.todo, r ∉ next.todo → (s.tally r).isOpen = true) :
    Move s { s with cred := { s.cred with op := some (.checkIn next) } } := by
  refine .operation s _ fun _ h => ?_
  obtain ⟨within, outside, before⟩ := (State.talliesMatchRooms_checkIn doing).mp h
  refine (State.talliesMatchRooms_checkIn (op := next) rfl).mpr ⟨fun r hr => ?_, fun r hr => ?_, fun r hr hd => ?_⟩
  · rw [rooms]; exact within r (todo r hr)
  · rw [rooms] at hr; exact outside r hr
  · rw [rooms] at hr
    by_cases was : r ∈ op.todo
    · exact done r was hd
    · exact before r hr was

theorem State.openTally_isOpen (s : State) (room limit : Nat) : ((s.openTally room limit).tally room).isOpen = true := by
  have opened : (s.openTally room limit).tally room =
      { s.tally room with isOpen := true, limit := limit, tally := 0, saturated := false } :=
    tableLook_put_ne Tally.blank s.mini.tallies room
      { s.tally room with isOpen := true, limit := limit, tally := 0, saturated := false }
      fun blank => Bool.noConfusion (congrArg Tally.isOpen blank : true = false)
  rw [opened]

theorem Moves.commitCheckIn {s : State} {op : CheckInOp} (doing : s.cred.op = some (.checkIn op))
    (done : s.tablesWf → s.talliesMatchRooms → ∀ r ∈ op.rooms, (s.tally r).isOpen = true) : Moves s (s.commitCheckIn op) := by
  have committed := Moves.of (.cred s _ (.commit s op doing done))
  unfold State.commitCheckIn
  dsimp only
  split
  · exact committed
  · exact committed.trans (.of (.entry _ _ _ fun _ hf => .inr hf))

theorem Moves.checkInOpen {s : State} {op : CheckInOp} (doing : s.cred.op = some (.checkIn op)) :
    Moves s (s.checkInOpen op) := by
  unfold State.checkInOpen
  split
  · exact .refl s
  · next r rest todo =>
    have first : r ∈ op.todo := by rw [todo]; exact List.mem_cons_self
    have opened : Moves s (s.openTally r op.limit) := .setTally_todo doing first _ (.inl (Nat.zero_le _))
    have offered := opened.trans (.offerAt _ .credentialManager op.minute op.second
      (.stayOpen r (s.room r).label op.minute op.stayEnd op.limit op.origin))
    refine offered.trans ?_
    dsimp only
    split
    · refine .commitCheckIn doing fun _ h q hq => ?_
      obtain ⟨_, _, before⟩ := (State.talliesMatchRooms_checkIn (s := (s.openTally r op.limit).offerAt _ _ _ _) doing).mp h
      by_cases last : q = r
      · rw [last]; exact s.openTally_isOpen r op.limit
      · exact before q hq (by simpa [todo] using last)
    · next r' more =>
      refine .of (.checkInGoesOn doing rfl (fun q hq => ?_) fun q hq hd => ?_)
      · rw [todo]; exact List.mem_cons_of_mem _ hq
      · have last : q = r := by
          rw [todo] at hq
          exact (List.mem_cons.mp hq).resolve_right hd
        rw [last]; exact s.openTally_isOpen r op.limit

theorem State.closeTally_op (s : State) (room : Nat) (cause : CloseCause) : (s.closeTally room cause).cred = s.cred := by
  rw [State.closeTally_eq, State.setTally_cred, State.closeRoomSession_frame]

theorem Moves.checkInClose {s : State} {op : CheckInOp} (doing : s.cred.op = some (.checkIn op)) :
    Moves s (s.checkInClose op) := by
  unfold State.checkInClose
  split
  · exact .refl s
  · next r rest todo =>
    have first : r ∈ op.todo := by rw [todo]; exact List.mem_cons_self
    have still : (s.closeTally r .recheckin).cred.op = some (.checkIn op) := by rw [State.closeTally_op]; exact doing
    dsimp only
    refine ((Moves.closeTally doing first .recheckin).trans (.offer _ _)).trans
      (.of (.checkInGoesOn (next := { op with closing := false, earlier := _ }) still rfl (fun _ => id) ?_))
    exact fun q hq hd => absurd hq hd

/-! #### Check-outs (R31 to R33) -/

theorem Moves.checkOutClose {s : State} {room minute second stayEnd : Nat}
    (doing : s.cred.op = some (.checkOut room minute second stayEnd)) :
    Moves s (s.checkOutClose room minute second stayEnd).1 := by
  rw [State.checkOutClose_eq]
  refine (Moves.closeRoomSession s room .checkOut).trans (.of (.cred _ _ (.checkOut _ room minute second stayEnd ?_)))
  rw [State.closeRoomSession_frame]
  exact doing

/-! #### Verdicts (R90 to R96) -/

theorem Moves.evalOp (s : State) (o : Option EvalOp) : Moves s { s with eval := { s.eval with op := o } } := .of (.evalOp s o)

theorem Moves.evalDone (s : State) : Moves s s.evalDone := .evalOp s none

theorem Moves.evalGo (s : State) (o : EvalOp) : Moves s (s.evalGo o) := .evalOp s (some o)

theorem Moves.evalOffer (s : State) (m x : Nat) (b : RecBody) : Moves s (s.evalOffer m x b) := .offer s _

theorem Moves.setDoor (s : State) (n : Nat) (d : Door) : Moves s (s.setDoor n d) := .of (.door s n d)

theorem Moves.denyRecords (s : State) (c : Card) (minute second : Nat) (reason : DenyReason) (view : KeyView) (repeats : Nat) :
    Moves s (s.denyRecords c minute second reason view repeats) := by
  have denied := Moves.evalOffer s minute second (.deny c.door c.serial c.key c.stamp reason view repeats)
  unfold State.denyRecords
  dsimp only
  split
  · split
    · exact (denied.trans (.evalOffer _ _ _ _)).trans (.raise _ _)
    · exact denied
  · exact denied

theorem Moves.deny (s : State) (c : Card) (minute second : Nat) (reason : DenyReason) (view : KeyView) :
    Moves s (s.deny c minute second reason view) := by
  unfold State.deny
  dsimp only
  split
  · exact ((Moves.denyRecords s c minute second reason view 0).trans (.evalDone _)).trans (.answer _ _ _ _)
  · split
    · exact ((Moves.setDoor s _ _).trans (.evalDone _)).trans (.answer _ _ _ _)
    · exact (((Moves.setDoor s _ _).trans (.denyRecords _ _ _ _ _ _ _)).trans (.evalDone _)).trans (.answer _ _ _ _)

theorem Moves.grant (s : State) (c : Card) (minute second : Nat) (kind : KeyKind) (advance : Bool) (uses : Option Nat)
    (outcome : Option SessionOutcome) : Moves s (s.grant c minute second kind advance uses outcome) :=
  (((Moves.setDoor s _ _).trans (.evalOffer _ _ _ _)).trans (.evalDone _)).trans (.answer _ _ _ _)

/-! #### Presentations (R77 to R90) -/

theorem State.keyDecision_grant {s : State} {c : Card} {k : KeyRec} (h : s.keyDecision c = .grant k) :
    s.key c.key = some k ∧ keyCheck k c = none ∧ s.doorCheck k (s.door c.door) = .grant k := by
  unfold State.keyDecision at h
  split at h
  · cases h
  · split at h
    · cases h
    · next j found =>
      split at h
      · cases h
      · next checked =>
        split at h
        · cases h
        · have same : k = j := by
            unfold State.doorCheck at h
            split at h <;> split at h <;> cases h <;> rfl
          exact ⟨same ▸ found, same ▸ checked, same ▸ h⟩

theorem State.decision_grant {s : State} {c : Card} {k : KeyRec} (h : s.decision c = .grant k) :
    s.key c.key = some k ∧ keyCheck k c = none ∧ s.doorCheck k (s.door c.door) = .grant k := by
  unfold State.decision at h
  split at h
  · cases h
  · split at h
    · cases h
    · split at h
      · cases h
      · split at h
        · cases h
        · exact State.keyDecision_grant h

theorem keyCheck_live {k : KeyRec} {c : Card} (h : keyCheck k c = none) : k.status = .live c.serial := by
  unfold keyCheck at h
  split at h
  · cases h
  · split at h
    · cases h
    · cases h
    · next n live =>
      split at h
      · cases h
      · next same => rw [live, not_not.mp same]

/-- A guest key granted at a room's door names the room (R86). -/
theorem State.doorCheck_room {s : State} {k : KeyRec} {d : Door} {r : Nat} {es : List Entry} {zones : Mask16} {minibar : Bool}
    (h : s.doorCheck k d = .grant k) (place : d.place = .room r) (rights : k.rights = .guest es zones minibar) :
    ∃ g, k.genFor r = some g := by
  unfold State.doorCheck State.roomDoorCheck at h
  rw [place] at h
  dsimp only at h
  rw [rights] at h
  cases gen : k.genFor r with
  | some g => exact ⟨g, rfl⟩
  | none => rw [gen] at h; cases h

theorem Moves.advance {s : State} {room key : Nat} {g : Byte} {k : KeyRec} (found : s.key key = some k)
    (active : k.isActive = true) (gen : k.genFor room = some g) (ahead : 1 ≤ genDistance g (s.room room).cg)
    (near : genDistance g (s.room room).cg ≤ 127) : Moves s (s.advance room key g) := by
  obtain ⟨rs, same⟩ := s.advance_offers room key g
  rw [same]
  exact (Moves.of (.cred s _ (.advance s room key g k found active gen ahead near))).trans (.offering _ rs)

theorem Moves.useKey {s : State} {n : Nat} {k : KeyRec} {zones : Mask16} {uses : Nat} (found : s.key n = some k)
    (rights : k.rights = .service zones uses) : Moves s (s.useKey n k zones uses).1 := by
  have before : k.entries = [] := by rw [KeyRec.entries, rights]
  unfold State.useKey
  dsimp only
  split
  · exact (Moves.of (.useKey s n k _ found before rfl (.inr rfl))).trans (.credOffer _ _)
  · exact .of (.useKey s n k _ found before rfl (.inl rfl))

theorem Moves.grantKey {s : State} {c : Card} {k : KeyRec} (h : s.decision c = .grant k) : Moves s (s.grantKey c k) := by
  obtain ⟨found, checked, door⟩ := State.decision_grant h
  have active := KeyRec.isActive_live (keyCheck_live checked)
  unfold State.grantKey
  dsimp only
  split
  · next es zones minibar r rights place =>
    split
    · next between =>
      obtain ⟨g, gen⟩ := State.doorCheck_room door place rights
      rw [gen, Option.getD_some] at between ⊢
      exact (Moves.advance found active gen between.1 between.2).trans (.grant _ _ _ _ _ _ _ _)
    · exact .grant _ _ _ _ _ _ _ _
  · next rights => exact (Moves.useKey found rights).trans (.grant _ _ _ _ _ _ _ _)
  · exact .grant _ _ _ _ _ _ _ _

theorem execPresent_goes (s : State) : Goes s (execPresent s) :=
  .of_moves (.serveEval s .lock .present _ fun _ asked =>
    (Moves.evalOp s _).trans (.markTaken (asked.handed.of_same rfl rfl)))

theorem Moves.present (s : State) (c : Card) : Moves s (s.present c) := by
  unfold State.present
  split
  · exact .deny s c _ _ _ _
  · next granted => exact .grantKey granted
  · exact .evalOp s _

theorem execPresentationOperation_goes (s : State) : Goes s (execPresentationOperation s) := by
  refine .of_moves ?_
  split
  · split
    · exact .present s _
    · exact .refl s
  · exact .refl s

theorem State.sessionAnswer_opened {s : State} {door room : Nat} {kind : SessionKind}
    (h : s.sessionAnswer door room kind = .opened) : s.mini.sessions.length < Config.sessions := by
  unfold State.sessionAnswer at h
  dsimp only at h
  split at h
  · cases h
  · split at h
    · cases h
    · split at h
      · cases h
      · split at h
        · next free => exact free
        · cases h

theorem Moves.openSession (s : State) (c : Card) (room : Nat) (kind : SessionKind) (minute second : Nat) :
    Moves s (s.openSession c room kind minute second) := by
  unfold State.openSession
  dsimp only
  split
  · exact .deny s c _ _ _ _
  · exact .deny s c _ _ _ _
  · exact (Moves.touch s _ _).trans (.grant _ _ _ _ _ _ _ _)
  · next opened =>
    exact ((Moves.of (.session s c.door _ (.inr (.inr (State.sessionAnswer_opened opened))))).trans (.offer _ _)).trans
      (.grant _ _ _ _ _ _ _ _)
  · exact .deny s c _ _ _ _

theorem execSessionOpen_goes (s : State) : Goes s (execSessionOpen s) := by
  refine .of_moves ?_
  split
  · split
    · exact .openSession s _ _ _ _ _
    · exact .refl s
  · exact .refl s

/-! #### Door reports (R74 to R76) -/

theorem Moves.serveDoorReport (s : State) (a : Nat) (body : Nat → State → State)
    (reported : ∀ door, s.handed .lock → Moves s (body door s)) : Moves s (s.serveDoorReport a body) := by
  unfold State.serveDoorReport
  refine .serveFrom .lock .doorReport _ _ (.refl s) fun fs serving _ unfenced => ?_
  dsimp only
  split
  · exact .answer s .lock _ _
  · exact reported _ (State.asked.handed ⟨serving, unfenced⟩)

theorem Moves.answerCondition (s : State) (door : Nat) : Moves s (s.answerCondition door) := .answer s .lock _ _

theorem Moves.moveCondition (s : State) (door : Nat) (new : Condition) : Moves s (s.moveCondition door new) :=
  (Moves.setDoor s _ _).trans (.evalOffer _ _ _ _)

theorem Moves.forceDoor (s : State) (door : Nat) : Moves s (s.forceDoor door) :=
  ((Moves.setDoor s _ _).trans (.evalOffer _ _ _ _)).trans (.raise _ _)

theorem execDoorReportClosed_goes (s : State) : Goes s (execDoorReportClosed s) :=
  .of_moves (.serveDoorReport s 0 _ fun door _ => by
    refine Moves.trans ?_ (.answerCondition _ door)
    split
    · exact .refl s
    · exact .moveCondition s door _)

theorem execDoorReportHeldOpen_goes (s : State) : Goes s (execDoorReportHeldOpen s) :=
  .of_moves (.serveDoorReport s 1 _ fun door _ => by
    refine Moves.trans ?_ (.answerCondition _ door)
    split
    · exact .moveCondition s door _
    · exact .refl s)

theorem execDoorReportForced_goes (s : State) : Goes s (execDoorReportForced s) :=
  .of_moves (.serveDoorReport s 2 _ fun door _ => by
    refine Moves.trans ?_ (.answerCondition _ door)
    split
    · exact .refl s
    · exact .forceDoor s door)

theorem Moves.reportPrivacy {s : State} (handed : s.handed .lock) (door : Nat) (on : Bool) :
    Moves s (s.reportPrivacy door on) := by
  unfold State.reportPrivacy
  split
  · exact (Moves.evalOp s _).trans (.markTaken (handed.of_same rfl rfl))
  · exact .answer s .lock _ _

theorem execDoorReportPrivacyOn_goes (s : State) : Goes s (execDoorReportPrivacyOn s) :=
  .of_moves (.serveDoorReport s 3 _ fun door handed => .reportPrivacy handed door true)

theorem execDoorReportPrivacyOff_goes (s : State) : Goes s (execDoorReportPrivacyOff s) :=
  .of_moves (.serveDoorReport s 4 _ fun door handed => .reportPrivacy handed door false)

/-! #### Door records (R71 to R73, R108) -/

theorem Moves.doorSetDone (s : State) (d : DoorSet) (closed : Bool) : Moves s (s.doorSetDone d closed) :=
  (Moves.evalDone s).trans (.answer _ _ _ _)

theorem Moves.writeDoor (s : State) (d : DoorSet) : Moves s (s.writeDoor d) := .setDoor s _ _

theorem Moves.beginDoorSet {s : State} (handed : s.handed .desk) (d : DoorSet) : Moves s (s.beginDoorSet d) := by
  have written : ∀ o, Moves s (((s.writeDoor d).evalGo o).markTaken .desk) := fun o =>
    ((Moves.writeDoor s d).trans (.evalGo _ o)).trans (.markTaken (handed.of_same rfl rfl))
  have done : Moves s ((s.writeDoor d).doorSetDone d false) := (Moves.writeDoor s d).trans (.doorSetDone _ d false)
  unfold State.beginDoorSet
  split
  · split
    · split
      · exact written _
      · exact done
    · exact (Moves.evalGo s _).trans (.markTaken (handed.of_same rfl rfl))
  · exact written _
  · exact done

theorem execDoorSet_goes (s : State) : Goes s (execDoorSet s) :=
  .of_moves (.serveEval s .desk .doorSet _ fun _ asked => by
    split
    · exact .answer s .desk _ _
    · exact .beginDoorSet asked.handed _)

theorem Moves.assignDoor (s : State) (d : DoorSet) (room : Nat) : Moves s (s.assignDoor d room) :=
  (Moves.setTally_same s room { s.tally room with door := some d.door } (.inr le_rfl) rfl).trans (.doorSetDone _ d false)

theorem execMinibarDoorAssignment_goes (s : State) : Goes s (execMinibarDoorAssignment s) := by
  refine .of_moves ?_
  split
  · split
    · exact .assignDoor s _ _
    · exact .refl s
  · exact .refl s

theorem Moves.releaseDoor (s : State) (d : DoorSet) (room : Nat) : Moves s (s.releaseDoor d room) := by
  unfold State.releaseDoor
  split
  · exact (Moves.evalDone s).trans (.answer _ _ _ _)
  · have written := (Moves.setTally_same s room { s.tally room with door := none } (.inr le_rfl) rfl).trans (.writeDoor _ d)
    dsimp only
    split
    · exact written.trans (.evalGo _ _)
    · exact written.trans (.doorSetDone _ _ _)

theorem execMinibarRelease_goes (s : State) : Goes s (execMinibarRelease s) := by
  refine .of_moves ?_
  split
  · split
    · exact .releaseDoor s _ _
    · exact .refl s
  · exact .refl s

theorem Moves.closeDoorSession (s : State) (d : DoorSet) : Moves s (s.closeDoorSession d) :=
  (Moves.closeSession s _ _).trans (.doorSetDone _ d _)

theorem execDoorSetSessionClose_goes (s : State) : Goes s (execDoorSetSessionClose s) := by
  refine .of_moves ?_
  split
  · split
    · exact .closeDoorSession s _
    · exact .refl s
  · exact .refl s

theorem execDoorQuery_goes (l : LinkId) (s : State) : Goes s (execDoorQuery l s) :=
  .of_moves (.serveEval s l .doorQuery _ fun _ _ => by
    dsimp only
    split <;> exact .answer s l _ _)

end Sys2Proof.Machine
end

section
/-! PROOFS. The commands on keys and the Watch List and those of the Group Issue Queue as chains of guarded changes. -/

namespace Sys2Proof.Machine

/-! #### Issuing (R49 to R55) -/

theorem Moves.issueApply {s : State} {o : IssueOrder} {n : Nat} {k : KeyRec} {reused : Option CancelReason}
    (accepted : s.issueCheck o = .accepted n k reused) (rooms : s.listsMatchKeys → o.rooms.Nodup) :
    Moves s (s.issueApply o n k reused) := by
  have enrolled := Moves.of (.cred s _ (.enroll s o n k reused accepted rooms))
  unfold State.issueApply
  dsimp only
  split
  · refine ((enrolled.trans (.of (.allowance _ (s.cred.allowance - 1) _ fun bound => ?_))).trans (.raise _ _)).trans
      (.credOffer _ _)
    unfold State.allowanceBounded at bound
    rw [State.joinLists_frame] at bound
    change s.cred.allowance ≤ 4 at bound
    omega
  · exact (enrolled.trans (.credOffer _ _)).trans (.credOffer _ _)
  · exact enrolled.trans (.credOffer _ _)
  · exact enrolled.trans (.credOffer _ _)

theorem badRoomList_nodup {count : Nat} {rooms : List Nat} (h : badRoomList count rooms = false) : rooms.Nodup := by
  simp only [badRoomList, Bool.or_eq_false_iff, decide_eq_false_iff_not, not_not] at h
  exact h.2

theorem issueOrderOf_nodup {fs : List Byte} {o : IssueOrder} (h : issueOrderOf fs = some o) : o.rooms.Nodup := by
  unfold issueOrderOf at h
  dsimp only at h
  split at h
  · split at h
    · cases h
    · split at h
      · cases h
      · next fine =>
        rw [← Option.some.inj h]
        exact badRoomList_nodup (Bool.or_eq_false_iff.mp (Bool.not_eq_true _ ▸ fine)).1
  · split at h
    · cases h
    · rw [← Option.some.inj h]; exact List.nodup_nil
  · split at h
    · cases h
    · rw [← Option.some.inj h]; exact List.nodup_nil
  · split at h
    · cases h
    · rw [← Option.some.inj h]; exact List.nodup_nil
  · cases h

theorem execIssueKey_goes (s : State) : Goes s (execIssueKey s) :=
  .of_moves (.serveCm s .desk .issueKey _ fun fs _ => by
    split
    · exact .answer _ .desk _ _
    · split
      · exact .answer _ .desk _ _
      · next order =>
        split
        · exact .answer _ .desk _ _
        · next accepted => exact (Moves.issueApply accepted fun _ => issueOrderOf_nodup order).trans (.answer _ _ _ _))

/-! #### Keys named by a request (R56 to R59) -/

theorem State.pendingKey_some {s : State} {n : Nat} {k : KeyRec} (h : s.pendingKey n = some k) :
    s.key n = some k ∧ ∃ deadline, k.status = .pending deadline := by
  obtain ⟨j, found, same⟩ := Option.bind_eq_some_iff.mp h
  split at same
  · next deadline pending =>
    obtain rfl := Option.some.inj same
    exact ⟨found, deadline, pending⟩
  · cases same

theorem State.activeKey_some {s : State} {n : Nat} {k : KeyRec} (h : s.activeKey n = some k) :
    s.key n = some k ∧ k.isActive = true := by
  obtain ⟨j, found, same⟩ := Option.bind_eq_some_iff.mp h
  split at same
  · cases same
  · next other =>
    obtain rfl := Option.some.inj same
    refine ⟨found, ?_⟩
    unfold KeyRec.isActive
    split
    · next cancelled => exact absurd cancelled (other _ _ _)
    · rfl
    · rfl

theorem KeyRec.serial_some {k : KeyRec} {n : Nat} (h : k.serial = some n) : k.status = .live n := by
  unfold KeyRec.serial at h
  split at h
  · next live => rw [live, Option.some.inj h]
  · cases h

theorem State.confirmRefusal_none {s : State} {serial : Nat} (h : s.confirmRefusal serial = none) :
    serial ≠ 0 ∧ s.liveKeyOf serial = none ∧ s.watched serial = none := by
  unfold State.confirmRefusal at h
  split at h
  · cases h
  · next some =>
    split at h
    · cases h
    · next free =>
      split at h
      · cases h
      · next unwatched => exact ⟨some, by simpa using free, by simpa using unwatched⟩

theorem execConfirmEncode_goes (s : State) : Goes s (execConfirmEncode s) :=
  .of_moves (.serveCm s .desk .confirmEncode _ fun fs _ => by
    dsimp only
    split
    · exact .answer _ .desk _ _
    · split
      · exact .answer _ .desk _ _
      · next k pending =>
        split
        · exact .answer _ .desk _ _
        · next fine =>
          obtain ⟨found, deadline, status⟩ := State.pendingKey_some pending
          obtain ⟨_, free, unwatched⟩ := State.confirmRefusal_none fine
          exact ((Moves.of (.bind _ _ k deadline _ found status free unwatched)).trans (.credOffer _ _)).trans (.answer _ _ _ _))

theorem execCancelKey_goes (s : State) : Goes s (execCancelKey s) :=
  .of_moves (.serveCm s .desk .cancelKey _ fun fs _ => by
    dsimp only
    split
    · exact .answer _ .desk _ _
    · split
      · exact .answer _ .desk _ _
      · next k named =>
        obtain ⟨found, active⟩ := State.activeKey_some named
        split
        · exact ((Moves.cancelKey found active _).trans (.credOffer _ _)).trans (.answer _ _ _ _)
        · exact ((Moves.freeKey found active).trans (.credOffer _ _)).trans (.answer _ _ _ _))

theorem Moves.lose {s : State} {n : Nat} {k : KeyRec} {serial : Nat}
    (found : tableWf none s.cred.keys = true → s.key n = some k) (live : k.status = .live serial) (u : Nat) :
    Moves s (((s.cancelKey n k .lost).credOffer (.keyCancelled n .lost false)).watchAdd serial u .lost) :=
  .of (.cred s _ (.lose s n k serial u found live))

theorem execReportLost_goes (s : State) : Goes s (execReportLost s) :=
  .of_moves (.serveCm s .desk .reportLost _ fun fs _ => by
    dsimp only
    split
    · exact .answer _ .desk _ _
    · split
      · exact .answer _ .desk _ _
      · next k named =>
        obtain ⟨found, active⟩ := State.activeKey_some named
        refine Moves.trans ?_ (.answer _ .desk _ _)
        split
        · next serial => exact .lose (fun _ => found) (KeyRec.serial_some serial) _
        · exact (Moves.cancelKey found active _).trans (.credOffer _ _))

theorem execKeyQuery_goes (l : LinkId) (s : State) : Goes s (execKeyQuery l s) :=
  .of_moves (.serveCm s l .keyQuery _ fun _ _ => by
    dsimp only
    split <;> exact .answer _ l _ _)

/-! #### The Watch List (R62 to R67) -/

theorem State.liveKeyOf_some {s : State} {serial n : Nat} {k : KeyRec} (h : s.liveKeyOf serial = some (n, k)) :
    k.status = .live serial ∧ (tableWf none s.cred.keys = true → s.key n = some k) := by
  obtain ⟨⟨m, v⟩, mem, found⟩ := List.exists_of_findSome?_eq_some h
  obtain ⟨j, rfl, same⟩ := Option.bind_eq_some_iff.mp found
  split at same
  · next bound =>
    obtain ⟨rfl, rfl⟩ : m = n ∧ j = k := by simpa using same
    exact ⟨KeyRec.serial_some bound, fun w => (tableLook_of_mem w mem).1⟩
  · cases same

theorem execWatchAdd_goes (s : State) : Goes s (execWatchAdd s) :=
  .of_moves (.serveCm s .desk .watchAdd _ fun fs _ => by
    dsimp only
    split
    · exact .answer _ .desk _ _
    · refine Moves.trans ?_ (.answer _ .desk _ _)
      cases live : s.cmPop.liveKeyOf (fieldAt fs 0 4) with
      | none => exact .of (.watch _ _ _ _ live)
      | some p =>
        obtain ⟨n, k⟩ := p
        obtain ⟨bound, found⟩ := State.liveKeyOf_some live
        exact .lose found bound _)

theorem execWatchRemove_goes (s : State) : Goes s (execWatchRemove s) :=
  .of_moves (.serveCm s .desk .watchRemove _ fun fs _ => by
    dsimp only
    split
    · exact .answer _ .desk _ _
    · split
      · exact .answer _ .desk _ _
      · split
        · exact .answer _ .desk _ _
        · exact ((Moves.of (.unwatch _ _ List.filter_sublist)).trans (.credOffer _ _)).trans (.answer _ _ _ _))

theorem execWatchQuery_goes (l : LinkId) (s : State) : Goes s (execWatchQuery l s) :=
  .of_moves (.serveCm s l .watchQuery _ fun _ _ => .answer _ l _ _)

theorem clampTo_le (low high n : Nat) (h : low ≤ high) : clampTo low high n ≤ high := max_le h (min_le_right _ _)

theorem execEmergencyAllow_goes (s : State) : Goes s (execEmergencyAllow s) :=
  .of_moves (.serveCm s .audit .emergencyAllow _ fun fs _ => by
    dsimp only
    split
    · exact .answer _ .audit _ _
    · exact ((Moves.of (.allowance _ _ _ fun _ => clampTo_le 1 4 _ (by decide))).trans (.credOffer _ _)).trans
        (.answer _ _ _ _))

/-! #### The run of the Group Issue Queue (R131 to R137) -/

/-- A phase that holds no reply place can be taken at any time. -/
theorem Move.setGroup (s : State) (g : Group) (entries : g.entries = s.group.entries) (free : g.phase.holds = false) :
    Move s { s with group := g } := .group s g entries fun h => absurd (free.symm.trans h) nofun

theorem Moves.groupStop (s : State) (st : Status) (room : Option Nat) : Moves s (s.groupStop st room) := by
  refine Moves.trans (.of (.setGroup s _ ?_ ?_)) (.raise _ _) <;> rfl

theorem Moves.groupHalted (s : State) (r : StopReason) : Moves s (s.groupHalted r) := by
  refine Moves.trans (.of (.setGroup s _ ?_ ?_)) (.raise _ _) <;> rfl

theorem Moves.groupPhase (s : State) (p : GroupPhase) (free : p.holds = false) : Moves s (s.groupPhase p) :=
  .of (.setGroup s _ rfl free)

theorem Moves.groupAskPlace (s : State) : Moves s s.groupAskPlace := by
  unfold State.groupAskPlace
  split
  · next free =>
    refine Moves.trans (.of (.group s _ ?_ fun _ => .inr free)) (.cmHand _ _)
    rfl
  · exact .groupPhase s _ rfl

theorem Moves.groupRun (s : State) : Moves s s.groupRun := by
  unfold State.groupRun
  dsimp only
  split
  · exact .groupStop s _ _
  · split
    · exact .groupStop s _ _
    · split
      · exact (Moves.groupPhase s _ rfl).trans (.cmHand _ _)
      · split
        · exact .groupAskPlace s
        · exact .groupPhase s _ rfl

theorem Moves.groupHoldPlace (s : State) : Moves s s.groupHoldPlace := by
  unfold State.groupHoldPlace
  split
  · exact .groupRun s
  · exact .refl s

theorem Moves.groupAfterStep (s : State) : Moves s s.groupAfterStep := by
  unfold State.groupAfterStep
  split
  · exact .groupPhase s _ rfl
  · split
    · exact .groupHalted s _
    · exact .groupRun s

theorem Moves.groupHaltRun (s : State) : Moves s s.groupHaltRun := by
  unfold State.groupHaltRun
  split
  · exact .of (.group s _ rfl fun h => .inl h)
  · exact .refl s

theorem Moves.placeImage {s : State} (holds : s.groupHolds = true) (image : Reply) : Moves s (s.placeImage image) :=
  (Moves.of (.image s image holds)).trans (.groupAfterStep _)

theorem State.issueApply_group (s : State) (o : IssueOrder) (n : Nat) (k : KeyRec) (reused : Option CancelReason) :
    (s.issueApply o n k reused).group = s.group := by
  have joined : (k.entries.foldl (fun s e => s.joinList n e) (s.setKey n (some k))).group = s.group := by
    rw [State.joinLists_frame]; rfl
  unfold State.issueApply
  dsimp only
  split
  · rw [State.credOffer_group, State.raise_group]; exact joined
  · exact joined
  · exact joined
  · exact joined

theorem copyOrder_rooms (n : Nat) (e : GroupEntry) (f : GroupFields) : (copyOrder n e f).rooms = f.rooms := rfl

theorem Moves.setEntry_same (s : State) (n : Nat) (e : GroupEntry) (same : e.fields = (s.entry n).fields) :
    Moves s (s.setEntry n e) := .of (.entry s n e fun _ hf => .inr (same ▸ hf))

theorem Moves.groupIssue {s : State} {held : Bool} (phase : s.group.phase = .issueHanded held) :
    Moves s (s.groupIssue held) := by
  unfold State.groupIssue
  dsimp only
  split
  · exact .groupStop s _ _
  · next f fields =>
    split
    · exact .groupStop s _ _
    · next key k reused accepted =>
      have applied : Moves s ((s.issueApply (copyOrder s.group.next (s.entry s.group.next) f) key k reused).setEntry
          s.group.next { s.entry s.group.next with issued := (s.entry s.group.next).issued + 1 }) := by
        refine (Moves.issueApply accepted fun lists => copyOrder_rooms _ _ f ▸ lists.2.2.2 _ f fields).trans
          (.setEntry_same _ _ _ ?_)
        have same : ∀ t : State, t.group = s.group → (t.entry s.group.next).fields = (s.entry s.group.next).fields :=
          fun t ht => by rw [State.entry, ht]; rfl
        exact (same _ (State.issueApply_group ..)).symm
      have holds : ((s.issueApply (copyOrder s.group.next (s.entry s.group.next) f) key k reused).setEntry
          s.group.next { s.entry s.group.next with issued := (s.entry s.group.next).issued + 1 }).groupHolds = held := by
        change (s.issueApply (copyOrder s.group.next (s.entry s.group.next) f) key k reused).group.phase.holds = held
        rw [State.issueApply_group, phase]
        rfl
      refine applied.trans ?_
      split
      · exact (Moves.groupPhase _ _ rfl).trans (.groupAfterStep _)
      · next kept =>
        have holding := holds.trans (by simpa using kept)
        split
        · exact .of (.group _ _ rfl fun _ => .inl holding)
        · exact .placeImage holding _

theorem State.cmTakes_idle {s : State} {c : CmSource} (h : s.cmTakes c = true) : s.cred.op = none := by
  simp only [State.cmTakes, Bool.and_eq_true, Option.isNone_iff_eq_none] at h
  exact h.1.1.2

theorem Moves.groupCheckIn {s : State} (idle : s.cred.op = none) : Moves s s.groupCheckIn := by
  unfold State.groupCheckIn
  dsimp only
  split
  · exact .groupStop s _ _
  · split
    · exact .refl s
    · split
      · exact .groupStop s _ _
      · exact .beginCheckIn idle _ _ _ _

theorem Moves.groupBoundary (s : State) : Moves s s.groupBoundary := by
  have next : ∀ g : Group, g.entries = s.group.entries → g.phase = .rest → Moves s { s with group := g } :=
    fun g entries phase => .of (.setGroup s g entries (by rw [phase]; rfl))
  unfold State.groupBoundary
  dsimp only
  split
  · refine Moves.trans (next _ ?_ ?_) (.raise _ _) <;> rfl
  · have moved : Moves s { s with group :=
        if s.group.redirect then { s.group with done := some s.group.next, phase := .rest, next := s.group.first, redirect := false }
        else { s.group with done := some s.group.next, phase := .rest, next := (s.group.next + 1) % 16 } } := by
      refine next _ ?_ ?_ <;> split <;> rfl
    have goesOn : ∀ u : State, Moves u (if s.group.abort then u.groupHalted .abort
        else if s.group.state = .halting then u.groupHalted .halt else u.groupRun) := fun u => by
      split
      · exact .groupHalted u _
      · split
        · exact .groupHalted u _
        · exact .groupRun u
    exact moved.trans (goesOn _)

/-! #### The commands of the Group Issue Queue -/

theorem groupFieldsOf_nodup {fs : List Byte} {f : GroupFields} (h : groupFieldsOf fs = some f) : f.rooms.Nodup := by
  unfold groupFieldsOf at h
  dsimp only at h
  split at h
  · split at h
    · cases h
    · next fine =>
      rw [← Option.some.inj h]
      have all := Bool.eq_false_of_not_eq_true fine
      exact badRoomList_nodup (Bool.or_eq_false_iff.mp (Bool.or_eq_false_iff.mp all).1).1
  · cases h

theorem execGroupLoad_goes (s : State) : Goes s (execGroupLoad s) :=
  .of_moves (.serve s .desk .groupLoad _ fun fs _ => by
    dsimp only
    split
    · exact .answer s .desk _ _
    · split
      · exact .answer s .desk _ _
      · split
        · exact .answer s .desk _ _
        · next f loaded =>
          split
          · exact (Moves.raise s _).trans (.answer _ _ _ _)
          · refine (Moves.of (.entry s _ _ fun g hg => .inl ?_)).trans (.answer _ _ _ _)
            exact Option.some.inj hg ▸ groupFieldsOf_nodup loaded)

theorem execGroupPoint_goes (s : State) : Goes s (execGroupPoint s) :=
  .of_moves (.serve s .desk .groupPoint _ fun fs _ => by
    dsimp only
    split
    · exact .answer s .desk _ _
    · split
      · exact .answer s .desk _ _
      · refine Moves.trans (.of (.group s _ ?_ ?_)) (.answer _ _ _ _)
        · rfl
        · exact fun h => .inl h)

theorem Moves.clearProgress (s : State) : Moves s s.clearProgress := by
  exact .foldl (fun s n => s.setEntry n (s.entry n).fresh) (fun s n => .setEntry_same s n _ rfl) (List.range _) s

theorem Moves.startNew (s : State) : Moves s s.startNew := by
  have started : ∀ t : State, Moves t { t with group := { t.group with
      state := .running, next := t.group.first, redirect := false, abort := false, stop := none, startTag := s.deskTag,
      phase := .rest } } := fun t => .of (.setGroup t _ rfl rfl)
  unfold State.startNew
  dsimp only
  exact (((Moves.clearProgress s).trans (started s.clearProgress)).trans (.answer _ _ _ _)).trans (.groupRun _)

theorem Moves.startResumed (s : State) : Moves s s.startResumed := by
  have resumed : Moves s { s with group := { s.group with
      state := .running, abort := false, stop := none, startTag := s.deskTag, phase := .rest } } :=
    .of (.setGroup s _ rfl rfl)
  unfold State.startResumed
  dsimp only
  exact (resumed.trans (.answer _ _ _ _)).trans (.groupRun _)

theorem execGroupStart_goes (s : State) : Goes s (execGroupStart s) :=
  .of_moves (.serve s .desk .groupStart _ fun _ _ => by
    split
    · exact .answer s .desk _ _
    · split
      · exact .answer s .desk _ _
      · exact .answer s .desk _ _
      · exact .startNew s
      · exact .startResumed s)

theorem execGroupCheckinStep_goes (s : State) : Goes s (execGroupCheckinStep s) := by
  refine .of_moves ?_
  split
  · next ready =>
    have takes : s.cmTakes .group = true := (Bool.and_eq_true _ _ ▸ ready).2
    have idle : s.cred.op = none := State.cmTakes_idle takes
    exact (Moves.cmPop s).trans (.groupCheckIn idle)
  · exact .refl s

theorem execGroupPlaceHold_goes (s : State) : Goes s (execGroupPlaceHold s) := by
  refine .of_moves ?_
  split
  · exact .groupHoldPlace s
  · exact .refl s

theorem execGroupIssueStep_goes (s : State) : Goes s (execGroupIssueStep s) := by
  refine .of_moves ?_
  split
  · next phase =>
    split
    · exact (Moves.cmPop s).trans (.groupIssue phase)
    · exact .refl s
  · exact .refl s

theorem execEntryBoundary_goes (s : State) : Goes s (execEntryBoundary s) := by
  refine .of_moves ?_
  split
  · exact .groupBoundary s
  · exact .refl s

theorem execGroupHalt_goes (s : State) : Goes s (execGroupHalt s) :=
  .of_moves (.serve s .desk .groupHalt _ fun _ _ => by
    split
    · exact .answer s .desk _ _
    · split
      · exact .answer s .desk _ _
      · exact (Moves.groupHaltRun s).trans (.answer _ _ _ _))

theorem Moves.groupAbort (s : State) : Moves s s.groupAbort := by
  have flagged : Moves s { s with group := { s.group with abort := true } } := .of (.group s _ rfl fun h => .inl h)
  unfold State.groupAbort
  dsimp only
  split
  · exact flagged.trans (.groupHalted _ _)
  · exact flagged

theorem execGroupAbort_goes (s : State) : Goes s (execGroupAbort s) :=
  .of_moves (.serve s .desk .groupAbort _ fun _ _ => by
    dsimp only
    split
    · exact .answer s .desk _ _
    · refine (Moves.groupHoldPlace s).trans ?_
      split
      · exact .answer _ .desk _ _
      · exact (Moves.groupAbort _).trans (.answer _ _ _ _))

theorem execGroupQuery_goes (l : LinkId) (s : State) : Goes s (execGroupQuery l s) :=
  .of_moves (.serve s l .groupQuery _ fun _ _ => by
    dsimp only
    split <;> exact .answer s l _ _)

end Sys2Proof.Machine
end

section
/-! PROOFS. The frames of the links, the taking of requests and the placing of replies as chains of guarded changes. -/

namespace Sys2Proof.Machine

/-- The ring of a link: its length, its head and its tail (R186). -/
def Link.ringInRange (k : Link) : Prop := 2 ≤ k.len ∧ k.len ≤ 16 ∧ k.head < k.len ∧ k.tail < k.len

/-- A link may have its ring and its sdo changed. -/
theorem Move.setRing {s : State} {l : LinkId} {k : Link}
    (slots : tableWf blankSlot (s.link l).slots = true → tableWf blankSlot k.slots = true)
    (ring : (s.link l).ringInRange → k.ringInRange)
    (places : k.replies.length + (k.inProgress.elim false Request.holdsPlace).toNat ≤
      (s.link l).replies.length + ((s.link l).inProgress.elim false Request.holdsPlace).toNat)
    (taken : ∀ r, k.inProgress = some r → r.phase = .taken → (s.link l).inProgress = some r ∨ s.fenced l = false) :
    Move s (s.setLink l k) := by
  refine .link s l k slots ring (fun below => ?_) (State.fence_setLink taken)
  rw [State.placesTaken_setLink]
  unfold State.placesTaken at below
  omega

/-- A link with no request in progress and a free place may take one place. -/
theorem Move.takePlace {s : State} {l : LinkId} {k : Link} (free : s.placeFree l = true) (slots : k.slots = (s.link l).slots)
    (ring : (s.link l).ringInRange → k.ringInRange)
    (places : k.replies.length + (k.inProgress.elim false Request.holdsPlace).toNat ≤
      (s.link l).replies.length + ((s.link l).inProgress.elim false Request.holdsPlace).toNat + 1)
    (taken : ∀ r, k.inProgress = some r → r.phase = .taken → (s.link l).inProgress = some r ∨ s.fenced l = false) :
    Move s (s.setLink l k) := by
  refine .link s l k (by rw [slots]; exact id) ring (fun _ => ?_) (State.fence_setLink taken)
  have below := of_decide_eq_true free
  rw [State.placesTaken_setLink]
  unfold State.placesTaken at below
  omega

/-! #### Frames (R187 to R200) -/

theorem Moves.frame (s : State) (l : LinkId) (need : Nat) (bytes : List Byte) (act : Link → Link)
    (acts : Move s (s.setLink l ((act (s.link l)).drove bytes.length))) : Moves s (s.frame l need bytes act) := by
  unfold State.frame
  split
  · split
    · exact .of acts
    · exact .of (.setLink_same rfl rfl rfl rfl rfl rfl)
  · exact .refl s

/-- A frame that changes nothing but notices, errors and the halt of a ring. -/
theorem Moves.frame_same (s : State) (l : LinkId) (need : Nat) (bytes : List Byte) (act : Link → Link)
    (same : act (s.link l) = { s.link l with
      notices := (act (s.link l)).notices, lastError := (act (s.link l)).lastError, halt := (act (s.link l)).halt }) :
    Moves s (s.frame l need bytes act) := by
  refine .frame s l need bytes act ?_
  rw [same]
  exact .setLink_same rfl rfl rfl rfl rfl rfl

theorem execWriteSlot_goes (l : LinkId) (bytes : List Byte) (s : State) : Goes s (execWriteSlot l bytes s) := by
  refine .of_moves (.frame s l _ bytes _ ?_)
  unfold Link.writeSlot
  split
  · exact .setLink_same rfl rfl rfl rfl rfl rfl
  · split
    · exact .setLink_same rfl rfl rfl rfl rfl rfl
    · exact .setRing (fun w => tablePut_wf _ _ _ _ w) id le_rfl fun _ hr _ => .inl hr

theorem Link.haltOnPost_eq (k : Link) (c : HaltCause) : k.haltOnPost c = { k with halt := (k.haltOnPost c).halt } := by
  unfold Link.haltOnPost
  split <;> rfl

theorem execPost_goes (l : LinkId) (bytes : List Byte) (s : State) : Goes s (execPost l bytes s) := by
  refine .of_moves (.frame s l _ bytes _ ?_)
  unfold Link.post
  split
  · rw [Link.haltOnPost_eq]
    exact .setLink_same rfl rfl rfl rfl rfl rfl
  · next inside =>
    split
    · rw [Link.haltOnPost_eq]
      exact .setLink_same rfl rfl rfl rfl rfl rfl
    · refine .setRing id (fun ⟨low, high, head, _⟩ => ⟨low, high, head, ?_⟩) le_rfl fun _ hr _ => .inl hr
      exact Nat.lt_of_not_le inside

theorem execFetch_goes (l : LinkId) (clocked : Nat) (s : State) : Goes s (execFetch l clocked s) := by
  refine .of_moves ?_
  split
  · dsimp only
    split
    · refine .of (.setLink rfl rfl rfl rfl (Nat.add_le_add_right ?_ _) fun _ hr _ => .inl hr)
      simp
    · exact .of (.setLink_same rfl rfl rfl rfl rfl rfl)
  · exact .refl s

theorem execStatus_goes (l : LinkId) (clocked : Nat) (s : State) : Goes s (execStatus l clocked s) := by
  refine .of_moves ?_
  split
  · exact .of (.setLink_same rfl rfl rfl rfl rfl rfl)
  · exact .refl s

theorem execClear_goes (l : LinkId) (bytes : List Byte) (s : State) : Goes s (execClear l bytes s) :=
  .of_moves (.frame_same s l _ bytes _ rfl)

theorem execRing_goes (l : LinkId) (bytes : List Byte) (s : State) : Goes s (execRing l bytes s) := by
  refine .of_moves (.frame s l _ bytes _ ?_)
  unfold Link.ring
  split
  · exact .setLink_same rfl rfl rfl rfl rfl rfl
  · next inside =>
    obtain ⟨low, high⟩ := not_or.mp inside
    refine .setRing id (fun _ => ⟨Nat.le_of_not_lt low, Nat.le_of_not_lt high, ?_, ?_⟩) le_rfl fun _ hr _ => .inl hr <;>
      exact lt_of_lt_of_le Nat.two_pos (Nat.le_of_not_lt low)

theorem Link.slotAfter_lt {k : Link} (h : 2 ≤ k.len) (n : Nat) : k.slotAfter n < k.len := Nat.mod_lt _ (by omega)

/-- Head moves on around the ring. -/
theorem Link.ringInRange.advance {k : Link} (h : k.ringInRange) (n : Nat) : (k.advance n).ringInRange := by
  obtain ⟨low, high, _, tail⟩ := h
  exact ⟨low, high, Link.slotAfter_lt low n, tail⟩

theorem execResume_goes (l : LinkId) (bytes : List Byte) (s : State) : Goes s (execResume l bytes s) := by
  have moved : ∀ n, Move s (s.setLink l (({ s.link l with head := (s.link l).slotAfter n, halt := none } : Link).drove
      bytes.length)) := fun n => .setRing id (fun h => h.advance n) le_rfl fun _ hr _ => .inl hr
  refine .of_moves (.frame s l _ bytes _ ?_)
  unfold Link.resume
  split
  · exact .setLink_same rfl rfl rfl rfl rfl rfl
  · exact moved _
  · exact moved _
  · exact .setLink_same rfl rfl rfl rfl rfl rfl
  · exact .setLink_same rfl rfl rfl rfl rfl rfl

theorem Request.atReset_holdsPlace (o : Option Request) : (o.bind Request.atReset).elim false Request.holdsPlace = false := by
  cases o with
  | none => rfl
  | some r =>
    rw [Option.bind_some, Request.atReset]
    split <;> rfl

theorem Move.reset (s : State) (l : LinkId) (n : Nat) : Move s (s.setLink l (((s.link l).reset l).drove n)) := by
  refine .link s l _ id (fun _ => ⟨Nat.le_add_left 2 14, le_rfl, Nat.zero_lt_succ 15, Nat.zero_lt_succ 15⟩) (fun below => ?_) fun fence => ?_
  · rw [State.placesTaken_setLink]
    have none : ((((s.link l).reset l).drove n).inProgress.elim false Request.holdsPlace).toNat = 0 :=
      congrArg Bool.toNat (Request.atReset_holdsPlace _)
    rw [none]
    unfold State.placesTaken at below
    exact le_trans (Nat.add_le_add_right (Nat.zero_le _) _) below
  · intro on r hr phase
    rw [State.setLink_settings] at on
    cases l with
    | desk =>
      obtain ⟨q, hq, same⟩ := Option.bind_eq_some_iff.mp (hr : s.desk.inProgress.bind Request.atReset = some r)
      refine fence on q hq ?_
      unfold Request.atReset at same
      split at same
      · cases same
      · next handed =>
        rw [← Option.some.inj same] at phase
        exact phase
      · next taken => exact taken
    | lock => exact fence on r hr phase
    | audit => exact fence on r hr phase

theorem Moves.groupLinkReset (s : State) : Moves s s.groupLinkReset := by
  unfold State.groupLinkReset
  refine (Moves.groupHaltRun s).trans ?_
  dsimp only
  split
  · exact .groupPhase _ _ rfl
  · exact (Moves.groupPhase _ _ rfl).trans (.groupAfterStep _)
  · exact .refl _
  · exact .refl _
  · exact .refl _
  · exact .refl _

theorem execLinkReset_goes (l : LinkId) (bytes : List Byte) (s : State) : Goes s (execLinkReset l bytes s) := by
  refine .of_moves ?_
  split
  · have reset := Moves.frame s l 0 bytes (fun k => k.reset l) (.reset s l bytes.length)
    dsimp only
    split
    · exact reset.trans (.groupLinkReset _)
    · exact reset
  · exact .refl s

theorem execUnknownFrame_goes (l : LinkId) (code : Byte) (bytes : List Byte) (s : State) :
    Goes s (execUnknownFrame l code bytes s) := .of_moves (.frame_same s l _ bytes _ rfl)

/-! #### Requests taken (R191 to R194) -/

theorem Link.sequenceError_ring {k : Link} (h : k.ringInRange) (c : HaltCause) (code kind at_ next : Nat) :
    (k.sequenceError c code kind at_ next).ringInRange := by
  unfold Link.sequenceError
  dsimp only
  split
  · exact h
  · exact h.advance next

theorem Link.sequenceError_eq (k : Link) (c : HaltCause) (code kind at_ next : Nat) :
    (k.sequenceError c code kind at_ next).slots = k.slots ∧
      (k.sequenceError c code kind at_ next).inProgress = k.inProgress ∧
      (k.sequenceError c code kind at_ next).replies.length = k.replies.length + 1 := by
  unfold Link.sequenceError Link.place
  dsimp only
  split <;> exact ⟨rfl, rfl, List.length_append⟩

theorem Moves.sequenceError {s : State} {l : LinkId} (free : s.placeFree l = true) (c : HaltCause) (code kind at_ next : Nat) :
    Moves s (s.setLink l ((s.link l).sequenceError c code kind at_ next)) := by
  obtain ⟨slots, inProgress, replies⟩ := (s.link l).sequenceError_eq c code kind at_ next
  refine .of (.takePlace free slots (fun h => Link.sequenceError_ring h c code kind at_ next) ?_ fun r hr _ => ?_)
  · rw [inProgress, replies]; omega
  · exact .inl (inProgress ▸ hr)

/-- The Link Unit refuses a request in the place just held for it. -/
theorem Moves.refuse {s : State} {l : LinkId} (free : s.placeFree l = true) (n : Nat) (r : Reply) :
    Moves s (s.setLink l (((s.link l).advance n).place r)) := by
  refine .of (.takePlace free rfl (fun h => h.advance n) ?_ fun _ hr _ => .inl hr)
  simp only [Link.place, Link.advance, List.length_append, List.length_singleton]
  omega

theorem Moves.examine {s : State} {l : LinkId} (free : s.placeFree l = true) (none : (s.link l).inProgress = none) (n : Nat) :
    Moves s (s.examine l n) := by
  unfold State.examine
  dsimp only
  split
  · exact .refuse free _ _
  · split
    · exact .refuse free _ _
    · split
      · exact .refuse free _ _
      · next kind _ _ _ =>
        have handed : Moves s (s.setLink l { (s.link l).advance (n + 1) with
            inProgress := some ({
              tag := (s.link l).tagAt 0, kind := kind, fields := (s.link l).fieldArea n, phase := .handed,
              discard := false }) }) := by
          refine .of (.takePlace free rfl (fun h => h.advance _) ?_ fun r hr phase => ?_)
          · rw [none]; exact le_rfl
          · rw [← Option.some.inj hr] at phase; cases phase
        split
        · exact handed.trans (.cmHand _ _)
        · exact handed

theorem execTakeRequest_goes (l : LinkId) (s : State) : Goes s (execTakeRequest l s) := by
  refine .of_moves ?_
  split
  · next ready =>
    simp only [State.canTake, Bool.and_eq_true, Option.isNone_iff_eq_none] at ready
    obtain ⟨⟨⟨_, none⟩, _⟩, free⟩ := ready
    unfold State.takeHead
    dsimp only
    split
    · exact .sequenceError free _ _ _ _ _
    · exact .sequenceError free _ _ _ _ _
    · split
      · exact .refuse free _ _
      · split
        · exact .sequenceError free _ _ _ _ _
        · split
          · exact .examine free none _
          · exact .refl s
  · exact .refl s

/-! #### Replies in several records (R205) -/

theorem Moves.placeNext {s : State} {l : LinkId} (free : s.placeFree l = true) : Moves s (s.setLink l (s.link l).placeNext) := by
  unfold Link.placeNext
  split
  · rw [State.setLink_link]
  · next r hr =>
    split
    · exact .of (.setLink rfl rfl rfl rfl (Nat.le_add_right _ _) nofun)
    · next a rest phase =>
      refine .of (.takePlace free rfl id ?_ fun q hq placing => ?_)
      · have ended : ((if rest.isEmpty then none else some { r with phase := .placing rest }).elim false
            Request.holdsPlace).toNat = 0 := by
          cases rest <;> simp [Request.holdsPlace, Request.answered]
        dsimp only
        rw [ended, List.length_append, List.length_singleton]
        omega
      · dsimp only at hq
        split at hq
        · cases hq
        · rw [← Option.some.inj hq] at placing; cases placing
    · rw [State.setLink_link]
    · rw [State.setLink_link]

theorem execPlaceReplyRecord_goes (l : LinkId) (s : State) : Goes s (execPlaceReplyRecord l s) := by
  refine .of_moves ?_
  split
  · next ready =>
    have placed := Moves.placeNext (s := s) (l := l) (Bool.and_eq_true _ _ ▸ ready).2
    unfold State.placeRecord
    dsimp only
    split
    · next image phase =>
      split
      · exact placed
      · refine placed.trans (.placeImage ?_ image)
        rw [State.groupHolds, phase]
        rfl
    · exact placed
  · exact .refl s

end Sys2Proof.Machine
end

section
/-! PROOFS. The commands on rooms, on the minibar, on settings, of the Journal Unit and the starts as chains of guarded
changes, and with them every command (O2). -/

namespace Sys2Proof.Machine

/-! #### Rooms and stays (chapter 2) -/

/-- As the Credential Manager takes a request, it has no operation in progress. -/
theorem Moves.serveCm_idle (s : State) (l : LinkId) (k : ReqKind) (body : List Byte → State → State)
    (asked : ∀ fs, s.cmPop.asked l k fs → s.cmPop.cred.op = none → Moves s.cmPop (body fs s.cmPop)) :
    Moves s (s.serveCm l k body) :=
  .serveFrom l k _ body (.cmPop s) fun fs serving takes unfenced =>
    have idle : s.cred.op = none := State.cmTakes_idle takes
    asked fs ⟨by cases l <;> exact serving, unfenced⟩ idle

theorem execCheckIn_goes (s : State) : Goes s (execCheckIn s) :=
  .of_moves (.serveCm_idle s .desk .checkIn _ fun fs asked idle => by
    dsimp only
    split
    · exact .answer _ .desk _ _
    · split
      · exact .answer _ .desk _ _
      · exact (Moves.beginCheckIn idle _ _ _ _).trans (.markTaken (asked.handed.of_same rfl rfl)))

theorem Moves.afterCheckIn (s : State) (op : CheckInOp) : Moves s (s.afterCheckIn op) := by
  unfold State.afterCheckIn
  split
  · exact .answer s .desk _ _
  · exact (Moves.groupPhase s _ rfl).trans (.groupAfterStep _)

theorem execTallyOpen_goes (s : State) : Goes s (execTallyOpen s) := by
  refine .of_moves ?_
  split
  · next op doing =>
    split
    · have opened := Moves.checkInOpen doing
      dsimp only
      split
      · exact opened.trans (.afterCheckIn _ op)
      · exact opened
    · exact .refl s
  · exact .refl s

theorem Moves.beginCheckOut {s : State} (idle : s.cred.op = none) (room minute second stayEnd : Nat) :
    Moves s { s with cred := { s.cred with op := some (.checkOut room minute second stayEnd) } } :=
  .of (.operation s _ fun _ h => (State.talliesMatchRooms_idle idle).mp h)

theorem execCheckOut_goes (s : State) : Goes s (execCheckOut s) :=
  .of_moves (.serveCm_idle s .desk .checkOut _ fun fs asked idle => by
    dsimp only
    split
    · exact .answer _ .desk _ _
    · exact (Moves.beginCheckOut idle _ _ _ _).trans (.markTaken (asked.handed.of_same rfl rfl)))

theorem execTallyClose_goes (s : State) : Goes s (execTallyClose s) := by
  refine .of_moves ?_
  split
  · next doing =>
    split
    · exact .checkInClose doing
    · exact .refl s
  · next doing =>
    split
    · exact (Moves.checkOutClose doing).trans (.answer _ .desk _ _)
    · exact .refl s
  · exact .refl s

/-- A room's label, privacy flag and stay may be written. -/
theorem Moves.setRoom_same (s : State) (n : Nat) (label : Option Nat) (privacy : Bool) (stay : Option Stay) :
    Moves s (s.setRoom n { s.room n with label := label, privacy := privacy, stay := stay }) :=
  .of (.room s n _ rfl rfl rfl Iff.rfl)

theorem execExtendStay_goes (s : State) : Goes s (execExtendStay s) :=
  .of_moves (.serveCm s .desk .extendStay _ fun fs _ => by
    dsimp only
    split
    · exact .answer _ .desk _ _
    · exact (Moves.setRoom_same s.cmPop (fieldAt fs 0 2) (s.room (fieldAt fs 0 2)).label (s.room (fieldAt fs 0 2)).privacy
        ((s.room (fieldAt fs 0 2)).stay.map fun x => { x with stayEnd := fieldAt fs 2 4 })).trans (.answer _ .desk _ _))

theorem Moves.serveRoomSet (s : State) (a : Nat) (body : Nat → List Byte → State → State)
    (asked : ∀ room fs, Moves s.cmPop (body room fs s.cmPop)) : Moves s (s.serveRoomSet a body) := by
  unfold State.serveRoomSet
  refine .serveFrom .desk .roomSet _ _ (.cmPop s) fun fs _ _ _ => ?_
  dsimp only
  split
  · exact .answer _ .desk _ _
  · split
    · exact .answer _ .desk _ _
    · split
      · exact .answer _ .desk _ _
      · exact asked _ fs

theorem Moves.moveRoom (s : State) {allowed : RoomState → Bool} {target : RoomState} (room : Nat)
    (before : allowed .occupied = false) (after : target ≠ .occupied) : Moves s (s.moveRoom allowed target room) := by
  unfold State.moveRoom
  split
  · next may =>
    have was : (s.room room).state ≠ .occupied := fun q => by rw [q, before] at may; cases may
    have moved : Moves s (s.setRoom room { s.room room with state := target, stay := none, privacy := false }) :=
      .of (.room s room _ rfl rfl rfl (iff_of_false after was))
    exact moved.trans (.answer _ .desk _ _)
  · exact .answer s .desk _ _

theorem execRoomSetReady_goes (s : State) : Goes s (execRoomSetReady s) :=
  .of_moves (.serveRoomSet s 0 _ fun room _ => .moveRoom _ room rfl nofun)

theorem execRoomSetOut_goes (s : State) : Goes s (execRoomSetOut s) :=
  .of_moves (.serveRoomSet s 1 _ fun room _ => .moveRoom _ room rfl nofun)

theorem execRoomSetBack_goes (s : State) : Goes s (execRoomSetBack s) :=
  .of_moves (.serveRoomSet s 2 _ fun room _ => .moveRoom _ room rfl nofun)

theorem execRoomSetLabel_goes (s : State) : Goes s (execRoomSetLabel s) :=
  .of_moves (.serveRoomSet s 3 _ fun room fs => by
    dsimp only
    split
    · exact .answer _ .desk _ _
    · split
      · exact .answer _ .desk _ _
      · exact (Moves.setRoom_same s.cmPop room (some (fieldAt fs 3 2)) (s.room room).privacy (s.room room).stay).trans
          (.answer _ .desk _ _))

theorem execRoomQuery_goes (l : LinkId) (s : State) : Goes s (execRoomQuery l s) :=
  .of_moves (.serveCm s l .roomQuery _ fun _ _ => by
    dsimp only
    split <;> exact .answer _ l _ _)

theorem execPrivacyOperation_goes (s : State) : Goes s (execPrivacyOperation s) := by
  refine .of_moves ?_
  split
  · next room on _ =>
    split
    · exact ((Moves.setRoom_same s room (s.room room).label on (s.room room).stay).trans (.evalOp _ none)).trans
        (.answer _ .lock _ _)
    · exact .refl s
  · exact .refl s

/-! #### The minibar (chapter 5) -/

theorem Moves.setSession_some {s : State} {door : Nat} {x : Session} (found : s.session door = some x) (y : Option Session) :
    Moves s (s.setSession door y) := .of (.session s door y (.inr (.inl (by rw [found]; exact Option.some_ne_none x))))

theorem Moves.idleSession (s : State) (now door : Nat) : Moves s (s.idleSession now door) := by
  unfold State.idleSession
  split
  · exact .refl s
  · next x found =>
    split
    · exact .setSession_some found _
    · split
      · exact .closeSession s door _
      · exact .refl s

theorem Moves.idlePool (s : State) : Moves s s.idlePool := .foldl _ (fun s door => .idleSession s _ door) _ s

theorem execIdleTest_goes (s : State) : Goes s (execIdleTest s) := by
  refine .of_moves ?_
  split
  · exact (Moves.idleDue s _).trans (.idlePool _)
  · exact .refl s

theorem Moves.charge (s : State) (door room item count : Nat) (unattended noLine : Bool) :
    Moves s (s.charge door room item count unattended noLine) := by
  have charged := (Moves.setTally_same s room ((s.tally room).charged (s.takeCharge item count))
    (.inl (Tally.charged_le _ _)) rfl).trans (.miniOffer _
      (.charge door room item count (s.price item) s.mini.rate (s.takeCharge item count) (s.tally room).tally unattended noLine
        (decide (Config.maxTally < (s.tally room).tally + s.takeCharge item count))
        ((s.tally room).crosses (s.takeCharge item count)) (s.sessionKey door)))
  unfold State.charge
  dsimp only
  refine Moves.trans ?_ (.answer _ .lock _ _)
  split
  · exact charged.trans (.raise _ _)
  · exact charged

theorem Moves.chargeSession {s : State} {door : Nat} {x : Session} (found : s.session door = some x) (room item count : Nat) :
    Moves s (s.chargeSession door room item count x) := by
  unfold State.chargeSession
  split
  · exact (Moves.setSession_some found _).trans (.charge _ _ _ _ _ _ _)
  · exact .charge s _ _ _ _ _ _

theorem Moves.countStock (s : State) (door room item count key : Nat) (direction : StockDirection) :
    Moves s (s.countStock door room item count key direction) := (Moves.miniOffer s _).trans (.answer _ .lock _ _)

theorem Moves.shrink (s : State) (door room item count : Nat) : Moves s (s.shrink door room item count) :=
  (Moves.miniOffer s _).trans (.answer _ .lock _ _)

theorem Moves.take (s : State) (door room item count : Nat) : Moves s (s.take door room item count) := by
  unfold State.take
  refine (Moves.touch s door (stampOf s.clock.minute s.clock.second)).trans ?_
  dsimp only
  split
  · next found =>
    split
    · exact .countStock _ _ _ _ _ _ _
    · split
      · exact .chargeSession found _ _ _
      · exact .shrink _ _ _ _ _
  · split
    · exact .charge _ _ _ _ _ _ _
    · exact .shrink _ _ _ _ _

theorem execMinibarTake_goes (s : State) : Goes s (execMinibarTake s) :=
  .of_moves (.serve s .lock .minibarTake _ fun _ _ => by
    dsimp only
    split
    · exact .answer s .lock _ _
    · split
      · exact .answer s .lock _ _
      · exact .take s _ _ _ _)

theorem Moves.refund {s : State} {door : Nat} {x : Session} (found : s.session door = some x) (room item count : Nat)
    (line : Line) : Moves s (s.refund door room item count x line) := by
  have lined := Moves.setSession_some found (some { x with lines := refundLines item count x.lines })
  have refunded := Moves.setTally_same (s.setSession door (some { x with lines := refundLines item count x.lines })) room
    { s.tally room with tally := (s.tally room).tally - refundOf line count } (.inr (Nat.sub_le _ _)) rfl
  exact ((lined.trans refunded).trans (.miniOffer _ _)).trans (.answer _ .lock _ _)

theorem Moves.unmatched (s : State) (door room item count : Nat) : Moves s (s.unmatched door room item count) :=
  (Moves.miniOffer s _).trans (.answer _ .lock _ _)

theorem Moves.giveBack (s : State) (door room item count : Nat) : Moves s (s.giveBack door room item count) := by
  unfold State.giveBack
  refine (Moves.touch s door (stampOf s.clock.minute s.clock.second)).trans ?_
  dsimp only
  split
  · next found =>
    split
    · exact .countStock _ _ _ _ _ _ _
    · split
      · exact .refund found _ _ _ _
      · exact .unmatched _ _ _ _ _
  · exact .unmatched _ _ _ _ _

theorem execMinibarReturn_goes (s : State) : Goes s (execMinibarReturn s) :=
  .of_moves (.serve s .lock .minibarReturn _ fun _ _ => by
    dsimp only
    split
    · exact .answer s .lock _ _
    · split
      · exact .answer s .lock _ _
      · exact .giveBack s _ _ _ _)

theorem execMinibarShut_goes (s : State) : Goes s (execMinibarShut s) :=
  .of_moves (.serve s .lock .minibarShut _ fun _ _ => by
    dsimp only
    split
    · exact .answer s .lock _ _
    · split
      · exact .answer s .lock _ _
      · exact (Moves.closeSession s _ _).trans (.answer _ .lock _ _))

theorem execPriceSet_goes (s : State) : Goes s (execPriceSet s) :=
  .of_moves (.serve s .desk .priceSet _ fun _ _ => by
    dsimp only
    split
    · exact .answer s .desk _ _
    · exact (Moves.of (.prices s _ _)).trans (.answer _ .desk _ _))

theorem execRateSet_goes (s : State) : Goes s (execRateSet s) :=
  .of_moves (.serve s .desk .rateSet _ fun fs _ => by
    dsimp only
    split
    · exact .answer s .desk _ _
    · exact (Moves.of (.mini s (min (fieldAt fs 0 1) 250) s.mini.tariffLock s.mini.idleDue)).trans (.answer _ .desk _ _))

theorem execTariffLock_goes (s : State) : Goes s (execTariffLock s) :=
  .of_moves (.serve s .audit .tariffLock _ fun _ _ => by
    split
    · exact .answer s .audit _ _
    · exact (Moves.of (.mini s s.mini.rate true s.mini.idleDue)).trans (.answer _ .audit _ _))

theorem execTariffQuery_goes (l : LinkId) (s : State) : Goes s (execTariffQuery l s) :=
  .of_moves (.serve s l .tariffQuery _ fun _ _ => by
    dsimp only
    split <;> exact .answer s l _ _)

theorem execCreditSet_goes (s : State) : Goes s (execCreditSet s) :=
  .of_moves (.serve s .desk .creditSet _ fun fs _ => by
    dsimp only
    split
    · exact .answer s .desk _ _
    · exact (Moves.setTally_same s (fieldAt fs 0 2) { s.tally (fieldAt fs 0 2) with
        limit := min (fieldAt fs 2 3) Config.maxTally } (.inr le_rfl) rfl).trans (.answer _ .desk _ _))

theorem execTallyQuery_goes (l : LinkId) (s : State) : Goes s (execTallyQuery l s) :=
  .of_moves (.serve s l .tallyQuery _ fun _ _ => by
    dsimp only
    split <;> exact .answer s l _ _)

/-! #### Site Settings (chapter 8) -/

/-- Settings of the same ranges, with a site record exactly outside UNPROVISIONED. -/
theorem Move.moveService {s : State} (new : Service) (record : Option SiteRecord)
    (matches_ : s.recordMatchesService → (record = none ↔ new = .unprovisioned)) :
    Move s { s with settings := { s.settings with service := new, record := record } } :=
  .settings s _ id matches_ .inl

theorem Moves.moveService {s : State} {record : Option SiteRecord} {new : Service}
    (matches_ : s.recordMatchesService → (record = none ↔ new = .unprovisioned)) (l : LinkId) (kind : ReqKind)
    (site : Option SiteRecord) :
    Moves s ({ s with settings := { s.settings with record := record } }.moveService l kind new site) :=
  (((Moves.of (.moveService new record matches_)).trans (.offerNow _ _ _)).trans (.raise _ _)).trans (.answer _ l _ _)

theorem execSiteWrite_goes (s : State) : Goes s (execSiteWrite s) :=
  .of_moves (.serve s .desk .siteWrite _ fun _ _ => by
    dsimp only
    split
    · exact .answer s .desk _ _
    · refine .moveService (fun _ => iff_of_false (Option.some_ne_none _) ?_) _ _ _
      nofun)

theorem execCommission_goes (s : State) : Goes s (execCommission s) :=
  .of_moves (.serve s .desk .commission _ fun _ _ => by
    dsimp only
    split
    · exact .answer s .desk _ _
    · next configuring =>
      split
      · refine .moveService (s := s) (record := s.settings.record) (fun h => ?_) _ _ _
        exact h.trans (iff_of_false (by rw [configuring]; nofun) nofun)
      · exact .answer s .desk _ _
    · exact .answer s .desk _ _)

theorem execDecommission_goes (s : State) : Goes s (execDecommission s) :=
  .of_moves (.serve s .audit .decommission _ fun _ _ => by
    split
    · exact .answer s .audit _ _
    · exact .answer s .audit _ _
    · next inService =>
      refine .moveService (s := s) (record := s.settings.record) (fun h => ?_) _ _ _
      exact h.trans (iff_of_false (by rw [inService]; nofun) nofun))

theorem le_clampTo (low high n : Nat) : low ≤ clampTo low high n := le_max_left _ _

theorem Settings.changed_inRange {s : State} (h : s.settingsInRange) (grace encode idle : Option Nat) :
    State.settingsInRange { s with settings := s.settings.changed grace encode idle } := by
  obtain ⟨hg, he, he', hi, hi'⟩ := h
  have clamped : ∀ (low high : Nat), low ≤ high → ∀ (v : Option Nat) (x : Nat), low ≤ x → x ≤ high →
      low ≤ v.elim x (clampTo low high) ∧ v.elim x (clampTo low high) ≤ high := fun low high ord v x hl hh => by
    cases v with
    | none => exact ⟨hl, hh⟩
    | some n => exact ⟨le_clampTo low high n, clampTo_le low high n ord⟩
  obtain ⟨e, e'⟩ := clamped 1 60 (by decide) encode _ he he'
  obtain ⟨i, i'⟩ := clamped 60 900 (by decide) idle _ hi hi'
  exact ⟨(clamped 0 120 (by decide) grace _ (Nat.zero_le _) hg).2, e, e', i, i'⟩

theorem execSettingsSet_goes (s : State) : Goes s (execSettingsSet s) :=
  .of_moves (.serve s .desk .settingsSet _ fun _ _ => by
    dsimp only
    split
    · exact .answer s .desk _ _
    · split
      · exact .answer s .desk _ _
      · exact (Moves.of (.settings s _ (fun h => Settings.changed_inRange h _ _ _) id .inl)).trans (.answer _ .desk _ _))

theorem Moves.moveFence {s : State} {on : Bool} (free : s.deskTaken = false) : Moves s (s.moveFence on) := by
  have moved : Move s { s with settings := { s.settings with fence := on } } := .settings s _ id id fun _ => .inr free
  exact ((Moves.of moved).trans (.offerNow _ _ _)).trans (.raise _ _)

theorem execFenceDesk_goes (s : State) : Goes s (execFenceDesk s) :=
  .of_moves (.serveFrom .audit .fenceDesk _ _ (.refl s) fun _ _ ready _ => by
    refine Moves.trans ?_ (.answer _ .audit _ _)
    split
    · exact .refl s
    · exact (Moves.moveFence (by simpa using ready)).trans (.groupHaltRun _))

theorem execUnfenceDesk_goes (s : State) : Goes s (execUnfenceDesk s) :=
  .of_moves (.serveFrom .audit .unfenceDesk _ _ (.refl s) fun _ _ ready _ => by
    refine Moves.trans ?_ (.answer _ .audit _ _)
    split
    · exact .moveFence (by simpa using ready)
    · exact .refl s)

theorem execIdentify_goes (l : LinkId) (s : State) : Goes s (execIdentify l s) :=
  .of_moves (.serve s l .identify _ fun _ _ => .answer s l _ _)

theorem execSiteQuery_goes (l : LinkId) (s : State) : Goes s (execSiteQuery l s) :=
  .of_moves (.serve s l .siteQuery _ fun _ _ => .answer s l _ _)

end Sys2Proof.Machine
end

section
/-! PROOFS. The commands of the Journal Unit and the starts as chains of guarded changes, and with them every command. -/

namespace Sys2Proof.Machine

/-! #### The Journal Unit (chapter 7) -/

theorem Journal.stage_bounded (j : Journal) (r : Rec) (staging : j.staging.length ≤ Config.staging) (unstaged : j.unstaged ≤ 65535) :
    (j.stage r).staging.length ≤ Config.staging ∧ (j.stage r).unstaged ≤ 65535 := by
  unfold Journal.stage
  split
  · next free => exact ⟨by rw [List.length_append]; exact free, unstaged⟩
  · exact ⟨staging, min_le_right _ _⟩

theorem Journal.stage_eq (j : Journal) (r : Rec) :
    j.stage r = { j with staging := (j.stage r).staging, unstaged := (j.stage r).unstaged } := by
  unfold Journal.stage
  split <;> rfl

theorem Move.stage (s : State) (r : Rec) (rest : List Rec) :
    Move s (s.setJournal { s.journal.stage r with offers := rest }) := by
  refine .journal s _ ⟨rfl, fun w => ?_, fun ⟨staging, unstaged⟩ => Journal.stage_bounded _ r staging unstaged⟩ fun _ h => ?_
  · rw [Journal.stage_eq]; exact w
  · rw [Journal.stage_eq]; exact State.marksLawful_of_same h rfl rfl rfl rfl rfl rfl rfl rfl

theorem execStageRecord_goes (s : State) : Goes s (execStageRecord s) := by
  refine .of_moves ?_
  split
  · exact .refl s
  · split
    · exact .of (.stage s _ _)
    · exact .refl s

theorem State.programReady_iff (s : State) :
    s.programReady = true ↔ s.powered = true ∧ s.journal.state = .normal ∧ s.journal.writer = .idle ∧ s.journal.staging ≠ [] ∧
      s.writeFilling = true ∧ s.journal.write.slot < 64 ∧ s.journal.eraseAhead = none := by
  have slots : Config.slotsPerPage = 64 := rfl
  simp [State.programReady, and_assoc, slots]

theorem State.turnReady_iff (s : State) :
    s.turnReady = true ↔ s.powered = true ∧ s.journal.state = .normal ∧ s.journal.writer = .idle ∧ s.journal.staging ≠ [] ∧
      s.writeFilling = false ∧ s.journal.eraseAhead = none := by
  simp [State.turnReady, and_assoc]

theorem execProgramStart_goes (s : State) : Goes s (execProgramStart s) := by
  refine .of_moves ?_
  split
  · next ready =>
    obtain ⟨_, normal, _, _, filling, _⟩ := s.programReady_iff.mp ready
    have going : s.marksLawful → s.journal.state ≠ .recovering := fun _ => by rw [normal]; nofun
    split
    · exact .of ((MarksOp.programStart s filling).move going)
    · exact .of ((Quiet.failJournal s _).marksOp.move going)
  · exact .refl s

theorem execProgramComplete_goes (readBack : List Byte) (s : State) : Goes s (execProgramComplete readBack s) := by
  refine .of_moves ?_
  split
  · next ready =>
    have programming : s.journal.writer = .programming := beq_iff_eq.mp (Bool.and_eq_true _ _ ▸ ready).2
    exact .of ((MarksOp.programDone s _ programming).move fun h => h.going (by rw [programming]; nofun))
  · exact .refl s

theorem execTurn_goes (s : State) : Goes s (execTurn s) := by
  refine .of_moves ?_
  split
  · next ready =>
    obtain ⟨_, normal, _⟩ := s.turnReady_iff.mp ready
    exact .of ((MarksOp.turnPage s).move fun _ => by rw [normal]; nofun)
  · exact .refl s

theorem Quiet.setEraseAhead (s : State) (p : Option Nat) : Quiet s (s.setJournal { s.journal with eraseAhead := p }) :=
  ⟨.setJournal s _ rfl rfl rfl, fun _ => Fade.of_same rfl rfl rfl rfl rfl rfl id id⟩

theorem execEraseStart_goes (s : State) : Goes s (execEraseStart s) := by
  refine .of_moves ?_
  split
  · exact .refl s
  · next p _ =>
    split
    · next ready =>
      simp only [Bool.and_eq_true, beq_iff_eq] at ready
      obtain ⟨⟨_, normal⟩, _⟩ := ready
      exact .of (((Quiet.setEraseAhead s none).trans (.beginErase _ p false)).marksOp.move fun _ => by rw [normal]; nofun)
    · exact .refl s

theorem execEraseComplete_goes (pageRead : List (Nat × List Byte)) (s : State) : Goes s (execEraseComplete pageRead s) := by
  refine .of_moves ?_
  split
  · next p forTurn erasing =>
    split
    · exact .of ((MarksOp.eraseDone s p forTurn _ (slotsOf_wf pageRead)).move fun h => h.going (by rw [erasing]; nofun))
    · exact .refl s
  · exact .refl s

theorem execJournalRead_goes (s : State) : Goes s (execJournalRead s) :=
  .of_moves (.serveJournal s .audit .journalRead _ fun _ _ => by
    dsimp only
    split
    · exact .answer s .audit _ _
    · split
      · exact .answer s .audit _ _
      · exact .answerWith s .audit _)

theorem execJournalRelease_goes (s : State) : Goes s (execJournalRelease s) :=
  .of_moves (.serveJournal s .audit .journalRelease _ fun fs _ => by
    dsimp only
    split
    · exact .answer s .audit _ _
    · next going =>
      refine Moves.trans ?_ (.answer _ .audit _ _)
      split
      · next moved =>
        exact .of ((MarksOp.releaseTo s _ (of_decide_eq_true moved) (min_le_right _ _)).move fun _ => going)
      · exact .refl s)

theorem execJournalHealth_goes (l : LinkId) (s : State) : Goes s (execJournalHealth l s) :=
  .of_moves (.serveJournal s l .journalHealth _ fun _ _ => by
    split
    · exact (Moves.of (.draw s _)).trans (.answer _ l _ _)
    · exact .answer s l _ _)

/-! #### Starts and power (R2, R184, R185) -/

theorem execColdStart_goes (slotRead : List Byte) (pageRead : List (Nat × List Byte)) (s : State) :
    Goes s (execColdStart slotRead pageRead s) := .of_moves (.of (.cold s _ slotRead pageRead rfl))

theorem Moves.finishCmOnce (s : State) : Moves s s.finishCmOnce := by
  unfold State.finishCmOnce
  split
  · exact .refl s
  · next doing =>
    split
    · exact .checkInClose doing
    · exact .checkInOpen doing
  · next doing => exact .checkOutClose doing

theorem Moves.finishCm (s : State) : Moves s s.finishCm :=
  .foldl (fun s _ => s.finishCmOnce) (fun s _ => .finishCmOnce s) (List.range 8) s

theorem Moves.finishDoorOnce (s : State) : Moves s s.finishDoorOnce := by
  unfold State.finishDoorOnce
  split
  · exact .releaseDoor s _ _
  · exact .assignDoor s _ _
  · exact .closeDoorSession s _
  · exact .refl s

theorem Moves.finishEval (s : State) : Moves s s.finishEval :=
  ((Moves.finishDoorOnce s).trans (.finishDoorOnce _)).trans (.evalDone _)

theorem Moves.resolveProgram (s : State) (contents : List Byte) : Moves s (s.resolveProgram contents) := by
  by_cases busy : s.journal.writer = .idle
  · have same : s.resolveProgram contents = s := by
      unfold State.resolveProgram
      rw [busy]
    rw [same]
  · exact .of ((MarksOp.resolveProgram s contents).move fun h => h.going busy)

theorem Moves.finishTaken (s : State) (slotRead : List Byte) : Moves s (s.finishTaken slotRead) :=
  (((Moves.of (.power s true)).trans (.finishCm _)).trans (.finishEval _)).trans (.resolveProgram _ _)

theorem Moves.warmDoors (s : State) : Moves s s.warmDoors := .foldl (fun (s : State) (p : Nat × Door) => s.setDoor p.1 p.2.warm) (fun s _ => .setDoor s _ _) s.eval.doors s

theorem Moves.fenceOff (s : State) : Moves s { s with settings := { s.settings with fence := false } } :=
  .of (.settings s _ id id nofun)

theorem Moves.started (s : State) (l : LinkId) : Moves s (s.setLink l (.started l)) := by
  refine .of (.setRing (fun _ => rfl) (fun _ => ⟨Nat.le_add_left 2 14, le_rfl, Nat.zero_lt_succ 15, Nat.zero_lt_succ 15⟩) ?_ nofun)
  exact Nat.zero_le _

theorem Group.warm_rest (g : Group) : g.warm.phase = .rest ∧ g.warm.entries = g.entries := by
  unfold Group.warm
  split <;> exact ⟨rfl, rfl⟩

theorem Moves.warmGroup (s : State) : Moves s { s with group := s.group.warm } :=
  .of (.setGroup s _ s.group.warm_rest.2 (by rw [s.group.warm_rest.1]; rfl))

theorem Moves.warmTables (s : State) : Moves s s.warmTables := by
  have swept : ∀ t : State, Moves t { t with clock := { t.clock with sweep := { position := none, pendingPass := false, passes := 0 } } } :=
    fun t => .sweep t _
  have lapsed : ∀ t : State, Moves t { t with cred := { t.cred with allowance := 0, waiting := [] } } := fun t =>
    (Moves.of (.allowance t 0 t.cred.allowanceDeadline fun _ => Nat.zero_le _)).trans (.waiting _ [])
  have emptied : ∀ t : State, Moves t { t with mini := { t.mini with tariffLock := false, sessions := [], idleDue := 0 } } :=
    fun t => (Moves.of (.mini t t.mini.rate false 0)).trans (.of (.emptyPool _))
  exact (((((((Moves.warmDoors s).trans (.fenceOff _)).trans (swept _)).trans (lapsed _)).trans (emptied _)).trans
    (.warmGroup _)).trans (.started _ .desk)).trans ((Moves.started _ .lock).trans (.started _ .audit))

theorem execWarmStart_goes (cause : WarmCause) (slotRead : List Byte) (s : State) : Goes s (execWarmStart cause slotRead s) := by
  refine .of_moves ?_
  split
  · exact .refl s
  · exact ((Moves.finishTaken s slotRead).trans (.warmTables _)).trans (.offerNow _ _ _)

theorem execScanComplete_goes (s : State) : Goes s (execScanComplete s) := by
  refine .of_moves ?_
  split
  · next ready =>
    have recovering : s.journal.state = .recovering := beq_iff_eq.mp (Bool.and_eq_true _ _ ▸ ready).2
    exact (Moves.of (.completeScan s recovering)).trans (.offerNow _ _ _)
  · exact .refl s

theorem execMainPowerLoss_goes (s : State) : Goes s (execMainPowerLoss s) := .of_moves (.of (.power s false))

end Sys2Proof.Machine
end

section
/-! PROOFS. Every step keeps the laws of the device (O1 to O6, O9, O10). -/

namespace Sys2Proof.Machine

/-- Every command goes on by a chain of guarded changes. -/
theorem exec_goes (i : Instr) (s : State) : Goes s (exec i s) := by
  cases i with
  | coldStart slotRead pageRead => exact execColdStart_goes slotRead pageRead s
  | warmStart cause slotRead => exact execWarmStart_goes cause slotRead s
  | scanComplete => exact execScanComplete_goes s
  | secondEvent => exact execSecondEvent_goes s
  | sweepKeyVisit => exact execSweepKeyVisit_goes s
  | sweepWatchVisit => exact execSweepWatchVisit_goes s
  | sweepAllowanceVisit => exact execSweepAllowanceVisit_goes s
  | idleTest => exact execIdleTest_goes s
  | setTime => exact execSetTime_goes s
  | timeQuery l => exact execTimeQuery_goes l s
  | zoneSet => exact execZoneSet_goes s
  | zoneLockdown => exact execZoneLockdown_goes s
  | zoneQuery l => exact execZoneQuery_goes l s
  | scheduleSet => exact execScheduleSet_goes s
  | scheduleQuery l => exact execScheduleQuery_goes l s
  | checkIn => exact execCheckIn_goes s
  | tallyOpen => exact execTallyOpen_goes s
  | checkOut => exact execCheckOut_goes s
  | tallyClose => exact execTallyClose_goes s
  | extendStay => exact execExtendStay_goes s
  | roomSetReady => exact execRoomSetReady_goes s
  | roomSetOut => exact execRoomSetOut_goes s
  | roomSetBack => exact execRoomSetBack_goes s
  | roomSetLabel => exact execRoomSetLabel_goes s
  | roomQuery l => exact execRoomQuery_goes l s
  | privacyOperation => exact execPrivacyOperation_goes s
  | issueKey => exact execIssueKey_goes s
  | confirmEncode => exact execConfirmEncode_goes s
  | cancelKey => exact execCancelKey_goes s
  | reportLost => exact execReportLost_goes s
  | keyQuery l => exact execKeyQuery_goes l s
  | watchAdd => exact execWatchAdd_goes s
  | watchRemove => exact execWatchRemove_goes s
  | watchQuery l => exact execWatchQuery_goes l s
  | emergencyAllow => exact execEmergencyAllow_goes s
  | present => exact execPresent_goes s
  | presentationOperation => exact execPresentationOperation_goes s
  | sessionOpen => exact execSessionOpen_goes s
  | doorReportClosed => exact execDoorReportClosed_goes s
  | doorReportHeldOpen => exact execDoorReportHeldOpen_goes s
  | doorReportForced => exact execDoorReportForced_goes s
  | doorReportPrivacyOn => exact execDoorReportPrivacyOn_goes s
  | doorReportPrivacyOff => exact execDoorReportPrivacyOff_goes s
  | doorSet => exact execDoorSet_goes s
  | minibarDoorAssignment => exact execMinibarDoorAssignment_goes s
  | minibarRelease => exact execMinibarRelease_goes s
  | doorSetSessionClose => exact execDoorSetSessionClose_goes s
  | doorQuery l => exact execDoorQuery_goes l s
  | minibarTake => exact execMinibarTake_goes s
  | minibarReturn => exact execMinibarReturn_goes s
  | minibarShut => exact execMinibarShut_goes s
  | priceSet => exact execPriceSet_goes s
  | rateSet => exact execRateSet_goes s
  | tariffLock => exact execTariffLock_goes s
  | tariffQuery l => exact execTariffQuery_goes l s
  | creditSet => exact execCreditSet_goes s
  | tallyQuery l => exact execTallyQuery_goes l s
  | groupLoad => exact execGroupLoad_goes s
  | groupPoint => exact execGroupPoint_goes s
  | groupStart => exact execGroupStart_goes s
  | groupCheckinStep => exact execGroupCheckinStep_goes s
  | groupPlaceHold => exact execGroupPlaceHold_goes s
  | groupIssueStep => exact execGroupIssueStep_goes s
  | entryBoundary => exact execEntryBoundary_goes s
  | groupHalt => exact execGroupHalt_goes s
  | groupAbort => exact execGroupAbort_goes s
  | groupQuery l => exact execGroupQuery_goes l s
  | stageRecord => exact execStageRecord_goes s
  | programStart => exact execProgramStart_goes s
  | programComplete readBack => exact execProgramComplete_goes readBack s
  | turn => exact execTurn_goes s
  | eraseStart => exact execEraseStart_goes s
  | eraseComplete pageRead => exact execEraseComplete_goes pageRead s
  | journalRead => exact execJournalRead_goes s
  | journalRelease => exact execJournalRelease_goes s
  | journalHealth l => exact execJournalHealth_goes l s
  | siteWrite => exact execSiteWrite_goes s
  | commission => exact execCommission_goes s
  | decommission => exact execDecommission_goes s
  | settingsSet => exact execSettingsSet_goes s
  | fenceDesk => exact execFenceDesk_goes s
  | unfenceDesk => exact execUnfenceDesk_goes s
  | identify l => exact execIdentify_goes l s
  | siteQuery l => exact execSiteQuery_goes l s
  | writeSlot l bytes => exact execWriteSlot_goes l bytes s
  | post l bytes => exact execPost_goes l bytes s
  | fetch l clocked => exact execFetch_goes l clocked s
  | status l clocked => exact execStatus_goes l clocked s
  | clear l bytes => exact execClear_goes l bytes s
  | ring l bytes => exact execRing_goes l bytes s
  | resume l bytes => exact execResume_goes l bytes s
  | linkReset l bytes => exact execLinkReset_goes l bytes s
  | unknownFrame l code bytes => exact execUnknownFrame_goes l code bytes s
  | takeRequest l => exact execTakeRequest_goes l s
  | placeReplyRecord l => exact execPlaceReplyRecord_goes l s
  | mainPowerLoss => exact execMainPowerLoss_goes s

/-- What a step leaves is reached from the state with what remains of the queue. -/
theorem step_moves {s t : State} (h : step s = .next t) : ∃ q, Moves { s with pending := q } t := by
  unfold step at h
  split at h
  · obtain rfl := Host.Outcome.next.inj h
    exact ⟨s.pending, .refl s⟩
  · next c rest _ =>
    obtain ⟨u, same, moves⟩ := exec_goes c { s with pending := rest }
    rw [h] at same
    exact ⟨rest, Host.Outcome.next.inj same ▸ moves⟩

/-- A law that every change keeps is kept by every step, when it does not speak of the queue. -/
theorem step_keeps {p : State → Prop} (change : ∀ s t, Move s t → p s → p t)
    (queue : ∀ s q, p s → p { s with pending := q }) {s t : State} (hs : p s) (h : step s = .next t) : p t := by
  obtain ⟨q, moves⟩ := step_moves h
  exact moves.keeps change (queue s q hs)

/-- As `step_keeps`, for a law that the changes keep under another. -/
theorem step_keeps_under {p q : State → Prop} (under : ∀ s t, Move s t → p s → p t)
    (change : ∀ s t, Move s t → p s → q s → q t) (queue : ∀ s r, p s ∧ q s → p { s with pending := r } ∧ q { s with pending := r })
    {s t : State} (hp : p s) (hq : q s) (h : step s = .next t) : q t := by
  obtain ⟨r, moves⟩ := step_moves h
  obtain ⟨hp', hq'⟩ := queue s r ⟨hp, hq⟩
  exact moves.keeps_under under change hp' hq'

theorem Move.keeps_lists_wf (s t : State) (m : Move s t) (h : s.tablesWf ∧ s.listsMatchKeys) : t.tablesWf ∧ t.listsMatchKeys :=
  ⟨m.keeps_tables h.1, m.keeps_lists h.1 h.2⟩

/-- Settles O1. -/
theorem stepRunsTheFrontCommandOrIdles : Obligations.StepRunsTheFrontCommandOrIdles := by
  refine ⟨fun s c rest waiting => ?_, fun s empty => ?_⟩
  · unfold step; rw [waiting]
  · unfold step; rw [empty]

/-- Settles O2: no change of a chain touches the queue. -/
theorem everyCommandAnswersNextAndKeepsTheQueue : Obligations.EveryCommandAnswersNextAndKeepsTheQueue := fun i s => by
  obtain ⟨t, same, moves⟩ := exec_goes i s
  exact ⟨t, same, moves.keeps (p := fun u => u.pending = s.pending) (fun _ _ m h => m.keeps_pending.trans h) rfl⟩

/-- Settles O3. -/
theorem everyStepKeepsTheTablesCanonical : Obligations.EveryStepKeepsTheTablesCanonical :=
  ⟨fun _ _ w h => step_keeps (fun _ _ m => m.keeps_tables) (fun _ _ => id) w h,
    fun _ _ w tallies h => step_keeps_under (fun _ _ m => m.keeps_tables) (fun _ _ m => m.keeps_tallies) (fun _ _ => id) w tallies h⟩

/-- Settles O4. -/
theorem everyStepKeepsTheReplyQueuesBounded : Obligations.EveryStepKeepsTheReplyQueuesBounded :=
  ⟨fun _ _ bounded h => step_keeps (fun _ _ m => m.keeps_places) (fun _ _ => id) bounded h,
    fun _ _ w pool h => step_keeps_under (fun _ _ m => m.keeps_tables) (fun _ _ m => m.keeps_pool) (fun _ _ => id) w pool h⟩

/-- Settles O5. -/
theorem everyStepKeepsTheRanges : Obligations.EveryStepKeepsTheRanges :=
  ⟨fun _ _ ranges h => step_keeps (fun _ _ m => m.keeps_ranges) (fun _ _ => id) ranges h,
    fun _ _ w marks h => step_keeps_under (fun _ _ m => m.keeps_tables) (fun _ _ m => m.keeps_marks) (fun _ _ => id) w marks h⟩

/-- Settles O9. -/
theorem everyStepKeepsTheKeyListsMatchingTheKeys : Obligations.EveryStepKeepsTheKeyListsMatchingTheKeys :=
  ⟨fun _ _ w lists h => step_keeps_under (fun _ _ m => m.keeps_tables) (fun _ _ m => m.keeps_lists) (fun _ _ => id) w lists h,
    fun _ _ w lists active h =>
      step_keeps_under Move.keeps_lists_wf (fun _ _ m => m.keeps_active) (fun _ _ => id) ⟨w, lists⟩ active h⟩

/-- Settles O10. -/
theorem everyStepKeepsLiveSerialsUniqueAndUnwatched : Obligations.EveryStepKeepsLiveSerialsUniqueAndUnwatched :=
  ⟨fun _ _ w serials h => step_keeps_under (fun _ _ m => m.keeps_tables) (fun _ _ m => m.keeps_serials) (fun _ _ => id) w serials h,
    fun _ _ w lists bounded h =>
      step_keeps_under Move.keeps_lists_wf (fun _ _ m => m.keeps_bounded) (fun _ _ => id) ⟨w, lists⟩ bounded h,
    fun _ _ w lists lawful h =>
      step_keeps_under Move.keeps_lists_wf (fun _ _ m => m.keeps_generations) (fun _ _ => id) ⟨w, lists⟩ lawful h⟩

/-- Settles O6: the state after reset holds no table entry. -/
theorem resetLeavesTheColdStartValues : Obligations.ResetLeavesTheColdStartValues := by
  have blankRooms : ∀ n, State.reset.room n = Room.blank := fun _ => rfl
  have noKeys : ∀ n, State.reset.key n = none := fun _ => rfl
  have active : State.reset.activeKeysInOccupiedRooms := fun n k hk => by rw [noKeys] at hk; cases hk
  have tallies : State.reset.talliesMatchRooms := fun _ => iff_of_false Bool.false_ne_true nofun
  have fence : State.reset.fenceFollowsTheDesk := fun on => nomatch on
  have links : ∀ l, (State.reset.link l).notices = 1#16 ∧ (State.reset.link l).replies = [] ∧
      (State.reset.link l).inProgress = none ∧ (State.reset.link l).len = 16 ∧ (State.reset.link l).attention = true := fun l => by
    cases l <;> exact ⟨rfl, rfl, rfl, rfl, by decide⟩
  refine ⟨⟨rfl, rfl, rfl, rfl, rfl, rfl, rfl, rfl, rfl, rfl, fun l => by cases l <;> rfl, fun _ he => absurd he List.not_mem_nil⟩,
    fun l => by cases l <;> exact Nat.zero_le 16, State.reset_inRanges, State.listsMatchKeys_empty rfl rfl rfl,
    State.serialsUnique_empty rfl, Nat.zero_le _, fun _ => Nat.zero_le _, State.generationsLawful_empty rfl,
    active, tallies, State.marksLawful_recovering rfl rfl fun _ => rfl, fence, rfl, rfl, rfl, rfl, rfl, rfl, noKeys,
    blankRooms, rfl, rfl, rfl, rfl, rfl, rfl, rfl, links⟩

end Sys2Proof.Machine
end

section
/-! PROOFS. The fence, replies, and tables (O7, O8, O11). -/

namespace Sys2Proof.Machine

/-! #### Replies in several records (R205) -/

/-- Part number `i` of `m`, from 0, of the parts numbered from `n` of a content (R205). -/
def partOf (tag : Byte) (st : Status) (kind m n : Nat) (content : List Byte) (i : Nat) : Reply :=
  replyRecord tag st kind
    (BitVec.ofNat 8 (if i + 1 = m then 0x80 + (n + i) else n + i) :: (content.drop (12 * i)).take 12)

theorem partOf_drop (tag : Byte) (st : Status) (kind m n : Nat) (content : List Byte) (i : Nat) :
    partOf tag st kind m (n + 1) (content.drop 12) i = partOf tag st kind (m + 1) n content (i + 1) := by
  have number : n + 1 + i = n + (i + 1) := by omega
  have last : i + 1 = m ↔ i + 1 + 1 = m + 1 := by omega
  have place : 12 + 12 * i = 12 * (i + 1) := by omega
  simp only [partOf, List.drop_drop, number, last, place]

theorem replyParts_eq (tag : Byte) (st : Status) (kind fuel n : Nat) {content : List Byte} (some : 0 < content.length)
    (enough : content.length ≤ 12 * fuel) :
    replyParts tag st kind fuel n content =
      (List.range ((content.length + 11) / 12)).map (partOf tag st kind ((content.length + 11) / 12) n content) := by
  induction fuel generalizing n content with
  | zero => omega
  | succ fuel ih =>
    unfold replyParts
    split
    · next short =>
      have one : (content.length + 11) / 12 = 1 := by omega
      have whole : content.take 12 = content := List.take_of_length_le short
      simp [one, partOf, whole]
    · next long =>
      have rest : (content.drop 12).length = content.length - 12 := List.length_drop
      have count : (content.length + 11) / 12 = ((content.drop 12).length + 11) / 12 + 1 := by omega
      have later : ¬ (0 + 1 = ((content.drop 12).length + 11) / 12 + 1) := by omega
      rw [ih (n + 1) (by omega) (by omega), count, List.range_succ_eq_map, List.map_cons, List.map_map]
      refine List.cons_eq_cons.mpr ⟨?_, List.map_congr_left fun i _ => partOf_drop ..⟩
      rw [partOf, if_neg later]
      rfl

theorem replyRecord_eq (tag : Byte) (st : Status) (kind : Nat) {content : List Byte} (short : content.length ≤ 13) :
    replyRecord tag st kind content =
      [tag, BitVec.ofNat 8 (statusCode st), BitVec.ofNat 8 kind] ++ content ++ List.replicate (13 - content.length) 0#8 := by
  rw [replyRecord, fitBytes, List.take_of_length_le short, List.append_assoc]

theorem partOf_eq (tag : Byte) (st : Status) (kind m : Nat) (content : List Byte) (i : Nat) :
    partOf tag st kind m 1 content i =
      [tag, BitVec.ofNat 8 (statusCode st), BitVec.ofNat 8 kind] ++ [BitVec.ofNat 8 (if i + 1 = m then 0x80 + m else i + 1)] ++
        (content.drop (12 * i)).take 12 ++ List.replicate (12 - ((content.drop (12 * i)).take 12).length) 0#8 := by
  have length : ((content.drop (12 * i)).take 12).length ≤ 12 := List.length_take_le ..
  have number : (if i + 1 = m then 0x80 + (1 + i) else 1 + i) = if i + 1 = m then 0x80 + m else i + 1 := by split <;> omega
  rw [partOf, replyRecord_eq _ _ _ (by rw [List.length_cons]; omega), number, List.length_cons]
  have fill : 13 - (((content.drop (12 * i)).take 12).length + 1) = 12 - ((content.drop (12 * i)).take 12).length := by omega
  rw [fill]
  simp

theorem Link.answerWith_discarded {k : Link} {r : Request} (h : k.inProgress = some r) (open_ : r.answered = false)
    (discarded : r.discard = true) (rs : List Reply) : k.answerWith rs = { k with inProgress := none } := by
  unfold Link.answerWith
  rw [h]
  cases rs with
  | nil => rfl
  | cons a rest => simp [open_, discarded]

theorem Link.answerWith_several {k : Link} {r : Request} (h : k.inProgress = some r) (open_ : r.answered = false)
    (kept : r.discard = false) (a : Reply) {rest : List Reply} (more : rest ≠ []) :
    k.answerWith (a :: rest) =
      { k with inProgress := some { r with phase := .placing rest }, replies := k.replies ++ [a] } := by
  unfold Link.answerWith
  rw [h]
  simp [open_, kept, more]

/-- Settles O8: a short reply is one record, a long one the series that `replyParts_eq` spells out. -/
theorem answerPlacesOneReplyRecord : Obligations.AnswerPlacesOneReplyRecord := by
  intro s l st fs r asked open_
  refine ⟨fun short kept => ?_, fun long kept => ?_, fun discarded => ?_⟩
  · rw [State.answer_short s l st fs r asked open_ kept short, replyRecord_eq _ _ _ short]
  · obtain ⟨m, hm⟩ : ∃ m, (fieldBytes fs).length = m := ⟨_, rfl⟩
    have parts := replyParts_eq r.tag st (kindCode r.kind) (fieldBytes fs).length 1 (content := fieldBytes fs) (by omega) (by omega)
    obtain ⟨count, several⟩ : ∃ c, ((fieldBytes fs).length + 11) / 12 = c + 2 := ⟨((fieldBytes fs).length + 11) / 12 - 2, by omega⟩
    dsimp only
    rw [State.answer_some s l st fs r asked, replySeries, if_neg (by omega), parts, several, List.range_succ_eq_map,
      List.map_cons, List.map_map, Link.answerWith_several asked open_ kept _ (by simp)]
    simp only [partOf_eq, Function.comp_def, Nat.succ_eq_add_one]
    rfl
  · rw [State.answer_some s l st fs r asked, Link.answerWith_discarded asked open_ discarded]

/-! #### Tables -/

/-- Settles O11. -/
theorem tableWritesReadBack : Obligations.TableWritesReadBack := fun _ n w =>
  ⟨fun r => ⟨tableLook_put_same _ _ n r w.rooms, fun m hm => tableLook_put_other _ _ n m r hm, rfl⟩,
    fun k => ⟨tableLook_put_same _ _ n k w.keys, fun m hm => tableLook_put_other _ _ n m k hm, rfl⟩,
    fun d => ⟨tableLook_put_same _ _ n d w.doors, fun m hm => tableLook_put_other _ _ n m d hm, rfl⟩,
    fun t => ⟨tableLook_put_same _ _ n t w.tallies, fun m hm => tableLook_put_other _ _ n m t hm, rfl⟩,
    fun x => ⟨tableLook_put_same _ _ n x w.sessions, fun m hm => tableLook_put_other _ _ n m x hm, rfl⟩,
    fun e => ⟨tableLook_put_same _ _ n e w.entries, fun m hm => tableLook_put_other _ _ n m e hm, rfl⟩⟩

/-! #### The fence (R181) -/

/-- What the fence waits for before it answers a Desk request of a row: that the owning block takes it. -/
def State.deskReady (s : State) (i : Instr) (k : ReqKind) (fs : List Byte) : Prop :=
  (credentialKind k = true → s.cmTakes .desk = true) ∧
  (k = .doorSet ∨ k = .doorQuery → s.eval.op = none) ∧
  (k = .journalHealth → s.journal.writer ≠ .programming ∧ ∀ p forTurn, s.journal.writer ≠ .erasing p forTurn) ∧
  (∀ a, rowAction i = some a → fieldAt fs 2 1 = a ∨ 3 < fieldAt fs 2 1)

/-- A row of the Desk serves its request when its block is ready, and not before. -/
def DeskRow (i : Instr) (k : ReqKind) (s : State) : Prop :=
  ∃ (ready : Bool) (body : List Byte → State → State),
    exec i s = .next (s.serveFrom .desk k ready (if credentialKind k then s.taking else s) body) ∧
    ∀ fs, s.serving .desk k = some fs → (ready = true ↔ s.deskReady i k fs)

theorem DeskRow.waits {i : Instr} {k : ReqKind} {s : State} (row : DeskRow i k s) (h : s.serving .desk k = none) :
    exec i s = .next s := by
  obtain ⟨ready, body, serves, -⟩ := row
  rw [serves, State.serveFrom_none _ _ _ _ _ _ h]

theorem DeskRow.fenced {i : Instr} {k : ReqKind} {s : State} (row : DeskRow i k s) (on : s.settings.fence = true)
    {fs : List Byte} (h : s.serving .desk k = some fs) (isReady : s.deskReady i k fs) :
    exec i s = .next ((if credentialKind k then s.taking else s).answer .desk .fenced
      ((if credentialKind k then s.taking else s).refusalFields k fs)) := by
  obtain ⟨ready, body, serves, ready_iff⟩ := row
  have fence : (if credentialKind k then s.taking else s).fenced .desk = true := by
    cases credentialKind k <;> exact on
  rw [serves, (ready_iff fs h).mpr isReady, State.serveFrom_fenced _ _ _ _ _ _ h fence]

theorem DeskRow.busy {i : Instr} {k : ReqKind} {s : State} (row : DeskRow i k s) {fs : List Byte}
    (h : s.serving .desk k = some fs) (busy : ¬ s.deskReady i k fs) : exec i s = .next s := by
  obtain ⟨ready, body, serves, ready_iff⟩ := row
  have no : ready = false := Bool.eq_false_of_not_eq_true fun yes => busy ((ready_iff fs h).mp yes)
  rw [serves, no, State.serveFrom_notReady]

/-- A row of a block that completes each request in the step that takes it. -/
theorem DeskRow.of_serve {i : Instr} {k : ReqKind} {s : State} (body : List Byte → State → State)
    (serves : exec i s = .next (s.serve .desk k body)) (kind : credentialKind k = false)
    (plain : k ≠ .doorSet ∧ k ≠ .doorQuery ∧ k ≠ .journalHealth) (action : rowAction i = none) : DeskRow i k s :=
  ⟨true, body, by rw [serves, kind]; rfl, fun _ _ => by simp [State.deskReady, kind, plain, action]⟩

/-- A row of the Credential Manager. -/
theorem DeskRow.of_serveCm {i : Instr} {k : ReqKind} {s : State} (body : List Byte → State → State)
    (serves : exec i s = .next (s.serveCm .desk k body)) (kind : credentialKind k = true)
    (plain : k ≠ .doorSet ∧ k ≠ .doorQuery ∧ k ≠ .journalHealth) (action : rowAction i = none) : DeskRow i k s :=
  ⟨s.cmTakes .desk, body, by rw [serves, kind]; rfl, fun _ _ => by simp [State.deskReady, kind, plain, action]⟩

/-- A ROOM_SET row of an action code. -/
theorem DeskRow.of_serveRoomSet {i : Instr} {s : State} (a : Nat) (body : Nat → List Byte → State → State)
    (serves : exec i s = .next (s.serveRoomSet a body)) (action : rowAction i = some a) : DeskRow i .roomSet s := by
  unfold State.serveRoomSet at serves
  exact ⟨_, _, serves, fun fs h => by simp [State.deskReady, credentialKind, action, h]⟩

/-- A row of the Access Evaluator. -/
theorem DeskRow.of_serveEval {i : Instr} {k : ReqKind} {s : State} (body : List Byte → State → State)
    (serves : exec i s = .next (s.serveEval .desk k body)) (kind : k = .doorSet ∨ k = .doorQuery) (action : rowAction i = none) :
    DeskRow i k s := by
  have own : credentialKind k = false := by obtain rfl | rfl := kind <;> rfl
  have other : k ≠ .journalHealth := by obtain rfl | rfl := kind <;> decide
  exact ⟨s.eval.op.isNone, body, by rw [serves, own]; rfl, fun _ _ => by simp [State.deskReady, own, kind, other, action]⟩

/-- The JOURNAL_HEALTH row. -/
theorem DeskRow.of_serveJournal {i : Instr} {s : State} (body : List Byte → State → State)
    (serves : exec i s = .next (s.serveJournal .desk .journalHealth body)) (action : rowAction i = none) :
    DeskRow i .journalHealth s := by
  refine ⟨!s.journal.writer.busy, body, serves, fun _ _ => ?_⟩
  rw [Bool.not_eq_true', ← Bool.not_eq_true, s.journal.writer.busy_iff, not_or, not_exists]
  simp [State.deskReady, credentialKind, action]

/-- Every command that names a Desk request is a row of the Desk. -/
theorem deskRow {i : Instr} {k : ReqKind} (s : State) (h : rowRequest i = some (k, .desk)) : DeskRow i k s := by
  cases i <;> cases h
  case setTime | timeQuery | zoneSet | zoneQuery | scheduleSet | scheduleQuery | priceSet | rateSet | tariffQuery
      | creditSet | tallyQuery | groupLoad | groupPoint | groupStart | groupHalt | groupAbort | groupQuery | siteWrite
      | commission | settingsSet | identify | siteQuery => exact .of_serve _ rfl rfl (by decide) rfl
  case checkIn | checkOut | extendStay | roomQuery | issueKey | confirmEncode | cancelKey | reportLost | keyQuery
      | watchAdd | watchRemove | watchQuery => exact .of_serveCm _ rfl rfl (by decide) rfl
  case roomSetReady | roomSetOut | roomSetBack | roomSetLabel => exact .of_serveRoomSet _ _ rfl rfl
  case doorSet => exact .of_serveEval _ rfl (.inl rfl) rfl
  case doorQuery => exact .of_serveEval _ rfl (.inr rfl) rfl
  case journalHealth => exact .of_serveJournal _ rfl rfl

/-- Settles O7: every command that names a Desk request serves it as a row of the Desk. -/
theorem deskFenceAnswersFencedAndChangesNothing : Obligations.DeskFenceAnswersFencedAndChangesNothing := by
  intro i k s row on
  refine ⟨(deskRow s row).waits, fun fs h => ⟨fun ready cm => ?_, fun ready other => ?_, fun busy => (deskRow s row).busy h busy⟩⟩
  · rw [(deskRow s row).fenced on h ready, if_pos cm]
    rfl
  · rw [(deskRow s row).fenced on h ready, if_neg (by rw [other]; decide)]
    rfl

end Sys2Proof.Machine
end

section
/-! PROOFS. The Site Clock: its events, SET_TIME, the queries, zones and schedules (O13 to O16). -/

namespace Sys2Proof.Machine

/-! #### Second and minute events (R1, R14) -/

theorem exec_secondEvent_powered {s : State} (on : s.powered = true) (runs : s.clock.isSet = true) :
    exec .secondEvent s = .next
      (let t := { s with clock := s.clock.tick, mini := { s.mini with idleDue := s.mini.idleDue + 1 } }
       if s.clock.second < 59 then t else t.minuteEvent) := by
  change execSecondEvent s = _
  simp only [execSecondEvent, runs, on, if_true]

theorem Clock.tick_below {c : Clock} (below : c.second < 59) : c.tick = { c with second := c.second + 1 } := if_pos below

theorem Clock.tick_at {c : Clock} (at59 : c.second = 59) : c.tick = { c with second := 0, minute := min (c.minute + 1) 4294967295 } :=
  if_neg (by omega)

theorem State.minuteEvent_idle {s : State} (idle : s.clock.sweep.position = none) :
    s.minuteEvent = { s with
      clock := { s.clock with sweep := { s.clock.sweep with position := some (.key 0) } }
      cred := { s.cred with waiting := s.cred.waiting ++ [.sweep] } } := by
  rw [State.minuteEvent, idle]
  rfl

theorem State.minuteEvent_running {s : State} (running : s.clock.sweep.position ≠ none) :
    s.minuteEvent = { s with clock := { s.clock with sweep := { s.clock.sweep with pendingPass := true } } } := by
  obtain ⟨p, at_p⟩ := Option.ne_none_iff_exists'.mp running
  rw [State.minuteEvent, at_p]

/-- Settles O13. -/
theorem secondAndMinuteEventsStepTheClockAndSweep : Obligations.SecondAndMinuteEventsStepTheClockAndSweep := by
  refine ⟨fun s on => ⟨fun stopped => ?_, fun runs below => ?_, fun runs at59 => ?_⟩,
    fun s => ⟨State.minuteEvent_idle, State.minuteEvent_running⟩⟩
  · change execSecondEvent s = _
    rw [execSecondEvent, stopped]
    rfl
  · rw [exec_secondEvent_powered on runs, if_pos below, Clock.tick_below below]
  · rw [exec_secondEvent_powered on runs, if_neg (by omega), Clock.tick_at at59]

/-! #### SET_TIME (R3, R4) -/

theorem exec_setTime_refused {s : State} {fs : List Byte} {st : Status} (h : s.asked .desk .setTime fs)
    (refused : s.setTimeRefusal (fieldAt fs 0 4) (fieldAt fs 4 1) = some st) :
    exec .setTime s = .next (s.answer .desk st [.num 4 s.clock.minute, .num 1 s.clock.second]) := by
  change execSetTime s = _
  simp only [execSetTime, State.serve_asked h, refused]
  rfl

theorem exec_setTime_accepted {s : State} {fs : List Byte} (h : s.asked .desk .setTime fs)
    (accepted : s.setTimeRefusal (fieldAt fs 0 4) (fieldAt fs 4 1) = none) :
    exec .setTime s = .next
      (let s1 := { s with clock := s.clock.setTo (fieldAt fs 0 4) (fieldAt fs 4 1) }
       let s2 := if fieldAt fs 0 4 = s.clock.minute then s1 else s1.minuteEvent
       ((s2.offerNow .siteClock (.timeSet s.clock.minute (fieldAt fs 0 4) s.clock.second (fieldAt fs 4 1))).raise
          .timeSet).answer .desk .ok
          [.num 4 s.clock.minute, .num 4 (fieldAt fs 0 4), .num 1 s.clock.second, .num 1 (fieldAt fs 4 1)]) := by
  change execSetTime s = _
  simp only [execSetTime, State.serve_asked h, accepted]

theorem State.setTimeRefusal_back {s : State} {m x : Nat} (fits : x ≤ 59)
    (back : s.settings.service = .inService ∧ m * 60 + x + 900 < s.clock.minute * 60 + s.clock.second) :
    s.setTimeRefusal m x = some .timeBackward :=
  (if_neg (Nat.not_lt.mpr fits)).trans (if_pos back)

theorem State.setTimeRefusal_forward {s : State} {m x : Nat} (fits : x ≤ 59)
    (forward : ¬ (s.settings.service = .inService ∧ m * 60 + x + 900 < s.clock.minute * 60 + s.clock.second)) :
    s.setTimeRefusal m x = none :=
  (if_neg (Nat.not_lt.mpr fits)).trans (if_neg forward)

theorem State.minuteEvent_clock (s : State) : s.minuteEvent.clock.minute = s.clock.minute ∧ s.minuteEvent.clock.second = s.clock.second := by
  unfold State.minuteEvent
  split <;> exact ⟨rfl, rfl⟩

/-- Settles O14. -/
theorem setTimeSetsTheClockOrRefuses : Obligations.SetTimeSetsTheClockOrRefuses := by
  intro s fs h
  refine ⟨fun late => exec_setTime_refused h (if_pos late),
    fun fits back => exec_setTime_refused h (State.setTimeRefusal_back fits back), fun fits forward => ?_⟩
  · rw [exec_setTime_accepted h (State.setTimeRefusal_forward fits forward)]
    by_cases same : fieldAt fs 0 4 = s.clock.minute
    · simp only [if_pos same]
      rfl
    · simp only [if_neg same]
      obtain ⟨minute, second⟩ := State.minuteEvent_clock { s with clock := s.clock.setTo (fieldAt fs 0 4) (fieldAt fs 4 1) }
      rw [State.offerNow, minute, second]
      rfl

/-! #### Queries (R5, R13, R37, R61, R67, R73) -/

theorem weekdayOf_eq (site : Option SiteRecord) (m : Nat) : weekdayOf site m = (m / 1440 + site.elim 0 SiteRecord.epoch) % 7 := by
  cases site <;> rfl

theorem exec_timeQuery_asked {s : State} {l : LinkId} {fs : List Byte} (h : s.asked l .timeQuery fs) :
    exec (.timeQuery l) s = .next
      (s.answer l .ok
        [.num 4 s.clock.minute, .num 1 s.clock.second, .flag s.clock.isSet, .num 3 (s.clock.minute / 1440),
         .num 2 (s.clock.minute % 1440), .num 1 ((s.clock.minute / 1440 + s.settings.record.elim 0 SiteRecord.epoch) % 7),
         .num 1 (if s.clock.sweep.position = none then 0 else 1), .flag s.clock.sweep.pendingPass,
         .num 2 s.clock.sweep.passes]) := by
  change execTimeQuery l s = _
  have sweeping : (if s.clock.sweep.position.isSome then 1 else 0) = if s.clock.sweep.position = none then 0 else 1 := by
    cases s.clock.sweep.position <;> rfl
  simp only [execTimeQuery, State.serve_asked h, weekdayOf_eq, sweeping]
  rfl

theorem exec_zoneQuery_asked {s : State} {l : LinkId} {fs : List Byte} (h : s.asked l .zoneQuery fs) :
    exec (.zoneQuery l) s = .next
      (if 15 < fieldAt fs 0 1 then s.answer l .badField []
      else s.answer l .ok
        [.num 2 (s.zone (fieldAt fs 0 1)).band.opens, .num 2 (s.zone (fieldAt fs 0 1)).band.closes,
         .flag (s.zone (fieldAt fs 0 1)).guestAllowed, .flag (s.zone (fieldAt fs 0 1)).lockdown]) := by
  change execZoneQuery l s = _
  rw [execZoneQuery, State.serve_asked h]

theorem exec_scheduleQuery_asked {s : State} {l : LinkId} {fs : List Byte} (h : s.asked l .scheduleQuery fs) :
    exec (.scheduleQuery l) s = .next
      (if 15 < fieldAt fs 0 1 then s.answer l .badField [] else s.answer l .ok (s.scheduleFields (fieldAt fs 0 1))) := by
  change execScheduleQuery l s = _
  rw [execScheduleQuery, State.serve_asked h]

theorem exec_roomQuery_asked {s : State} {l : LinkId} {fs : List Byte} (h : s.askedCm l .roomQuery fs) :
    exec (.roomQuery l) s = .next
      (if 512 ≤ fieldAt fs 0 2 ∨ 1 < fieldAt fs 2 1 then s.taking.answer l .badField []
      else if fieldAt fs 2 1 = 0 then s.taking.answer l .ok (s.stayFields (fieldAt fs 0 2))
      else s.taking.answer l .ok (s.keyListFields (fieldAt fs 0 2))) := by
  change execRoomQuery l s = _
  rw [execRoomQuery, State.serveCm_asked h]
  dsimp only
  rw [apply_ite (s.cmPop.answer l .ok)]
  rfl

theorem exec_keyQuery_asked {s : State} {l : LinkId} {fs : List Byte} (h : s.askedCm l .keyQuery fs) :
    exec (.keyQuery l) s = .next
      (if 2048 ≤ fieldAt fs 0 2 then s.taking.answer l .badField []
      else s.taking.answer l .ok (s.keyFields (fieldAt fs 0 2))) := by
  change execKeyQuery l s = _
  rw [execKeyQuery, State.serveCm_asked h]
  rfl

theorem State.keyFields_none {s : State} {n : Nat} (free : s.key n = none) : s.keyFields n = .num 1 0 :: s.keyCounts := by
  rw [State.keyFields, free]
  rfl

theorem State.keyFields_some {s : State} {n : Nat} {k : KeyRec} (is : s.key n = some k) :
    s.keyFields n =
      [.num 1 (keyViewCode (keyView (some k))), .num 1 (keyKindCode (kindOfRights k.rights)), .num 4 k.issued] ++
        s.imageFields n k ++ [.num 4 k.start, .num 4 k.stop] ++ s.rightsFields n k.rights ++ statusFields k.status ++
        [optField 1 k.origin] ++ s.keyCounts := by
  rw [State.keyFields, is]

/-- What a WATCH_QUERY reply says of the serial (R67). -/
def watchQueryFields (serial : Nat) (w : List WatchEntry) : List Field :=
  match watchFind serial 0 w with
  | none => [.flag false]
  | some (i, e) => [.flag true, .num 1 i, .num 4 e.untilMinute, .num 1 (watchReasonCode e.reason)]

theorem exec_watchQuery_asked {s : State} {l : LinkId} {fs : List Byte} (h : s.askedCm l .watchQuery fs) :
    exec (.watchQuery l) s = .next
      (s.taking.answer l .ok
        ([.num 2 s.cred.watch.length, optField 4 ((watchEarliest s.cred.watch).map WatchEntry.untilMinute)] ++
          watchQueryFields (fieldAt fs 0 4) s.cred.watch)) := by
  change execWatchQuery l s = _
  rw [execWatchQuery, State.serveCm_asked h]
  rfl

theorem exec_doorQuery_asked {s : State} {l : LinkId} {fs : List Byte} (h : s.askedEval l .doorQuery fs) :
    exec (.doorQuery l) s = .next
      (if 768 ≤ fieldAt fs 0 2 then s.answer l .badField [] else s.answer l .ok (s.doorFields (fieldAt fs 0 2))) := by
  change execDoorQuery l s = _
  rw [execDoorQuery, State.serveEval_asked h]
  rfl

/-- Settles O15, query by query. -/
theorem clockRoomKeyAndDoorQueriesChangeNothing : Obligations.ClockRoomKeyAndDoorQueriesChangeNothing := by
  refine ⟨fun s l fs => ⟨exec_timeQuery_asked, exec_zoneQuery_asked, exec_scheduleQuery_asked⟩, fun s l fs h => ?_,
    fun s l fs => ⟨fun h => ⟨fun beyond => ?_, fun below free => ?_, fun k below is => ?_⟩,
      fun h => ⟨fun absent => ?_, fun front e back list found absent => ?_⟩⟩, fun s l fs => exec_doorQuery_asked⟩
  · rw [exec_roomQuery_asked h, State.stayFields]
    dsimp only [Room.running]
    cases (s.room (fieldAt fs 0 2)).stay <;> rfl
  · rw [exec_keyQuery_asked h, if_pos beyond]
  · rw [exec_keyQuery_asked h, if_neg (Nat.not_le.mpr below), State.keyFields_none free]
    rfl
  · rw [exec_keyQuery_asked h, if_neg (Nat.not_le.mpr below), State.keyFields_some is]
    rfl
  · rw [exec_watchQuery_asked h, watchQueryFields, watchFind_eq_none absent]
  · rw [exec_watchQuery_asked h, watchQueryFields, list, watchFind_append_cons found absent, Nat.zero_add]

/-! #### Zones (R9, R10) -/

theorem State.zone_setZone_same {s : State} (w : s.tablesWf) (n : Nat) (z : Zone) : (s.setZone n z).zone n = z :=
  tableLook_put_same _ _ n z w.zones

theorem State.zone_setZone_other (s : State) {n m : Nat} (z : Zone) (h : m ≠ n) : (s.setZone n z).zone m = s.zone m :=
  tableLook_put_other _ _ n m z h

theorem State.zoneSetRefusal_unprovisioned {s : State} {z o c g : Nat} (fits : ¬ (15 < z ∨ 1439 < o ∨ 1440 < c ∨ 1 < g))
    (unprovisioned : s.settings.service = .unprovisioned) : s.zoneSetRefusal z o c g = some .notReady :=
  (if_neg fits).trans (if_pos unprovisioned)

theorem State.zoneSetRefusal_none {s : State} {z o c g : Nat} (fits : ¬ (15 < z ∨ 1439 < o ∨ 1440 < c ∨ 1 < g))
    (provisioned : s.settings.service ≠ .unprovisioned) : s.zoneSetRefusal z o c g = none :=
  (if_neg fits).trans (if_neg provisioned)

theorem exec_zoneSet_refused {s : State} {fs : List Byte} {st : Status} (h : s.asked .desk .zoneSet fs)
    (refused : s.zoneSetRefusal (fieldAt fs 0 1) (fieldAt fs 1 2) (fieldAt fs 3 2) (fieldAt fs 5 1) = some st) :
    exec .zoneSet s = .next (s.answer .desk st []) := by
  change execZoneSet s = _
  simp only [execZoneSet, State.serve_asked h, refused]

theorem exec_zoneSet_accepted {s : State} {fs : List Byte} (h : s.asked .desk .zoneSet fs)
    (accepted : s.zoneSetRefusal (fieldAt fs 0 1) (fieldAt fs 1 2) (fieldAt fs 3 2) (fieldAt fs 5 1) = none) :
    exec .zoneSet s = .next
      ((s.setZone (fieldAt fs 0 1)
        { s.zone (fieldAt fs 0 1) with
          band := { opens := fieldAt fs 1 2, closes := fieldAt fs 3 2 }, guestAllowed := fieldAt fs 5 1 == 1 }).answer .desk .ok
        [.num 2 (fieldAt fs 1 2), .num 2 (fieldAt fs 3 2), .flag (fieldAt fs 5 1 == 1)]) := by
  change execZoneSet s = _
  simp only [execZoneSet, State.serve_asked h, accepted]

theorem State.lockdownRefusal_unprovisioned {s : State} {z v : Nat} (fits : ¬ (15 < z ∨ 1 < v))
    (unprovisioned : s.settings.service = .unprovisioned) : s.lockdownRefusal z v = some .notReady :=
  (if_neg fits).trans (if_pos unprovisioned)

theorem State.lockdownRefusal_none {s : State} {z v : Nat} (fits : ¬ (15 < z ∨ 1 < v))
    (provisioned : s.settings.service ≠ .unprovisioned) : s.lockdownRefusal z v = none :=
  (if_neg fits).trans (if_neg provisioned)

theorem exec_zoneLockdown_refused {s : State} {fs : List Byte} {st : Status} (h : s.asked .audit .zoneLockdown fs)
    (refused : s.lockdownRefusal (fieldAt fs 0 1) (fieldAt fs 1 1) = some st) :
    exec .zoneLockdown s = .next (s.answer .audit st []) := by
  change execZoneLockdown s = _
  simp only [execZoneLockdown, State.serve_asked h, refused]

theorem exec_zoneLockdown_accepted {s : State} {fs : List Byte} (h : s.asked .audit .zoneLockdown fs)
    (accepted : s.lockdownRefusal (fieldAt fs 0 1) (fieldAt fs 1 1) = none) :
    exec .zoneLockdown s = .next
      ((if (s.zone (fieldAt fs 0 1)).lockdown = (fieldAt fs 1 1 == 1) then s
        else (s.setZone (fieldAt fs 0 1) { s.zone (fieldAt fs 0 1) with lockdown := fieldAt fs 1 1 == 1 }).offerNow .siteClock
          (.security (.lockdownChange (fieldAt fs 0 1) (fieldAt fs 1 1 == 1)))).answer .audit .ok
        [.flag (fieldAt fs 1 1 == 1)]) := by
  change execZoneLockdown s = _
  simp only [execZoneLockdown, State.serve_asked h, accepted]

/-! #### Schedules (R12) -/

/-- The bands written over a list of weekdays: the flagged ones of the schedule take the band, the others stay. -/
theorem foldl_setBand (n mask : Nat) (b : Band) (ws : List Nat) (weekdays : ∀ y ∈ ws, y ≤ 6) (s : State)
    (wf : tableWf Band.blank s.clock.schedules = true) (m w : Nat) (weekday : w ≤ 6) :
    (ws.foldl (fun s w => if mask.testBit w then s.setBand n w b else s) s).band m w =
      if m = n ∧ w ∈ ws ∧ mask.testBit w then b else s.band m w := by
  induction ws generalizing s with
  | nil => simp
  | cons y ws ih =>
    obtain ⟨hy, rest⟩ := List.forall_mem_cons.mp weekdays
    rw [List.foldl_cons]
    by_cases flagged : mask.testBit y = true
    · have wf' : tableWf Band.blank (s.setBand n y b).clock.schedules = true := tablePut_wf _ _ _ _ wf
      have here : (s.setBand n y b).band m w = if m = n ∧ w = y then b else s.band m w := by
        split
        · next at_y => rw [at_y.1, at_y.2]; exact tableLook_put_same _ _ _ _ wf
        · next other => exact tableLook_put_other _ _ _ _ _ fun same => other (by omega)
      rw [if_pos flagged, ih rest _ wf', here]
      grind
    · rw [if_neg flagged, ih rest s wf]
      grind

theorem State.writeSchedule_band {s : State} (wf : s.tablesWf) (n mask : Nat) (b : Band) (m w : Nat) (weekday : w ≤ 6) :
    (s.writeSchedule n mask b).band m w = if m = n ∧ mask.testBit w then b else s.band m w := by
  have inRange : w ∈ List.range 7 := List.mem_range.mpr (by omega)
  rw [State.writeSchedule, foldl_setBand n mask b (List.range 7) (by decide) s wf.schedules m w weekday]
  simp only [inRange, true_and]

theorem State.writeSchedule_frame (s : State) (n mask : Nat) (b : Band) :
    s.writeSchedule n mask b =
      { s with clock := { s.clock with schedules := (s.writeSchedule n mask b).clock.schedules } } := by
  unfold State.writeSchedule
  induction List.range 7 generalizing s with
  | nil => rfl
  | cons w ws ih =>
    rw [List.foldl_cons, ih]
    split <;> rfl

theorem State.scheduleRefusal_unprovisioned {s : State} {n mask o c : Nat}
    (fits : ¬ (15 < n ∨ mask = 0 ∨ 127 < mask ∨ 1439 < o ∨ 1440 < c)) (unprovisioned : s.settings.service = .unprovisioned) :
    s.scheduleRefusal n mask o c = some .notReady :=
  (if_neg fits).trans (if_pos unprovisioned)

theorem State.scheduleRefusal_none {s : State} {n mask o c : Nat}
    (fits : ¬ (15 < n ∨ mask = 0 ∨ 127 < mask ∨ 1439 < o ∨ 1440 < c)) (provisioned : s.settings.service ≠ .unprovisioned) :
    s.scheduleRefusal n mask o c = none :=
  (if_neg fits).trans (if_neg provisioned)

theorem exec_scheduleSet_refused {s : State} {fs : List Byte} {st : Status} (h : s.asked .desk .scheduleSet fs)
    (refused : s.scheduleRefusal (fieldAt fs 0 1) (fieldAt fs 1 1) (fieldAt fs 2 2) (fieldAt fs 4 2) = some st) :
    exec .scheduleSet s = .next (s.answer .desk st []) := by
  change execScheduleSet s = _
  simp only [execScheduleSet, State.serve_asked h, refused]

theorem exec_scheduleSet_accepted {s : State} {fs : List Byte} (h : s.asked .desk .scheduleSet fs)
    (accepted : s.scheduleRefusal (fieldAt fs 0 1) (fieldAt fs 1 1) (fieldAt fs 2 2) (fieldAt fs 4 2) = none) :
    exec .scheduleSet s = .next
      (let t := s.writeSchedule (fieldAt fs 0 1) (fieldAt fs 1 1) { opens := fieldAt fs 2 2, closes := fieldAt fs 4 2 }
       t.answer .desk .ok (t.scheduleFields (fieldAt fs 0 1))) := by
  change execScheduleSet s = _
  simp only [execScheduleSet, State.serve_asked h, accepted]

/-- Settles O16: ZONE_SET, ZONE_LOCKDOWN and SCHEDULE_SET, each by its refusals and its write. -/
theorem zoneAndScheduleRequestsWriteTheirRecords : Obligations.ZoneAndScheduleRequestsWriteTheirRecords := by
  refine ⟨fun s fs h => ⟨fun bad => exec_zoneSet_refused h (if_pos bad),
      fun fits u => exec_zoneSet_refused h (State.zoneSetRefusal_unprovisioned fits u), fun fits p => ?_⟩,
    fun s fs h => ⟨fun bad => exec_zoneLockdown_refused h (if_pos bad),
      fun fits u => exec_zoneLockdown_refused h (State.lockdownRefusal_unprovisioned fits u), fun fits p same => ?_,
      fun fits p change => ?_⟩,
    fun s fs h => ⟨fun bad => exec_scheduleSet_refused h (if_pos bad),
      fun fits u => exec_scheduleSet_refused h (State.scheduleRefusal_unprovisioned fits u), fun fits p => ?_⟩⟩
  · exact ⟨_, exec_zoneSet_accepted h (State.zoneSetRefusal_none fits p), rfl, fun w => State.zone_setZone_same w _ _,
      fun n other => State.zone_setZone_other s _ other⟩
  · rw [exec_zoneLockdown_accepted h (State.lockdownRefusal_none fits p), if_pos same]
  · rw [exec_zoneLockdown_accepted h (State.lockdownRefusal_none fits p), if_neg change]
    exact ⟨_, rfl, rfl, fun w => State.zone_setZone_same w _ _, fun n other => State.zone_setZone_other s _ other⟩
  · exact ⟨_, exec_scheduleSet_accepted h (State.scheduleRefusal_none fits p), State.writeSchedule_frame .., fun w m x _ weekday =>
      State.writeSchedule_band w _ _ _ m x weekday⟩

end Sys2Proof.Machine
end

section
/-! PROOFS. The sweep's visits (O17, O18). -/

namespace Sys2Proof.Machine

/-! #### A visit to a key number (R16) -/

theorem exec_sweepKeyVisit_taken {s : State} {n : Nat} (at_n : s.clock.sweep.position = some (.key n))
    (takes : s.cmTakes .sweep = true) :
    exec .sweepKeyVisit s = .next ((s.cmPop.sweepKey n).sweepNext (if n < 2047 then .key (n + 1) else .watch)) := by
  change execSweepKeyVisit s = _
  have next : n + 1 < Config.keys ↔ n < 2047 := Nat.succ_lt_succ_iff
  simp only [execSweepKeyVisit, at_n, takes, if_true, next]

theorem State.sweepKey_free {s : State} {n : Nat} (free : s.key n = none) : s.sweepKey n = s := by
  rw [State.sweepKey, free]

theorem State.sweepKey_live {s : State} {n serial : Nat} {k : KeyRec} (is : s.key n = some k) (live : k.status = .live serial) :
    s.sweepKey n =
      if s.keyDue k ≤ s.clock.minute then (s.cancelKey n k .expired).credOffer (.keyExpired n false) else s := by
  simp only [State.sweepKey, is, live]

theorem State.sweepKey_pending {s : State} {n deadline : Nat} {k : KeyRec} (is : s.key n = some k)
    (pending : k.status = .pending deadline) :
    s.sweepKey n =
      if deadline ≤ s.clock.minute then ((s.freeKey n k).credOffer (.keyExpired n true)).raise .encodeLapsed else s := by
  simp only [State.sweepKey, is, pending]

theorem State.sweepKey_cancelled {s : State} {n minute : Nat} {k : KeyRec} {reason : CancelReason} {serial : Option Nat}
    (is : s.key n = some k) (cancelled : k.status = .cancelled reason minute serial) :
    s.sweepKey n = if minute + 1440 ≤ s.clock.minute then s.setKey n none else s := by
  simp only [State.sweepKey, is, cancelled]

/-- What a visit to a key number can write. -/
def sweepsKey (s t : State) : Prop :=
  ∃ rooms keys offers notices,
    t = { s with
      cred := { s.cred with rooms := rooms, keys := keys }
      journal := { s.journal with offers := offers }, desk := { s.desk with notices := notices } }

theorem State.sweepKey_sweeps (s : State) (n : Nat) : sweepsKey s (s.sweepKey n) := by
  have nothing : sweepsKey s s := ⟨_, _, _, _, rfl⟩
  unfold State.sweepKey
  split
  · exact nothing
  · next k is =>
    split <;> split
    · rw [s.cancelKey_frame n k .expired]
      exact ⟨_, _, _, _, rfl⟩
    · exact nothing
    · rw [s.freeKey_frame n k]
      exact ⟨_, _, _, _, rfl⟩
    · exact nothing
    · exact ⟨_, _, _, _, rfl⟩
    · exact nothing

theorem State.sweepKey_other (s : State) {n j : Nat} (h : j ≠ n) : (s.sweepKey n).key j = s.key j := by
  unfold State.sweepKey
  split
  · rfl
  · next k is =>
    split <;> split
    · exact s.cancelKey_other n j k .expired h
    · rfl
    · exact s.freeKey_other n j k h
    · rfl
    · exact tableLook_put_other _ _ n j none h
    · rfl

/-- Settles O17: the visit by the state of its key; the lists are left as in `State.cancelKey_room`. -/
theorem sweepVisitExpiresOneKey : Obligations.SweepVisitExpiresOneKey := by
  intro s n w at_n takes
  obtain ⟨rooms, keys, offers, notices, frame⟩ := s.cmPop.sweepKey_sweeps n
  refine ⟨_, exec_sweepKeyVisit_taken at_n takes, by rw [frame]; rfl, by rw [frame]; rfl, by rw [frame]; rfl,
    fun j other => s.cmPop.sweepKey_other other, fun free => ?_, fun k is => ?_⟩
  · rw [State.sweepKey_free (s := s.cmPop) free]
    exact ⟨free, rfl, rfl, rfl⟩
  · cases status : k.status with
    | live serial =>
      rw [State.sweepKey_live (s := s.cmPop) is status]
      refine ⟨fun (early : ¬ s.cmPop.keyDue k ≤ s.cmPop.clock.minute) => ?_, fun (due : s.cmPop.keyDue k ≤ s.cmPop.clock.minute) => ?_⟩
      · rw [if_neg early]
        exact ⟨is, rfl, rfl, rfl⟩
      · rw [if_pos due]
        refine ⟨?_, ?_, ?_, fun r => State.cancelKey_room (s := s.cmPop) w.rooms n k .expired r⟩
        · have bound : k.serial = some serial := by rw [KeyRec.serial, status]
          have gone := State.cancelKey_key (s := s.cmPop) n k .expired w.keys
          rw [KeyRec.cancelled, bound] at gone
          exact gone
        · rw [s.cmPop.cancelKey_frame n k .expired]
          rfl
        · rw [s.cmPop.cancelKey_frame n k .expired]
          rfl
    | pending deadline =>
      rw [State.sweepKey_pending (s := s.cmPop) is status]
      refine ⟨fun (early : ¬ deadline ≤ s.cmPop.clock.minute) => ?_, fun (due : deadline ≤ s.cmPop.clock.minute) => ?_⟩
      · rw [if_neg early]
        exact ⟨is, rfl, rfl, rfl⟩
      · rw [if_pos due]
        refine ⟨State.freeKey_key (s := s.cmPop) n k w.keys, ?_, ?_, fun r => State.freeKey_room (s := s.cmPop) w.rooms n k r⟩
        · rw [s.cmPop.freeKey_frame n k]
          rfl
        · rw [s.cmPop.freeKey_frame n k]
          rfl
    | cancelled reason minute serial =>
      rw [State.sweepKey_cancelled (s := s.cmPop) is status]
      refine ⟨fun (early : ¬ minute + 1440 ≤ s.cmPop.clock.minute) => ?_, fun (due : minute + 1440 ≤ s.cmPop.clock.minute) => ?_⟩
      · rw [if_neg early]
        exact ⟨is, rfl, rfl, rfl⟩
      · rw [if_pos due]
        exact ⟨tableLook_put_same _ _ n none w.keys, rfl, rfl, rfl⟩

/-! #### The visit to the Watch List (R17) -/

theorem exec_sweepWatchVisit_taken {s : State} (at_watch : s.clock.sweep.position = some .watch)
    (takes : s.cmTakes .sweep = true) : exec .sweepWatchVisit s = .next (s.cmPop.sweepWatch.sweepNext .allowance) := by
  change execSweepWatchVisit s = _
  simp only [execSweepWatchVisit, at_watch, takes, if_true]

theorem State.sweepWatch_eq (s : State) :
    s.sweepWatch =
      (s.setWatch (s.cred.watch.filter fun e => decide (s.clock.minute < e.untilMinute))).offering
        ((s.cred.watch.filter fun e => decide (e.untilMinute ≤ s.clock.minute)).map fun e =>
          s.recordNow .credentialManager (.watchChange (.expired e.serial e.reason))) := by
  have later : (fun e : WatchEntry => !decide (e.untilMinute ≤ s.clock.minute)) = fun e => decide (s.clock.minute < e.untilMinute) := by
    funext e
    simp only [← decide_not, Nat.not_le]
  simp only [State.sweepWatch, later, State.foldl_credOffer _ fun e : WatchEntry => .watchChange (.expired e.serial e.reason)]
  rfl

/-- Settles O18. -/
theorem sweepVisitRemovesPastWatchEntries : Obligations.SweepVisitRemovesPastWatchEntries := by
  intro s at_watch takes
  rw [exec_sweepWatchVisit_taken at_watch takes, State.sweepWatch_eq]
  rfl

end Sys2Proof.Machine
end

section
/-! PROOFS. Rooms and stays: CHECK_IN and CHECK_OUT as they are checked (O19), EXTEND_STAY and ROOM_SET (O22). -/

namespace Sys2Proof.Machine

/-- A refusal that heads a list of refusals answers first. -/
theorem elim_refusal {α β : Type} {c : Prop} [Decidable c] (a : α) (o : Option α) (b : β) (f : α → β) :
    (if c then some a else o).elim b f = if c then f a else o.elim b f := by
  split <;> rfl

/-! #### CHECK_IN and CHECK_OUT (R27, R31) -/

/-- A request in progress goes on; with none there is nothing to mark. -/
theorem State.markTaken_eq (s : State) (l : LinkId) : s.markTaken l = s.goesOn l := by
  unfold State.markTaken State.goesOn
  split
  · next idle =>
    have same : { s.link l with inProgress := (s.link l).inProgress.map fun r => { r with phase := .taken } } = s.link l := by
      rw [idle, Option.map_none, ← idle]
    rw [same, State.setLink_link]
  · next r is => rw [is, Option.map_some]

theorem Room.running_iff (r : Room) (m : Nat) : r.running m = true ↔ r.state = .occupied ∧ m < r.stay.elim 0 Stay.stayEnd := by
  unfold Room.running
  cases r.stay <;> simp

theorem exec_checkIn_asked {s : State} {fs : List Byte} (h : s.askedCm .desk .checkIn fs) :
    exec .checkIn s = .next
      ((if s.settings.service = .unprovisioned then some .notReady else s.checkInRefusal (fieldAt fs 0 2) (fieldAt fs 2 4)).elim
        ((s.taking.beginCheckIn .desk [fieldAt fs 0 2] (fieldAt fs 2 4) (min (fieldAt fs 6 3) 9999999)).goesOn .desk)
        fun st => s.taking.answer .desk st [s.roomStateField (fieldAt fs 0 2)]) := by
  change execCheckIn s = _
  have same : s.cmPop.checkInRefusal (fieldAt fs 0 2) (fieldAt fs 2 4) = s.checkInRefusal (fieldAt fs 0 2) (fieldAt fs 2 4) := rfl
  simp only [execCheckIn, State.serveCm_asked h, State.markTaken_eq, elim_refusal, same]
  cases s.checkInRefusal (fieldAt fs 0 2) (fieldAt fs 2 4) <;> rfl

theorem exec_checkOut_asked {s : State} {fs : List Byte} (h : s.askedCm .desk .checkOut fs) :
    exec .checkOut s = .next
      ((s.checkOutRefusal (fieldAt fs 0 2)).elim
        (State.goesOn
          { s.taking with
            cred := { s.taking.cred with
              op := some (.checkOut (fieldAt fs 0 2) s.clock.minute s.clock.second
                (min s.clock.minute ((s.room (fieldAt fs 0 2)).stay.elim s.clock.minute Stay.stayEnd))) } }
          .desk)
        fun st => s.taking.answer .desk st []) := by
  change execCheckOut s = _
  have same : s.cmPop.checkOutRefusal (fieldAt fs 0 2) = s.checkOutRefusal (fieldAt fs 0 2) := rfl
  simp only [execCheckOut, State.serveCm_asked h, State.markTaken_eq, same]
  cases s.checkOutRefusal (fieldAt fs 0 2) <;> rfl

/-- Settles O19: both by their refusals in order. -/
theorem checkInAndCheckOutAreCheckedAndHandedOver : Obligations.CheckInAndCheckOutAreCheckedAndHandedOver := by
  refine ⟨fun s fs h => ?_, fun s fs h => ?_⟩
  · rw [exec_checkIn_asked h]
    simp only [State.checkInRefusal, elim_refusal, Option.elim_none, Room.running_iff]
    rfl
  · rw [exec_checkOut_asked h]
    simp only [State.checkOutRefusal, elim_refusal, Option.elim_none]
    rfl

/-! #### EXTEND_STAY (R34) -/

theorem exec_extendStay_asked {s : State} {fs : List Byte} (h : s.askedCm .desk .extendStay fs) :
    exec .extendStay s = .next
      ((s.extendRefusal (fieldAt fs 0 2) (fieldAt fs 2 4)).elim
        ((s.taking.setRoom (fieldAt fs 0 2)
          { s.room (fieldAt fs 0 2) with
            stay := (s.room (fieldAt fs 0 2)).stay.map fun x => { x with stayEnd := fieldAt fs 2 4 } }).answer .desk .ok
          [.num 4 ((s.room (fieldAt fs 0 2)).stay.elim 0 Stay.stayEnd), .num 4 (fieldAt fs 2 4)])
        fun st => s.taking.answer .desk st []) := by
  change execExtendStay s = _
  have same : s.cmPop.extendRefusal (fieldAt fs 0 2) (fieldAt fs 2 4) = s.extendRefusal (fieldAt fs 0 2) (fieldAt fs 2 4) := rfl
  simp only [execExtendStay, State.serveCm_asked h, same]
  cases s.extendRefusal (fieldAt fs 0 2) (fieldAt fs 2 4) <;> rfl

/-! #### ROOM_SET (R35, R36) -/

/-- A ROOM_SET command takes a request whose action code names no action (log entry 17). -/
theorem State.serveRoomSet_unknown {s : State} {fs : List Byte} (a : Nat) (h : s.askedCm .desk .roomSet fs)
    (unknown : 3 < fieldAt fs 2 1) (body : Nat → List Byte → State → State) :
    s.serveRoomSet a body =
      if s.settings.service = .unprovisioned then s.taking.answer .desk .notReady [] else s.taking.answer .desk .badField [] := by
  have takes : s.cmTakes .desk = true := h.2
  simp only [State.serveRoomSet, h.1.1, takes, Option.getD_some, decide_eq_true unknown, Bool.or_true, Bool.and_self]
  rw [State.serveFrom_some s s.cmPop .desk .roomSet _ fs h.1.1 h.1.2]
  simp only [if_pos unknown, ite_self]
  rfl

/-- A ROOM_SET command of an action that moves a room from the states allowed. -/
theorem State.serveRoomSet_move {s : State} {fs : List Byte} {a : Nat} (h : s.askedCm .desk .roomSet fs) (action : fieldAt fs 2 1 = a)
    (known : ¬ 3 < a) (allowed : RoomState → Bool) (target : RoomState) :
    (s.serveRoomSet a fun room _ s => s.moveRoom allowed target room) =
      if s.settings.service = .unprovisioned then s.taking.answer .desk .notReady []
      else if 512 ≤ fieldAt fs 0 2 then s.taking.answer .desk .badField []
      else if allowed (s.room (fieldAt fs 0 2)).state then
        (s.taking.setRoom (fieldAt fs 0 2)
          { s.room (fieldAt fs 0 2) with state := target, stay := none, privacy := false }).answer .desk .ok
          [.num 1 (roomStateCode target)]
      else s.taking.answer .desk .roomState [] := by
  rw [State.serveRoomSet_asked a h action, if_neg known]
  rfl

/-- ROOM_SET LABEL by its tests in order (R36). -/
theorem exec_roomSetLabel_asked {s : State} {fs : List Byte} (h : s.askedCm .desk .roomSet fs) (action : fieldAt fs 2 1 = 3) :
    exec .roomSetLabel s = .next
      (if s.settings.service = .unprovisioned then s.taking.answer .desk .notReady []
      else if 512 ≤ fieldAt fs 0 2 then s.taking.answer .desk .badField []
      else if fieldAt fs 3 2 = 0 ∨ 9999 < fieldAt fs 3 2 then s.taking.answer .desk .badField []
      else
        (s.labelHolder (fieldAt fs 0 2) (fieldAt fs 3 2)).elim
          ((s.taking.setRoom (fieldAt fs 0 2) { s.room (fieldAt fs 0 2) with label := some (fieldAt fs 3 2) }).answer .desk .ok
            [.num 2 (fieldAt fs 0 2), .num 2 (fieldAt fs 3 2)])
          fun other => s.taking.answer .desk .badField [.num 2 other]) := by
  change execRoomSetLabel s = _
  have same : s.cmPop.labelHolder (fieldAt fs 0 2) (fieldAt fs 3 2) = s.labelHolder (fieldAt fs 0 2) (fieldAt fs 3 2) := rfl
  simp only [execRoomSetLabel, State.serveRoomSet_asked 3 h action, Nat.lt_irrefl, if_false, same]
  cases s.labelHolder (fieldAt fs 0 2) (fieldAt fs 3 2) <;> rfl

theorem exec_roomSetLabel_badField {s : State} {fs : List Byte} (h : s.askedCm .desk .roomSet fs) (action : fieldAt fs 2 1 = 3)
    (provisioned : s.settings.service ≠ .unprovisioned) (bad : 512 ≤ fieldAt fs 0 2 ∨ fieldAt fs 3 2 = 0 ∨ 9999 < fieldAt fs 3 2) :
    exec .roomSetLabel s = .next (s.taking.answer .desk .badField []) := by
  rw [exec_roomSetLabel_asked h action, if_neg provisioned]
  obtain room | label := bad
  · rw [if_pos room]
  · rw [if_pos label, ite_self]

theorem exec_roomSetLabel_lawful {s : State} {fs : List Byte} (h : s.askedCm .desk .roomSet fs) (action : fieldAt fs 2 1 = 3)
    (provisioned : s.settings.service ≠ .unprovisioned) (room : fieldAt fs 0 2 < 512) (some : 0 < fieldAt fs 3 2)
    (most : fieldAt fs 3 2 ≤ 9999) :
    exec .roomSetLabel s = .next
      ((s.labelHolder (fieldAt fs 0 2) (fieldAt fs 3 2)).elim
        ((s.taking.setRoom (fieldAt fs 0 2) { s.room (fieldAt fs 0 2) with label := .some (fieldAt fs 3 2) }).answer .desk .ok
          [.num 2 (fieldAt fs 0 2), .num 2 (fieldAt fs 3 2)])
        fun other => s.taking.answer .desk .badField [.num 2 other]) := by
  rw [exec_roomSetLabel_asked h action, if_neg provisioned, if_neg (by omega), if_neg (by omega)]

/-- The table entry that `State.labelHolder` looks for is a room other than `room` that holds the label. -/
theorem holdsLabel_iff (room label : Nat) (p : Nat × Room) :
    (p.1 != room && p.2.label == some label) = true ↔ p.1 ≠ room ∧ p.2.label = some label := by
  rw [Bool.and_eq_true, bne_iff_ne, beq_iff_eq]

theorem State.labelHolder_none {s : State} (w : s.tablesWf) {room label : Nat}
    (absent : ∀ n, n ≠ room → (s.room n).label ≠ some label) : s.labelHolder room label = none := by
  rw [State.labelHolder, Option.map_eq_none_iff, List.find?_eq_none]
  intro p listed held
  obtain ⟨other, label'⟩ := (holdsLabel_iff room label p).mp held
  have is : s.room p.1 = p.2 := (tableLook_of_mem w.rooms listed).1
  exact absent p.1 other (is ▸ label')

theorem State.labelHolder_some {s : State} (w : s.tablesWf) {room label n : Nat} (other : n ≠ room)
    (held : (s.room n).label = some label) :
    ∃ m, s.labelHolder room label = some m ∧ m ≠ room ∧ (s.room m).label = some label := by
  have listed : (n, s.room n) ∈ s.cred.rooms := mem_of_tableLook _ fun blank => by
    rw [State.room, blank] at held
    cases held
  obtain ⟨p, hp⟩ : ∃ p, (s.cred.rooms.find? fun p => p.1 != room && p.2.label == some label) = some p :=
    Option.isSome_iff_exists.mp
      (List.find?_isSome.mpr ⟨(n, s.room n), listed, (holdsLabel_iff room label (n, s.room n)).mpr ⟨other, held⟩⟩)
  have holds := List.find?_some hp
  obtain ⟨apart, label'⟩ := (holdsLabel_iff room label p).mp holds
  have is : s.room p.1 = p.2 := (tableLook_of_mem w.rooms (List.mem_of_find?_eq_some hp)).1
  exact ⟨p.1, by rw [State.labelHolder, hp, Option.map_some], apart, is ▸ label'⟩

/-- Settles O22: EXTEND_STAY by its refusals in order, ROOM_SET by its action code. -/
theorem stayAndRoomSettingsAreWrittenOrRefused : Obligations.StayAndRoomSettingsAreWrittenOrRefused := by
  refine fun s fs => ⟨fun h => ?_, fun h => ⟨fun action => ?_, fun action => ?_, fun action => ?_, fun action => ⟨fun u => ?_,
    fun p bad => ?_, fun p room some most w => ⟨fun absent => ?_, fun n other held => ?_⟩⟩, fun unknown i row => ?_⟩⟩
  · rw [exec_extendStay_asked h]
    simp only [State.extendRefusal, elim_refusal, Option.elim_none]
    rfl
  · exact congrArg _ (State.serveRoomSet_move h action (by decide) _ _)
  · exact congrArg _ (State.serveRoomSet_move h action (by decide) _ _)
  · exact congrArg _ (State.serveRoomSet_move h action (by decide) _ _)
  · rw [exec_roomSetLabel_asked h action, if_pos u]
  · exact exec_roomSetLabel_badField h action p bad
  · rw [exec_roomSetLabel_lawful h action p room some most, State.labelHolder_none w absent, Option.elim_none]
  · obtain ⟨m, found, apart, label⟩ := State.labelHolder_some w other held
    refine ⟨m, apart, label, ?_⟩
    rw [exec_roomSetLabel_lawful h action p room some most, found, Option.elim_some]
  · simp only [List.mem_cons, List.not_mem_nil, or_false] at row
    obtain rfl | rfl | rfl | rfl := row <;> exact congrArg _ (State.serveRoomSet_unknown _ h unknown _)

end Sys2Proof.Machine
end

section
/-! PROOFS. The hand-overs of a check-in and a check-out to the Minibar Accounting Unit (O20, O21). -/

namespace Sys2Proof.Machine

/-! #### The last room of a check-in (R28, R30) -/

theorem State.commitCheckIn_frame (s : State) (op : CheckInOp) :
    s.commitCheckIn op =
      { s with
        cred := { s.cred with rooms := (s.commitCheckIn op).cred.rooms, op := none }
        group := { s.group with entries := (s.commitCheckIn op).group.entries } } := by
  have frame := State.occupyAll_frame { s with cred := { s.cred with op := none } } op.minute op.stayEnd op.rooms
  unfold onlyRooms at frame
  unfold State.commitCheckIn
  rw [frame]
  cases op.origin <;> rfl

theorem State.commitCheckIn_room {s : State} (w : tableWf Room.blank s.cred.rooms = true) (op : CheckInOp) (n : Nat) :
    (s.commitCheckIn op).room n =
      if n ∈ op.rooms then
        { s.room n with state := .occupied, privacy := false, stay := some { checkIn := op.minute, stayEnd := op.stayEnd } }
      else s.room n := by
  refine Eq.trans ?_ (State.occupyAll_room (s := { s with cred := { s.cred with op := none } }) w op.minute op.stayEnd op.rooms n)
  unfold State.commitCheckIn
  cases op.origin <;> rfl

theorem State.commitCheckIn_entry {s : State} (w : tableWf GroupEntry.blank s.group.entries = true) (op : CheckInOp) (n : Nat) :
    (s.commitCheckIn op).entry n = if op.origin = .group n then { s.entry n with checkedIn := true } else s.entry n := by
  have frame := State.occupyAll_frame { s with cred := { s.cred with op := none } } op.minute op.stayEnd op.rooms
  unfold onlyRooms at frame
  unfold State.commitCheckIn
  rw [frame]
  cases op.origin with
  | desk => rfl
  | group e =>
    refine (State.entry_setEntry w e _ n).trans ?_
    by_cases same : n = e
    · rw [if_pos same, if_pos (by rw [same]), same]
      rfl
    · rw [if_neg same, if_neg (by simpa using Ne.symm same)]

/-! #### TALLY_OPEN (R106, R28) -/

/-- The tally-open of the first room still to do, with its STAY_OPEN record (R28). -/
def State.tallyOpened (s : State) (op : CheckInOp) (r : Nat) : State :=
  (s.openTally r op.limit).offerAt .credentialManager op.minute op.second
    (.stayOpen r (s.room r).label op.minute op.stayEnd op.limit op.origin)

theorem State.checkInOpen_last {s : State} {op : CheckInOp} {r : Nat} (todo : op.todo = [r]) :
    s.checkInOpen op = (s.tallyOpened op r).commitCheckIn op := by
  rw [State.checkInOpen, todo]
  rfl

theorem State.checkInOpen_more {s : State} {op : CheckInOp} {r r' : Nat} {rest : List Nat} (todo : op.todo = r :: r' :: rest) :
    s.checkInOpen op =
      { s.tallyOpened op r with
        cred := { (s.tallyOpened op r).cred with
          op := some (.checkIn { op with todo := r' :: rest, closing := (s.room r').state == .occupied }) } } := by
  rw [State.checkInOpen, todo]
  rfl

theorem exec_tallyOpen_open {s : State} {op : CheckInOp} (on : s.powered = true) (doing : s.cred.op = some (.checkIn op))
    (opening : op.closing = false) :
    exec .tallyOpen s = .next
      (if (s.checkInOpen op).cred.op.isNone then (s.checkInOpen op).afterCheckIn op else s.checkInOpen op) := by
  change execTallyOpen s = _
  simp only [execTallyOpen, doing, on, opening, Bool.not_false, Bool.and_self, if_true]

theorem State.checkInFields_eq (s : State) (op : CheckInOp) :
    s.checkInFields op =
      [.num 2 (op.rooms.head?.getD 0), optField 2 (s.room (op.rooms.head?.getD 0)).label, .num 4 op.minute, .num 4 op.stayEnd,
        .num 3 op.limit, .flag op.earlier.isSome] ++ op.earlier.toList.map fun n => .num 3 n := by
  unfold State.checkInFields
  cases op.earlier <;> rfl

/-! #### A warm start during a check-in (R39, R124) -/

theorem State.finishCm_eq (s : State) : s.finishCm = State.finishCmOnce^[8] s :=
  List.foldl_const State.finishCmOnce s (List.range 8)

theorem State.finishCmOnce_none {s : State} (idle : s.cred.op = none) : s.finishCmOnce = s := by
  rw [State.finishCmOnce, idle]

theorem State.finishCmOnce_iterate_none {s : State} (idle : s.cred.op = none) (n : Nat) : State.finishCmOnce^[n] s = s :=
  Function.iterate_fixed (State.finishCmOnce_none idle) n

theorem State.finishCmOnce_closing {s : State} {op : CheckInOp} (doing : s.cred.op = some (.checkIn op)) (closing : op.closing = true) :
    s.finishCmOnce = s.checkInClose op := by
  rw [State.finishCmOnce, doing]
  exact if_pos closing

theorem State.finishCmOnce_opening {s : State} {op : CheckInOp} (doing : s.cred.op = some (.checkIn op))
    (opening : op.closing = false) : s.finishCmOnce = s.checkInOpen op := by
  rw [State.finishCmOnce, doing]
  exact if_neg (by simp [opening])

/-- Two hand-overs for each room, one less where the first room has no tally to close, complete a check-in. -/
theorem State.finishCmOnce_iterate_done {s : State} {op : CheckInOp} (n : Nat) (doing : s.cred.op = some (.checkIn op))
    (some : op.todo ≠ []) (enough : 2 * op.todo.length ≤ n + if op.closing then 0 else 1) :
    (State.finishCmOnce^[n] s).cred.op = none := by
  obtain ⟨r, rest, todo⟩ := List.exists_cons_of_ne_nil some
  rw [todo, List.length_cons] at enough
  induction n generalizing s op r rest with
  | zero => split at enough <;> omega
  | succ n ih =>
    rw [Function.iterate_succ_apply]
    cases closing : op.closing with
    | true =>
      rw [State.finishCmOnce_closing doing closing]
      have next : (s.checkInClose op).cred.op =
          .some (.checkIn { op with closing := false, earlier := .some ((s.closeTally r .recheckin).tally r).tally }) := by
        rw [State.checkInClose, todo]
      refine ih next some r rest ?_ todo
      rw [if_pos closing] at enough
      simp only [Bool.false_eq_true, if_false]
      omega
    | false =>
      rw [State.finishCmOnce_opening doing closing]
      rw [closing, if_neg Bool.false_ne_true] at enough
      cases rest with
      | nil =>
        have idle : (s.checkInOpen op).cred.op = none := by
          rw [State.checkInOpen_last todo, State.commitCheckIn_frame]
        rw [State.finishCmOnce_iterate_none idle, idle]
      | cons r' rest =>
        have next := congrArg (fun t : State => t.cred.op) (State.checkInOpen_more (s := s) todo)
        refine ih next (by simp) r' rest ?_ rfl
        rw [List.length_cons] at enough
        omega

theorem State.finishCm_checkInOpen {s : State} {op : CheckInOp} (doing : s.cred.op = some (.checkIn op)) (opening : op.closing = false)
    (some : op.todo ≠ []) (four : op.todo.length ≤ 4) : (s.checkInOpen op).finishCm = s.finishCm := by
  have done : (State.finishCmOnce^[8] s).cred.op = none :=
    State.finishCmOnce_iterate_done 8 doing some (by rw [opening]; simp only [Bool.false_eq_true, if_false]; omega)
  rw [State.finishCm_eq, State.finishCm_eq, ← State.finishCmOnce_opening doing opening, ← Function.iterate_succ_apply,
    Function.iterate_succ_apply', State.finishCmOnce_none done]

/-- A warm start is a function of what it completes and of what its report says of the state found (R185). -/
theorem exec_warmStart_eq {s t : State} (cause : WarmCause) (slotRead : List Byte) (on : s.powered = true) (on' : t.powered = true)
    (taken : s.finishCm = t.finishCm) (fence : s.settings.fence = t.settings.fence)
    (lock : s.mini.tariffLock = t.mini.tariffLock) (staging : s.journal.staging.length = t.journal.staging.length) :
    exec (.warmStart cause slotRead) s = exec (.warmStart cause slotRead) t := by
  have power : ∀ {u : State}, u.powered = true → { u with powered := true } = u := fun h => by rw [← h]
  change execWarmStart cause slotRead s = execWarmStart cause slotRead t
  simp only [execWarmStart, State.finishTaken, on, on', power on, power on', taken, warmReport, fence, lock, staging]
  rfl

theorem State.checkInOpen_found (s : State) (op : CheckInOp) :
    (s.checkInOpen op).powered = s.powered ∧ (s.checkInOpen op).settings = s.settings ∧
      (s.checkInOpen op).mini.tariffLock = s.mini.tariffLock ∧ (s.checkInOpen op).journal.staging = s.journal.staging := by
  match todo : op.todo with
  | [] => rw [State.checkInOpen, todo]; exact ⟨rfl, rfl, rfl, rfl⟩
  | [r] => rw [State.checkInOpen_last todo, State.commitCheckIn_frame]; exact ⟨rfl, rfl, rfl, rfl⟩
  | r :: r' :: rest => rw [State.checkInOpen_more todo]; exact ⟨rfl, rfl, rfl, rfl⟩

/-- A warm start completes a check-in whether or not its next tally-open is already taken. -/
theorem State.warmStart_checkInOpen {s : State} {op : CheckInOp} (on : s.powered = true) (doing : s.cred.op = some (.checkIn op))
    (opening : op.closing = false) (some : op.todo ≠ []) (four : op.todo.length ≤ 4) (cause : WarmCause) (slotRead : List Byte) :
    exec (.warmStart cause slotRead) s = exec (.warmStart cause slotRead) (s.checkInOpen op) := by
  obtain ⟨powered, settings, lock, staging⟩ := s.checkInOpen_found op
  exact exec_warmStart_eq cause slotRead on (powered.trans on) (State.finishCm_checkInOpen doing opening some four).symm
    (by rw [settings]) lock.symm (by rw [staging])

/-- Settles O20: the tally-open of the last room, and of one with others to follow. -/
theorem tallyOpenChecksTheRoomIn : Obligations.TallyOpenChecksTheRoomIn := by
  intro s op r rest w on doing opening todo
  have opened := exec_tallyOpen_open on doing opening
  have tally : ∀ n, (s.tallyOpened op r).tally n =
      if n = r then { s.tally r with isOpen := true, limit := op.limit, tally := 0, saturated := false } else s.tally n :=
    State.tally_setTally w.tallies r _
  have warm := State.warmStart_checkInOpen on doing opening (List.ne_nil_of_mem (todo ▸ List.mem_cons_self))
  cases rest with
  | nil =>
    have last := State.checkInOpen_last (s := s) todo
    have frame := (s.tallyOpened op r).commitCheckIn_frame op
    have tallies : ∀ n, (s.checkInOpen op).tally n = (s.tallyOpened op r).tally n := fun n => by rw [last, frame]; rfl
    have idle : (s.checkInOpen op).cred.op.isNone = true := by rw [last, frame]; rfl
    refine ⟨s.checkInOpen op, ?_, by rw [tallies, tally, if_pos rfl], fun n other => by rw [tallies, tally, if_neg other],
      fun n => ?_, fun n => ?_, ?_, warm⟩
    · rw [opened, if_pos idle, State.afterCheckIn, State.checkInFields_eq]
      cases op.origin <;> rfl
    · rw [last, State.commitCheckIn_room (s := s.tallyOpened op r) w.rooms]
      simp
      rfl
    · rw [last, State.commitCheckIn_entry (s := s.tallyOpened op r) w.entries]
      simp
      rfl
    · rw [last, frame]
      rfl
  | cons r' rest =>
    have more := State.checkInOpen_more (s := s) todo
    refine ⟨s.checkInOpen op, ?_, ?_, fun n other => ?_, fun n => ?_, fun n => ?_, ?_, warm⟩
    · rw [opened, more]
      rfl
    · rw [more]
      exact (tally r).trans (if_pos rfl)
    · rw [more]
      exact (tally n).trans (if_neg other)
    · rw [more, if_neg (by simp)]
      rfl
    · rw [more, if_neg (by simp)]
      rfl
    · rw [more]
      rfl

/-! #### TALLY_CLOSE (R107) -/

/-- What a check-out comes to, once the room's session is closed, with its records and the counts of its reply (R31 to R33). -/
theorem State.checkOutRoom_result {s : State} (w : s.tablesWf) (room minute second stayEnd : Nat)
    (nodup : (s.room room).keyList.Nodup) (known : ∀ n ∈ (s.room room).keyList, s.key n ≠ none) :
    ∃ rooms keys tallies,
      s.checkOutRoom room minute second stayEnd =
        ({ s with
            cred := { s.cred with rooms := rooms, keys := keys, op := none }
            mini := { s.mini with tallies := tallies }
            journal := { s.journal with
              offers := s.journal.offers ++
                (((s.room room).keyList.filter s.lone).map fun n =>
                  { source := .credentialManager, minute := minute, second := second, body := .keyCancelled n .checkedOut false }) ++
                [{ source := .credentialManager, minute := minute, second := second
                   body := .stayClose room (s.room room).label ((s.room room).stay.elim 0 Stay.checkIn) stayEnd
                     (s.tally room).tally (s.tally room).saturated ((s.room room).keyList.filter s.lone).length
                     ((s.room room).keyList.filter fun n => !s.lone n).length .checkOut }] } },
          (s.tally room).tally, (s.tally room).saturated, ((s.room room).keyList.filter s.lone).length,
          ((s.room room).keyList.filter fun n => !s.lone n).length) := by
  obtain ⟨visited, counts⟩ := checkOutVisits (s := s.setTally room { s.tally room with isOpen := false }) w.keys room minute second
    nodup known 0 0
  obtain ⟨p, hp⟩ : ∃ p, p = (s.room room).keyList.foldl (checkOutVisit room minute second)
    (s.setTally room { s.tally room with isOpen := false }, 0, 0) := ⟨_, rfl⟩
  have closed : (s.setTally room { s.tally room with isOpen := false }).tally room = { s.tally room with isOpen := false } :=
    tableLook_put_same _ _ room _ w.tallies
  rw [← hp, Nat.zero_add, Nat.zero_add] at counts
  rw [← hp] at visited
  have unfolded : s.checkOutRoom room minute second stayEnd =
      ({ (p.1.setRoom room ((p.1.room room).departed stayEnd)).offerAt .credentialManager minute second
          (.stayClose room (p.1.room room).label ((p.1.room room).stay.elim 0 Stay.checkIn) stayEnd
            ((s.setTally room { s.tally room with isOpen := false }).tally room).tally
            ((s.setTally room { s.tally room with isOpen := false }).tally room).saturated p.2.1 p.2.2 .checkOut) with
          cred := { (p.1.setRoom room ((p.1.room room).departed stayEnd)).cred with op := none } },
        ((s.setTally room { s.tally room with isOpen := false }).tally room).tally,
        ((s.setTally room { s.tally room with isOpen := false }).tally room).saturated, p.2.1, p.2.2) := by
    rw [hp]
    rfl
  rw [unfolded, closed, counts, visited.frame]
  exact ⟨_, _, _, rfl⟩

theorem State.closeRoomSession_eq (s : State) (room : Nat) (cause : CloseCause) :
    s.closeRoomSession room cause =
      { s with
        mini := { s.mini with sessions := (s.closeRoomSession room cause).mini.sessions }
        journal := { s.journal with
          offers := s.journal.offers ++ (s.tally room).door.elim [] fun d => s.closingRecords d cause } } := by
  unfold State.closeRoomSession
  cases (s.tally room).door with
  | none => simp
  | some d => exact s.closeSession_spec d cause

theorem State.closeRoomSession_session {s : State} (w : s.tablesWf) (room : Nat) (cause : CloseCause) (d : Nat) :
    (s.closeRoomSession room cause).session d = if (s.tally room).door = some d then none else s.session d :=
  s.closeTally_session room d cause w.sessions

theorem exec_tallyClose_checkOut {s : State} {room minute second stayEnd : Nat} (on : s.powered = true)
    (doing : s.cred.op = some (.checkOut room minute second stayEnd)) {t : State} {final dead kept : Nat} {saturated : Bool}
    (result : s.checkOutClose room minute second stayEnd = (t, final, saturated, dead, kept)) :
    exec .tallyClose s = .next (t.answer .desk .ok
      [.num 2 room, .num 3 final, .flag saturated, .num 4 stayEnd, .num 1 dead, .num 1 kept]) := by
  change execTallyClose s = _
  simp only [execTallyClose, doing, on, result, if_true]

theorem exec_tallyClose_checkIn {s : State} {op : CheckInOp} (on : s.powered = true) (doing : s.cred.op = some (.checkIn op))
    (closing : op.closing = true) : exec .tallyClose s = .next (s.checkInClose op) := by
  change execTallyClose s = _
  simp only [execTallyClose, doing, on, closing, Bool.and_self, if_true]

theorem State.keyOff_some {s : State} {n : Nat} {k : KeyRec} (is : s.key n = some k) (room : Nat) (reason : CancelReason)
    (minute : Nat) :
    s.keyOff room reason minute n = if ((s.key n).elim 0 fun k => k.entries.length) ≤ 1 then some (k.cancelled reason minute)
      else some (k.withEntries (k.entries.filter fun e => e.room != room)) := by
  rw [State.keyOff, is, Option.map_some, Option.elim_some]
  by_cases lone : k.entries.length ≤ 1
  · rw [if_pos lone, if_neg (by omega)]
  · rw [if_neg lone, if_pos (by omega), KeyRec.without]

/-- Settles O21: the check-out, then the check-in over an ended stay. -/
theorem tallyCloseEndsTheStay : Obligations.TallyCloseEndsTheStay := by
  refine ⟨fun s room minute second stayEnd w lists on doing => ?_, fun s op room rest w on doing closing todo => ?_⟩
  · have frame := s.closeRoomSession_eq room .checkOut
    obtain ⟨u, hu⟩ : ∃ u, u = s.closeRoomSession room .checkOut := ⟨_, rfl⟩
    have wf : u.tablesWf := hu ▸ Moves.keeps (fun _ _ => Move.keeps_tables) (Moves.closeRoomSession s room .checkOut) w
    have sessions := State.closeRoomSession_session w room .checkOut
    rw [← hu] at frame sessions
    have rooms : ∀ n, u.room n = s.room n := fun n => by rw [frame]; rfl
    have keys : ∀ n, u.key n = s.key n := fun n => by rw [frame]; rfl
    have tallies : ∀ n, u.tally n = s.tally n := fun n => by rw [frame]; rfl
    have lone : u.lone = s.lone := by rw [frame]; rfl
    have nodup : (u.room room).keyList.Nodup := by rw [rooms]; exact lists.1 room
    have known : ∀ n ∈ (u.room room).keyList, u.key n ≠ none := fun n hn => by
      rw [rooms] at hn
      rw [keys]
      exact lists.known hn
    have spec := State.checkOutRoom_spec wf room minute second stayEnd nodup known
    obtain ⟨rms, kys, tls, result⟩ := State.checkOutRoom_result wf room minute second stayEnd nodup known
    have closed := s.checkOutClose_eq room minute second stayEnd
    rw [← hu, result, rooms, tallies, lone] at closed
    rw [result] at spec
    refine ⟨_, exec_tallyClose_checkOut on doing closed, ?_, fun n other => ?_, fun n k is listed => ?_, fun n off => ?_, ?_,
      fun n other => ?_, fun d => sessions d, ?_⟩
    · exact (spec.rooms room).trans (by rw [if_pos rfl, rooms]; rfl)
    · exact (spec.rooms n).trans (by rw [if_neg other, rooms])
    · refine (spec.keys n).trans ?_
      rw [rooms, if_pos listed, State.keyOff_of_key (keys n), State.keyOff_some is]
    · exact (spec.keys n).trans (by rw [rooms, if_neg off, keys])
    · exact (spec.tallies room).trans (by rw [if_pos rfl, tallies])
    · exact (spec.tallies n).trans (by rw [if_neg other, tallies])
    · rw [frame]
      rfl
  · have frame := s.closeTally_spec room .recheckin
    refine ⟨_, exec_tallyClose_checkIn on doing closing, ?_, fun n other => ?_, fun d => ?_, ?_⟩ <;>
      rw [State.checkInClose, todo]
    · exact s.closeTally_tally room .recheckin w.tallies
    · exact s.closeTally_other room n .recheckin other
    · exact s.closeTally_session room d .recheckin w.sessions
    · have closed := s.closeTally_tally room .recheckin w.tallies
      dsimp only
      rw [closed, frame]
      rfl

end Sys2Proof.Machine
end

section
/-! PROOFS. The allocation of a key number and the checks of an issue (O23, O24). -/

namespace Sys2Proof.Machine

/-! #### Allocation (R45) -/

theorem freeKeyFrom_eq_some {s : State} {fuel low n : Nat} (above : low ≤ n) (within : n < low + fuel) (free : s.key n = none)
    (first : ∀ m, low ≤ m → m < n → s.key m ≠ none) : freeKeyFrom s fuel low = some n := by
  induction fuel generalizing low with
  | zero => omega
  | succ fuel ih =>
    unfold freeKeyFrom
    obtain rfl | further := Nat.eq_or_lt_of_le above
    · rw [free]
      rfl
    · rw [if_neg (by simpa using first low le_rfl further)]
      exact ih further (by omega) fun m hm => first m (Nat.le_of_succ_le hm)

theorem freeKeyFrom_eq_none {s : State} {fuel low : Nat} (taken : ∀ m, m < low + fuel → s.key m ≠ none) :
    freeKeyFrom s fuel low = none := by
  induction fuel generalizing low with
  | zero => rfl
  | succ fuel ih =>
    unfold freeKeyFrom
    rw [if_neg (by simpa using taken low (by omega))]
    exact ih fun m hm => taken m (by omega)

theorem freeKeyFrom_congr {s t : State} (same : ∀ n, t.key n = s.key n) (fuel low : Nat) :
    freeKeyFrom t fuel low = freeKeyFrom s fuel low := by
  induction fuel generalizing low with
  | zero => rfl
  | succ fuel ih => rw [freeKeyFrom, freeKeyFrom, same, ih]

theorem earliestCancelled_eq_none {t : Table (Option KeyRec)} (absent : earliestCancelled t = none) {m : Nat} {j : KeyRec}
    (listed : (m, some j) ∈ t) : j.cancelInfo = none := by
  induction t with
  | nil => cases listed
  | cons head rest ih =>
    obtain ⟨h, v⟩ := head
    obtain ⟨own, behind⟩ : v.bind KeyRec.cancelInfo = none ∧ earliestCancelled rest = none := by
      unfold earliestCancelled at absent
      split at absent
      · next own => exact ⟨own, absent⟩
      · cases absent
      · split at absent <;> cases absent
    rcases List.mem_cons.mp listed with first | later
    · cases first
      exact own
    · exact ih behind later

/-- The key found is before every other CANCELLED key of the table: cancelled earlier, or as early and numbered lower. -/
theorem earliestCancelled_first {t : Table (Option KeyRec)} {low n minute : Nat} {reason : CancelReason}
    (w : tableWfFrom none low t = true) (found : earliestCancelled t = some (n, minute, reason)) {m x : Nat} {j : KeyRec}
    {r : CancelReason} (listed : (m, some j) ∈ t) (info : j.cancelInfo = some (x, r)) : minute < x ∨ minute = x ∧ n ≤ m := by
  induction t generalizing low n minute reason with
  | nil => cases listed
  | cons head rest ih =>
    obtain ⟨h, v⟩ := head
    simp only [tableWfFrom, Bool.and_eq_true, decide_eq_true_eq] at w
    obtain ⟨-, rising⟩ := w
    have behind : (m, some j) ∈ rest → h < m := fun mem => le_of_mem_tableWfFrom rising mem
    unfold earliestCancelled at found
    rcases List.mem_cons.mp listed with first | later
    · cases first
      rw [Option.bind_some, info] at found
      split at found
      · next no => cases no
      · next same _ => cases same; cases found; exact .inr ⟨rfl, le_rfl⟩
      · next same _ => cases same; split at found <;> cases found <;> omega
    · split at found
      · exact ih rising found later
      · next _ no => rw [earliestCancelled_eq_none no later] at info; cases info
      · next m0 r0 n' m' r' _ best =>
        have rule := ih rising best later
        have := behind later
        split at found
        · cases found; exact rule
        · cases found; omega

theorem State.allocate_free {s : State} {n : Nat} (within : n < 2048) (free : s.key n = none) (first : ∀ m, m < n → s.key m ≠ none) :
    s.allocate = some (n, none) := by
  rw [State.allocate, freeKeyFrom_eq_some (Nat.zero_le n) (by rw [Nat.zero_add]; exact within) free fun m _ => first m]

theorem State.allocate_full {s : State} (full : ∀ n, n < 2048 → s.key n ≠ none) :
    s.allocate = (earliestCancelled s.cred.keys).map fun c => (c.1, some c.2.2) := by
  rw [State.allocate, freeKeyFrom_eq_none fun m hm => full m (by rw [Nat.zero_add] at hm; exact hm)]

theorem KeyRec.cancelInfo_eq {k : KeyRec} {reason : CancelReason} {minute : Nat} {serial : Option Nat}
    (h : k.status = .cancelled reason minute serial) : k.cancelInfo = some (minute, reason) := by
  rw [KeyRec.cancelInfo, h]

theorem KeyRec.status_of_cancelInfo {k : KeyRec} {reason : CancelReason} {minute : Nat} (h : k.cancelInfo = some (minute, reason)) :
    ∃ serial, k.status = .cancelled reason minute serial := by
  unfold KeyRec.cancelInfo at h
  split at h
  · next status => cases h; exact ⟨_, status⟩
  · cases h

/-- The earliest-cancelled key, lowest-numbered of several, is the one reused: no other can be before it. -/
theorem State.allocate_reused {s : State} (w : s.tablesWf) (full : ∀ n, n < 2048 → s.key n ≠ none) {n minute : Nat} {k : KeyRec}
    {reason : CancelReason} {serial : Option Nat} (is : s.key n = some k) (cancelled : k.status = .cancelled reason minute serial)
    (first : ∀ m j r x y, s.key m = some j → j.status = .cancelled r x y → minute < x ∨ minute = x ∧ n ≤ m) :
    s.allocate = some (n, some reason) := by
  have listed : (n, some k) ∈ s.cred.keys := is ▸ mem_of_tableLook none (by rw [← State.key, is]; exact Option.some_ne_none k)
  have info := KeyRec.cancelInfo_eq cancelled
  obtain ⟨⟨m, x, r⟩, found⟩ := Option.ne_none_iff_exists'.mp fun no => by
    rw [earliestCancelled_eq_none no listed] at info
    cases info
  obtain ⟨j, mem, jInfo⟩ := earliestCancelled_mem found
  obtain ⟨y, status⟩ := KeyRec.status_of_cancelInfo jInfo
  have look : s.key m = some j := (tableLook_of_mem w.keys mem).1
  have before := earliestCancelled_first w.keys found listed info
  have after := first m j r x y look status
  obtain rfl : m = n := by omega
  obtain rfl : k = j := Option.some.inj (is.symm.trans look)
  rw [info] at jInfo
  cases jInfo
  rw [State.allocate_full full, found, Option.map_some]

/-- Settles O23. -/
theorem allocationTakesTheLowestFreeKey : Obligations.AllocationTakesTheLowestFreeKey := by
  refine fun s w => ⟨fun n within free first => State.allocate_free within free first, fun full => ⟨fun n k reason minute serial is
    cancelled first => State.allocate_reused w full is cancelled first, fun active => ?_⟩⟩
  rw [State.allocate_full full, Option.map_eq_none_iff, Option.eq_none_iff_forall_ne_some]
  rintro ⟨n, minute, reason⟩ found
  obtain ⟨k, mem, info⟩ := earliestCancelled_mem found
  have inactive := KeyRec.cancelInfo_inactive info
  rw [active n k (tableLook_of_mem w.keys mem).1] at inactive
  cases inactive

/-! #### The checks of an issue (R49 to R51) -/

theorem State.allocate_taking (s : State) : s.taking.allocate = s.allocate := by
  rw [State.allocate, State.allocate, freeKeyFrom_congr (t := s.taking) (s := s) fun _ => rfl]
  rfl

theorem State.issueCheck_taking (s : State) (o : IssueOrder) : s.taking.issueCheck o = s.issueCheck o := by
  unfold State.issueCheck State.issueCheckWindow
  rw [State.allocate_taking]
  rfl

theorem State.issueCheck_closed {s : State} {o : IssueOrder} {r : Nat} (closed : s.notOccupiedRoom o.rooms = some r) :
    s.issueCheck o = .refused .roomState (some r) := by
  rw [State.issueCheck, closed]

theorem State.issueCheck_full {s : State} {o : IssueOrder} {r : Nat} (closed : s.notOccupiedRoom o.rooms = none)
    (full : s.fullListRoom o.rooms = some r) : s.issueCheck o = .refused .roomKeysFull (some r) := by
  rw [State.issueCheck, closed, full]

theorem State.issueCheck_far {s : State} {o : IssueOrder} {r : Nat} (closed : s.notOccupiedRoom o.rooms = none)
    (full : s.fullListRoom o.rooms = none) (far : s.genWindowRoom o.rights = some r) :
    s.issueCheck o = .refused .genWindow (some r) := by
  rw [State.issueCheck, closed, full, far]

/-- The checks of the listed rooms pass (R49, checks 4 to 6). -/
def State.roomsPass (s : State) (o : IssueOrder) : Prop :=
  s.notOccupiedRoom o.rooms = none ∧ s.fullListRoom o.rooms = none ∧ s.genWindowRoom o.rights = none

theorem State.issueCheck_roomsPass {s : State} {o : IssueOrder} (pass : s.roomsPass o) : s.issueCheck o = s.issueCheckWindow o := by
  obtain ⟨closed, full, far⟩ := pass
  rw [State.issueCheck, closed, full, far]

theorem State.issueCheckWindow_none {s : State} {o : IssueOrder} (window : issueWindow s o = none) :
    s.issueCheckWindow o = .refused .badField none := by
  rw [State.issueCheckWindow, window]

theorem State.issueCheckWindow_noAllowance {s : State} {o : IssueOrder} (window : issueWindow s o ≠ none)
    (emergency : o.rights = .emergency ∧ s.cred.allowance = 0) : s.issueCheckWindow o = .refused .noAllowance none := by
  obtain ⟨⟨start, stop⟩, is⟩ := Option.ne_none_iff_exists'.mp window
  rw [State.issueCheckWindow, is]
  exact if_pos emergency

theorem State.issueCheckWindow_tableFull {s : State} {o : IssueOrder} (window : issueWindow s o ≠ none)
    (allowed : ¬ (o.rights = .emergency ∧ s.cred.allowance = 0)) (full : s.allocate = none) :
    s.issueCheckWindow o = .refused .tableFull none := by
  obtain ⟨⟨start, stop⟩, is⟩ := Option.ne_none_iff_exists'.mp window
  rw [State.issueCheckWindow, is]
  simp only [if_neg allowed, full]

theorem State.issueCheckWindow_accepted' {s : State} {o : IssueOrder} {start stop n : Nat} {reused : Option CancelReason}
    (window : issueWindow s o = some (start, stop)) (allowed : ¬ (o.rights = .emergency ∧ s.cred.allowance = 0))
    (key : s.allocate = some (n, reused)) : s.issueCheckWindow o = .accepted n (s.newKey o start stop) reused := by
  rw [State.issueCheckWindow, window]
  simp only [if_neg allowed, key]

theorem State.genWindowRoom_eq_none {s : State} {o : IssueOrder}
    (near : ∀ rooms zones minibar, o.rights = .guest .new rooms zones minibar →
      (rooms.find? fun r => decide (127 < ((s.room r).ig + 1#8 - (s.room r).cg).toNat)) = none) :
    s.genWindowRoom o.rights = none := by
  unfold State.genWindowRoom
  split
  · next rooms zones minibar rights => exact near rooms zones minibar rights
  · rfl

theorem State.genWindowRoom_new {s : State} {o : IssueOrder} {rooms : List Nat} {zones : Mask16} {minibar : Bool}
    (rights : o.rights = .guest .new rooms zones minibar) :
    s.genWindowRoom o.rights = rooms.find? fun r => decide (127 < ((s.room r).ig + 1#8 - (s.room r).cg).toNat) := by
  rw [rights]
  rfl

theorem IssueOrder.rooms_guest {o : IssueOrder} {mode : GenMode} {rooms : List Nat} {zones : Mask16} {minibar : Bool}
    (rights : o.rights = .guest mode rooms zones minibar) : o.rooms = rooms := by
  rw [IssueOrder.rooms, rights]

/-! #### ISSUE_KEY -/

theorem exec_issueKey_outOfService {s : State} {fs : List Byte} (h : s.askedCm .desk .issueKey fs)
    (out : s.settings.service ≠ .inService) : exec .issueKey s = .next (s.taking.answer .desk .notInService []) := by
  change execIssueKey s = _
  rw [execIssueKey, State.serveCm_asked h]
  exact congrArg _ (if_pos out)

theorem exec_issueKey_badOrder {s : State} {fs : List Byte} (h : s.askedCm .desk .issueKey fs)
    (service : s.settings.service = .inService) (bad : issueOrderOf fs = none) :
    exec .issueKey s = .next (s.taking.answer .desk .badField []) := by
  change execIssueKey s = _
  have on : ¬ s.cmPop.settings.service ≠ .inService := not_not_intro service
  simp only [execIssueKey, State.serveCm_asked h, if_neg on, bad]
  rfl

theorem exec_issueKey_refused {s : State} {fs : List Byte} {o : IssueOrder} {st : Status} {room : Option Nat}
    (h : s.askedCm .desk .issueKey fs) (service : s.settings.service = .inService) (order : issueOrderOf fs = some o)
    (refused : s.issueCheck o = .refused st room) :
    exec .issueKey s = .next (s.taking.answer .desk st (room.toList.map fun r => .num 2 r)) := by
  change execIssueKey s = _
  have on : ¬ s.cmPop.settings.service ≠ .inService := not_not_intro service
  have check : s.cmPop.issueCheck o = .refused st room := (State.issueCheck_taking s o).trans refused
  simp only [execIssueKey, State.serveCm_asked h, if_neg on, order, check]
  cases room <;> rfl

theorem exec_issueKey_accepted {s : State} {fs : List Byte} {o : IssueOrder} {n : Nat} {k : KeyRec} {reused : Option CancelReason}
    (h : s.askedCm .desk .issueKey fs) (service : s.settings.service = .inService) (order : issueOrderOf fs = some o)
    (accepted : s.issueCheck o = .accepted n k reused) :
    exec .issueKey s = .next
      ((s.taking.issueApply o n k reused).answer .desk .ok (issueFields n k ((s.taking.issueApply o n k reused).imageOf n k))) := by
  change execIssueKey s = _
  have on : ¬ s.cmPop.settings.service ≠ .inService := not_not_intro service
  have check : s.cmPop.issueCheck o = .accepted n k reused := (State.issueCheck_taking s o).trans accepted
  simp only [execIssueKey, State.serveCm_asked h, if_neg on, order, check]
  rfl

theorem badRoomList_iff (count : Nat) (rooms : List Nat) :
    badRoomList count rooms = true ↔ count = 0 ∨ 4 < count ∨ (∃ r ∈ rooms, 512 ≤ r) ∨ ¬ rooms.Nodup := by
  simp only [badRoomList, Bool.or_eq_true, beq_iff_eq, decide_eq_true_eq, List.any_eq_true, or_assoc]
  rfl

/-- The GUEST orders: a mode of 0 or 1, a lawful room list, a minibar right of 0 or 1. -/
theorem issueOrderOf_guest {fs : List Byte} (kind : fieldAt fs 0 1 = 0) :
    issueOrderOf fs =
      let rooms := roomsAt fs 3 (min (fieldAt fs 2 1) 4)
      if 1 < fieldAt fs 1 1 ∨ fieldAt fs 2 1 = 0 ∨ 4 < fieldAt fs 2 1 ∨ (∃ r ∈ rooms, 512 ≤ r) ∨ ¬ rooms.Nodup ∨
        1 < fieldAt fs 23 1 then none
      else some
        { rights := .guest (if fieldAt fs 1 1 = 0 then .new else .copy) rooms (BitVec.ofNat 16 (fieldAt fs 19 2)) (fieldAt fs 23 1 == 1)
          start := fieldAt fs 11 4, stop := fieldAt fs 15 4, origin := .desk } := by
  unfold issueOrderOf
  rw [kind]
  generalize fieldAt fs 1 1 = mode
  rcases mode with _ | _ | mode
  · simp only [genModeOf, Bool.or_eq_true, badRoomList_iff, decide_eq_true_eq, or_assoc, Nat.not_lt_zero, false_or, if_true]
  · simp only [genModeOf, Bool.or_eq_true, badRoomList_iff, decide_eq_true_eq, or_assoc, Nat.zero_add, Nat.lt_irrefl, false_or,
      Nat.one_ne_zero, if_false]
  · exact (if_pos (.inl (by omega))).symm

theorem issueOrderOf_staff {fs : List Byte} (kind : fieldAt fs 0 1 = 1) :
    issueOrderOf fs =
      if fieldAt fs 2 1 ≠ 0 ∨ 15 < fieldAt fs 21 1 ∨ 1 < fieldAt fs 24 1 then none
      else some
        { rights := .staff (BitVec.ofNat 16 (fieldAt fs 19 2)) (fieldAt fs 21 1) (fieldAt fs 24 1 == 1)
          start := fieldAt fs 11 4, stop := fieldAt fs 15 4, origin := .desk } := by
  unfold issueOrderOf
  rw [kind]
  rfl

theorem issueOrderOf_service {fs : List Byte} (kind : fieldAt fs 0 1 = 2) :
    issueOrderOf fs =
      if fieldAt fs 2 1 ≠ 0 ∨ fieldAt fs 22 1 = 0 then none
      else some
        { rights := .service (BitVec.ofNat 16 (fieldAt fs 19 2)) (fieldAt fs 22 1)
          start := fieldAt fs 11 4, stop := fieldAt fs 15 4, origin := .desk } := by
  unfold issueOrderOf
  rw [kind]
  rfl

theorem issueOrderOf_emergency {fs : List Byte} (kind : fieldAt fs 0 1 = 3) :
    issueOrderOf fs =
      if fieldAt fs 2 1 ≠ 0 then none
      else some { rights := .emergency, start := fieldAt fs 11 4, stop := fieldAt fs 15 4, origin := .desk } := by
  unfold issueOrderOf
  rw [kind]
  rfl

theorem issueOrderOf_unknown {fs : List Byte} (kind : 3 < fieldAt fs 0 1) : issueOrderOf fs = none := by
  unfold issueOrderOf
  dsimp only
  split
  case h_5 => rfl
  all_goals omega

/-- The key end that an issue takes before its window is tested (R51). -/
def State.issueStop (s : State) (o : IssueOrder) : Option Nat :=
  let start := if o.start = 0 then s.clock.minute else o.start
  match o.rights with
  | .guest _ rooms _ _ =>
    if o.stop = 0 then (rooms.filterMap fun r => (s.room r).stay.map Stay.stayEnd).min? else some o.stop
  | .staff _ _ _ | .service _ _ => if o.stop = 0 then none else some o.stop
  | .emergency =>
    if Config.maxMinute - 1440 < start then none
    else if o.stop = 0 then some (start + 1440) else some (min o.stop (start + 1440))

theorem issueWindow_eq (s : State) (o : IssueOrder) :
    issueWindow s o =
      let start := if o.start = 0 then s.clock.minute else o.start
      (s.issueStop o).elim none fun stop => if stop ≤ start ∨ stop ≤ s.clock.minute then none else some (start, stop) := by
  have window : issueWindow s o =
      match s.issueStop o with
      | none => none
      | some stop =>
        if stop ≤ (if o.start = 0 then s.clock.minute else o.start) ∨ stop ≤ s.clock.minute then none
        else some (if o.start = 0 then s.clock.minute else o.start, stop) := by
    unfold issueWindow State.issueStop
    cases o.rights <;> rfl
  rw [window]
  cases s.issueStop o <;> rfl

theorem State.roomsPass_of {s : State} {o : IssueOrder} (closed : s.notOccupiedRoom o.rooms = none)
    (full : s.fullListRoom o.rooms = none)
    (near : ∀ rooms zones minibar, o.rights = .guest .new rooms zones minibar →
      (rooms.find? fun r => decide (127 < ((s.room r).ig + 1#8 - (s.room r).cg).toNat)) = none) : s.roomsPass o :=
  ⟨closed, full, State.genWindowRoom_eq_none near⟩

/-- Settles O24: ISSUE_KEY test by test; the fields that a kind admits; the window; the checks of an order. -/
theorem issueKeyIsRefusedAtItsFirstFailure : Obligations.IssueKeyIsRefusedAtItsFirstFailure := by
  refine ⟨fun s fs h => ⟨exec_issueKey_outOfService h, exec_issueKey_badOrder h, fun o service order => ⟨fun r closed => ?_,
      fun r closed full => ?_, fun r closed full isNew far => ?_, fun closed full near => ?_⟩⟩,
    fun fs => ?_, fun s o => ?_,
    fun s o => ⟨fun r => State.issueCheck_closed, fun r => State.issueCheck_full, fun r rooms zones minibar closed full rights far => ?_,
      fun ok window => ?_, fun ok window emergency none => ?_, fun start stop ok window allowed => ⟨fun full => ?_, fun n reused key => ?_⟩⟩⟩
  · exact exec_issueKey_refused h service order (State.issueCheck_closed closed)
  · exact exec_issueKey_refused h service order (State.issueCheck_full closed full)
  · obtain ⟨rooms, zones, minibar, rights⟩ := isNew
    rw [IssueOrder.rooms_guest rights] at far
    exact exec_issueKey_refused h service order (State.issueCheck_far closed full ((State.genWindowRoom_new rights).trans far))
  · have pass : s.roomsPass o := State.roomsPass_of closed full fun rooms zones minibar rights => by
      rw [← IssueOrder.rooms_guest rights]
      exact near ⟨rooms, zones, minibar, rights⟩
    have check := State.issueCheck_roomsPass pass
    exact ⟨fun window => exec_issueKey_refused h service order (check.trans (State.issueCheckWindow_none window)),
      fun window emergency none =>
        exec_issueKey_refused h service order (check.trans (State.issueCheckWindow_noAllowance window ⟨emergency, none⟩)),
      fun window allowed full =>
        exec_issueKey_refused h service order (check.trans (State.issueCheckWindow_tableFull window allowed full))⟩
  · by_cases guest : fieldAt fs 0 1 = 0
    · exact (issueOrderOf_guest guest).trans (if_pos guest).symm
    refine Eq.trans ?_ (if_neg guest).symm
    by_cases staff : fieldAt fs 0 1 = 1
    · exact (issueOrderOf_staff staff).trans (if_pos staff).symm
    refine Eq.trans ?_ (if_neg staff).symm
    by_cases service : fieldAt fs 0 1 = 2
    · exact (issueOrderOf_service service).trans (if_pos service).symm
    refine Eq.trans ?_ (if_neg service).symm
    by_cases emergency : fieldAt fs 0 1 = 3
    · exact (issueOrderOf_emergency emergency).trans (if_pos emergency).symm
    · exact (issueOrderOf_unknown (by omega)).trans (if_neg emergency).symm
  · rw [issueWindow_eq, State.issueStop]
    dsimp only
    generalize (if o.start = 0 then s.clock.minute else o.start) = start
    cases o.rights with
    | emergency =>
      dsimp only
      split
      · next far => exact (if_pos far).symm
      · next near => refine Eq.trans ?_ (if_neg near).symm; split <;> rfl
    | _ => dsimp only; split <;> rfl
  · exact State.issueCheck_far closed full ((State.genWindowRoom_new rights).trans far)
  · obtain ⟨closed, full, near⟩ := ok
    exact (State.issueCheck_roomsPass (State.roomsPass_of closed full near)).trans (State.issueCheckWindow_none window)
  · obtain ⟨closed, full, near⟩ := ok
    exact (State.issueCheck_roomsPass (State.roomsPass_of closed full near)).trans
      (State.issueCheckWindow_noAllowance window ⟨emergency, none⟩)
  · obtain ⟨closed, full', near⟩ := ok
    exact (State.issueCheck_roomsPass (State.roomsPass_of closed full' near)).trans
      (State.issueCheckWindow_tableFull (by rw [window]; exact Option.some_ne_none _) allowed full)
  · obtain ⟨closed, full, near⟩ := ok
    rw [State.issueCheck_roomsPass (State.roomsPass_of closed full near), State.issueCheckWindow_accepted' window allowed key,
      State.newKey]
    cases o.rights with
    | guest mode => cases mode <;> rfl
    | _ => rfl

end Sys2Proof.Machine
end

section
/-! PROOFS. An issue applied, and the encoding confirmed (O25, O26). -/

namespace Sys2Proof.Machine

/-! #### An issue applied (R54) -/

/-- The kind of key that an order asks for. -/
def IssueRights.kind : IssueRights → KeyKind
  | .guest _ _ _ _ => .guest
  | .staff _ _ _ => .staff
  | .service _ _ => .service
  | .emergency => .emergency

/-- What an applied issue writes besides the key and the rooms it joins. -/
theorem State.issueApply_frame (s : State) (o : IssueOrder) (n : Nat) (k : KeyRec) (reused : Option CancelReason) :
    s.issueApply o n k reused =
      { s with
        cred := { s.cred with
          rooms := (s.issueApply o n k reused).cred.rooms, keys := (s.issueApply o n k reused).cred.keys
          allowance := if o.rights = .emergency then s.cred.allowance - 1 else s.cred.allowance }
        audit := if o.rights = .emergency then { s.audit with notices := s.audit.notices ||| 64#16 } else s.audit
        journal := { s.journal with
          offers := s.journal.offers ++
            s.recordNow .credentialManager
                (.keyIssued n o.rights.kind k.start k.stop o.origin reused
                  (if o.rights = .emergency then some (s.cred.allowance - 1) else none)) ::
              (if o.rights.kind = .guest then [s.recordNow .credentialManager (.keyIssuedRooms n k.entries)] else []) } } := by
  have joined := State.joinLists_frame (s.setKey n (some k)) n k.entries
  unfold onlyRooms at joined
  unfold State.issueApply
  rw [joined]
  cases o.rights with
  | guest => simp only [State.credOffer_eq, State.offering_offering]; rfl
  | _ => rfl

theorem State.issueApply_enrolled {s : State} (w : s.tablesWf) (o : IssueOrder) (n : Nat) {k : KeyRec} (reused : Option CancelReason)
    (nodup : (k.entries.map Entry.room).Nodup) : Enrolled s (s.issueApply o n k reused) n k := by
  have spec := State.enroll_spec w n nodup
  unfold State.issueApply
  cases o.rights <;> exact ⟨spec.keys, spec.listed, spec.rooms, spec.entries⟩

theorem State.imageOf_congr {s t : State} (same : t.settings.record = s.settings.record) (n : Nat) (k : KeyRec) :
    t.imageOf n k = s.imageOf n k := by
  rw [State.imageOf, State.imageOf, same]

theorem cardImage_eq (site wing key stamp : Nat) :
    cardImage site wing key stamp =
      let bytes := bigEndian 2 site ++ bigEndian 1 wing ++ bigEndian 2 key ++ bigEndian 2 stamp
      bytes ++ [BitVec.ofNat 8 (255 - (bytes.map BitVec.toNat).sum % 256)] := by
  have sum : ∀ (l : List Byte) (n : Nat), l.foldl (fun n b => n + b.toNat) n = n + (l.map BitVec.toNat).sum := fun l => by
    induction l with
    | nil => simp
    | cons b l ih => intro n; rw [List.foldl_cons, ih, List.map_cons, List.sum_cons, Nat.add_assoc]
  rw [cardImage]
  simp only [sum, Nat.zero_add]

theorem cardImageReply_eq (tag : Option Byte) (entry copy : Nat) {image : List Byte} (eight : image.length = 8) :
    cardImageReply tag entry copy image =
      [tag.getD 0#8, 0#8, 0x4F#8, BitVec.ofNat 8 entry, BitVec.ofNat 8 copy] ++ image ++ List.replicate 3 0#8 := by
  have ten : (bigEndian 1 entry ++ bigEndian 1 copy ++ image).length = 10 := by
    simp only [List.length_append, bigEndian_length, eight]
  rw [cardImageReply, replyRecord_eq _ _ _ (by omega), ten]
  simp [bigEndian, statusCode, cardImageCode]

/-! #### ISSUE_KEY accepted -/

theorem issueOrderOf_origin {fs : List Byte} {o : IssueOrder} (order : issueOrderOf fs = some o) : o.origin = .desk := by
  unfold issueOrderOf at order
  dsimp only at order
  repeat' split at order
  all_goals cases order
  all_goals rfl

theorem State.newKey_rooms_nodup {s : State} {fs : List Byte} {o : IssueOrder} (order : issueOrderOf fs = some o) (start stop : Nat) :
    ((s.newKey o start stop).entries.map Entry.room).Nodup := by
  rw [State.newKey_entries]
  exact issueOrderOf_nodup order

theorem State.issueCheck_accepted_of {s : State} {o : IssueOrder} {start stop n : Nat} {reused : Option CancelReason}
    (rooms : ∀ r ∈ o.rooms, (s.room r).state = .occupied ∧ (s.room r).keyList.length < 8)
    (near : ∀ rooms zones minibar, o.rights = .guest .new rooms zones minibar →
      ∀ r ∈ rooms, ((s.room r).ig + 1#8 - (s.room r).cg).toNat ≤ 127)
    (window : issueWindow s o = some (start, stop)) (allowance : o.rights = .emergency → 0 < s.cred.allowance)
    (key : s.allocate = some (n, reused)) : s.issueCheck o = .accepted n (s.newKey o start stop) reused := by
  have pass : s.roomsPass o := by
    refine State.roomsPass_of (List.find?_eq_none.mpr fun r hr => ?_) (List.find?_eq_none.mpr fun r hr => ?_)
      fun listed zones minibar rights => List.find?_eq_none.mpr fun r hr => ?_
    · simp [(rooms r hr).1]
    · exact fun full => absurd (rooms r hr).2 (Nat.not_lt.mpr (of_decide_eq_true full))
    · simpa using near listed zones minibar rights r hr
  rw [State.issueCheck_roomsPass pass]
  exact State.issueCheckWindow_accepted' window (fun ⟨emergency, gone⟩ => by have := allowance emergency; omega) key

theorem State.newKey_kind (s : State) (o : IssueOrder) (start stop : Nat) :
    kindOfRights (s.newKey o start stop).rights = o.rights.kind := by
  rw [State.newKey]
  cases o.rights <;> rfl

/-- Settles O25: the Desk's issue, the application it shares with a group copy, and the two images. -/
theorem issuedKeyIsPendingAndListed : Obligations.IssuedKeyIsPendingAndListed := by
  refine ⟨fun s fs o n start stop reused w h service order rooms near window allowance key => ?_,
    fun s o n k reused w nodup => ?_, fun s n k site is => ?_, fun tag entry copy image eight => cardImageReply_eq tag entry copy eight⟩
  · have accepted := State.issueCheck_accepted_of rooms near window allowance key
    have nodup := State.newKey_rooms_nodup (s := s) order start stop
    have spec := State.issueApply_enrolled (s := s.taking) w o n reused nodup
    have frame := s.taking.issueApply_frame o n (s.newKey o start stop) reused
    have settings := congrArg (fun t : State => t.settings.record) frame
    have left := congrArg (fun t : State => t.cred.allowance) frame
    have audit := congrArg State.audit frame
    have listed := s.newKey_entries o start stop
    intro deadline gen rights k
    have rights_eq : rights = (s.newKey o start stop).rights := by
      simp only [rights, gen, State.newKey]
      cases o.rights with
      | guest mode => cases mode <;> rfl
      | _ => rfl
    have k_eq : k = s.newKey o start stop := by
      simp only [k, rights_eq]
      rw [State.newKey, issueOrderOf_origin order]
      rfl
    have entries : (s.newKey o start stop).entries = o.rooms.map fun r => { room := r, gen := gen r } := by
      simp only [gen, State.newKey, KeyRec.entries, IssueOrder.rooms, issueRights]
      cases o.rights with
      | guest mode => cases mode <;> rfl
      | _ => rfl
    clear_value k rights gen
    subst k_eq rights_eq
    have image := State.imageOf_congr (s := s) settings n (s.newKey o start stop)
    refine ⟨s.taking.issueApply o n (s.newKey o start stop) reused, by rw [exec_issueKey_accepted h service order accepted, image],
      (spec.keys n).trans (if_pos rfl), fun m other => (spec.keys m).trans (if_neg other),
      fun r off => spec.rooms r (by rw [listed]; exact off), fun r on => ?_, fun plain => ?_, fun emergency => ?_, ?_⟩
    · exact spec.listed { room := r, gen := gen r } (by rw [entries]; exact List.mem_map_of_mem on)
    · exact ⟨left.trans (if_neg plain), audit.trans (if_neg plain)⟩
    · exact ⟨left.trans (if_pos emergency), audit.trans (if_pos emergency)⟩
    · refine frame.trans ?_
      rw [left, audit, State.newKey_kind, issueOrderOf_origin order]
      simp only [State.newKey, KeyRec.entries, issueRights]
      cases o.rights <;> rfl
  · have spec := State.issueApply_enrolled w o n reused nodup
    refine ⟨(spec.keys n).trans (if_pos rfl), fun m other => (spec.keys m).trans (if_neg other), spec.rooms, spec.listed, ?_⟩
    refine (s.issueApply_frame o n k reused).trans ?_
    cases o.rights <;> rfl
  · rw [State.imageOf, is]
    exact cardImage_eq ..

/-! #### Requests that name a key (R56, R58, R59) -/

theorem State.keyRefusal_unprovisioned {s : State} (n : Nat) (unprovisioned : s.settings.service = .unprovisioned) :
    s.keyRefusal n = some .notReady := if_pos unprovisioned

theorem State.keyRefusal_beyond {s : State} {n : Nat} (provisioned : s.settings.service ≠ .unprovisioned) (beyond : 2048 ≤ n) :
    s.keyRefusal n = some .badField := (if_neg provisioned).trans (if_pos beyond)

theorem State.keyRefusal_none {s : State} {n : Nat} (provisioned : s.settings.service ≠ .unprovisioned) (within : n < 2048) :
    s.keyRefusal n = none := (if_neg provisioned).trans (if_neg (Nat.not_le.mpr within))

theorem State.pendingKey_eq_none {s : State} {n : Nat} (other : ∀ k deadline, s.key n = some k → k.status ≠ .pending deadline) :
    s.pendingKey n = none := by
  refine Option.eq_none_iff_forall_ne_some.mpr fun k found => ?_
  obtain ⟨is, deadline, pending⟩ := State.pendingKey_some found
  exact other k deadline is pending

theorem State.pendingKey_eq_some {s : State} {n deadline : Nat} {k : KeyRec} (is : s.key n = some k)
    (pending : k.status = .pending deadline) : s.pendingKey n = some k := by
  rw [State.pendingKey, is, Option.bind_some, pending]

theorem State.liveKeyOf_isSome_iff {s : State} (w : s.tablesWf) (serial : Nat) :
    (s.liveKeyOf serial).isSome = true ↔ ∃ n k, s.key n = some k ∧ k.status = .live serial := by
  constructor
  · intro some
    obtain ⟨⟨n, k⟩, found⟩ := Option.isSome_iff_exists.mp some
    obtain ⟨live, is⟩ := State.liveKeyOf_some found
    exact ⟨n, k, is w.keys, live⟩
  · rintro ⟨n, k, is, live⟩
    exact Option.isSome_iff_ne_none.mpr fun no => State.liveKeyOf_none no n ⟨k, is, live⟩

theorem State.watched_isSome_iff (s : State) (serial : Nat) :
    (s.watched serial).isSome = true ↔ ∃ e ∈ s.cred.watch, e.serial = serial := by
  rw [Option.isSome_iff_ne_none, ne_eq, State.watched_none]
  simp

/-! #### CONFIRM_ENCODE -/

theorem exec_confirmEncode_asked {s : State} {fs : List Byte} (h : s.askedCm .desk .confirmEncode fs) :
    exec .confirmEncode s = .next
      ((s.keyRefusal (fieldAt fs 0 2)).elim
        ((s.pendingKey (fieldAt fs 0 2)).elim (s.taking.answer .desk .keyState []) fun k =>
          (s.confirmRefusal (fieldAt fs 2 4)).elim
            (((s.taking.setKey (fieldAt fs 0 2) (some { k with status := .live (fieldAt fs 2 4) })).offering
              [s.recordNow .credentialManager (.keyEncoded (fieldAt fs 0 2) (fieldAt fs 2 4))]).answer .desk .ok
              [.num 2 (fieldAt fs 0 2), .num 4 (fieldAt fs 2 4), .num 4 k.start, .num 4 k.stop])
            fun st => s.taking.answer .desk st [])
        fun st => s.taking.answer .desk st []) := by
  have refusal : s.cmPop.keyRefusal (fieldAt fs 0 2) = s.keyRefusal (fieldAt fs 0 2) := rfl
  have pending : s.cmPop.pendingKey (fieldAt fs 0 2) = s.pendingKey (fieldAt fs 0 2) := rfl
  have confirm : s.cmPop.confirmRefusal (fieldAt fs 2 4) = s.confirmRefusal (fieldAt fs 2 4) := rfl
  change execConfirmEncode s = _
  simp only [execConfirmEncode, State.serveCm_asked h, refusal, pending, confirm]
  cases s.keyRefusal (fieldAt fs 0 2) with
  | some => rfl
  | none =>
    cases s.pendingKey (fieldAt fs 0 2) with
    | none => rfl
    | some => cases s.confirmRefusal (fieldAt fs 2 4) <;> rfl

/-- Settles O26: the refusals in their order, then the binding. -/
theorem confirmEncodeBindsThePendingKey : Obligations.ConfirmEncodeBindsThePendingKey := by
  intro s fs w h
  have live := State.liveKeyOf_isSome_iff w (fieldAt fs 2 4)
  have listed := s.watched_isSome_iff (fieldAt fs 2 4)
  refine ⟨fun u => ?_, fun p beyond => ?_, fun p within => ⟨fun other => ?_, fun k deadline is pending => ⟨fun zero => ?_,
    fun serial bound => ?_, fun serial free watched => ?_, fun serial free unwatched => ?_⟩⟩⟩ <;>
    rw [exec_confirmEncode_asked h]
  · rw [State.keyRefusal_unprovisioned _ u, Option.elim_some]
  · rw [State.keyRefusal_beyond p beyond, Option.elim_some]
  · rw [State.keyRefusal_none p within, State.pendingKey_eq_none other, Option.elim_none, Option.elim_none]
  all_goals rw [State.keyRefusal_none p within, State.pendingKey_eq_some is pending, Option.elim_none, Option.elim_some,
    State.confirmRefusal]
  · rw [if_pos zero, Option.elim_some]
  · rw [if_neg serial, if_pos (live.mpr bound), Option.elim_some]
  · rw [if_neg serial, if_neg (mt live.mp free), if_pos (listed.mpr watched), Option.elim_some]
  · rw [if_neg serial, if_neg (mt live.mp free), if_neg (mt listed.mp unwatched), Option.elim_none]

end Sys2Proof.Machine
end

section
/-! PROOFS. Keys ended by the desk, the Watch List, the allowance (O27, O28, O30). -/

namespace Sys2Proof.Machine

/-! #### A key ends (R43, R23) -/

/-- What a key's end leaves of the other keys and of the rooms. -/
structure KeyEnded (s t : State) (n : Nat) (k : KeyRec) : Prop where
  others : ∀ m, m ≠ n → t.key m = s.key m
  unlisted : ∀ e ∈ k.entries, n ∉ (t.room e.room).keyList
  left : ∀ r ∈ k.entries.map Entry.room, t.room r = s.roomWithout n r
  stayed : ∀ r, r ∉ k.entries.map Entry.room → t.room r = s.room r

theorem State.not_mem_roomWithout (s : State) (n r : Nat) : n ∉ (s.roomWithout n r).keyList := by
  simp [State.roomWithout]

theorem KeyEnded.of_room {s t : State} {n : Nat} {k : KeyRec} (others : ∀ m, m ≠ n → t.key m = s.key m)
    (rooms : ∀ r, t.room r = if r ∈ k.entries.map Entry.room then s.roomWithout n r else s.room r) : KeyEnded s t n k where
  others := others
  unlisted e he := by
    rw [rooms, if_pos (List.mem_map_of_mem he)]
    exact s.not_mem_roomWithout n e.room
  left r hr := (rooms r).trans (if_pos hr)
  stayed r hr := (rooms r).trans (if_neg hr)

theorem State.cancelKey_ended {s : State} (w : s.tablesWf) (n : Nat) (k : KeyRec) (reason : CancelReason) :
    KeyEnded s (s.cancelKey n k reason) n k :=
  .of_room (fun m => s.cancelKey_other n m k reason) (State.cancelKey_room w.rooms n k reason)

theorem State.freeKey_ended {s : State} (w : s.tablesWf) (n : Nat) (k : KeyRec) : KeyEnded s (s.freeKey n k) n k :=
  .of_room (fun m => s.freeKey_other n m k) (State.freeKey_room w.rooms n k)

theorem State.activeKey_eq_none {s : State} {n : Nat} (inactive : ∀ k, s.key n = some k → k.isActive = false) :
    s.activeKey n = none := by
  refine Option.eq_none_iff_forall_ne_some.mpr fun k found => ?_
  obtain ⟨is, active⟩ := State.activeKey_some found
  rw [inactive k is] at active
  cases active

theorem State.activeKey_eq_some {s : State} {n : Nat} {k : KeyRec} (is : s.key n = some k) (active : k.isActive = true) :
    s.activeKey n = some k := by
  rw [State.activeKey, is, Option.bind_some]
  split
  · next cancelled => rw [KeyRec.isActive, cancelled] at active; cases active
  · rfl

theorem KeyRec.serial_isSome_iff (k : KeyRec) : k.serial.isSome = true ↔ ∃ serial, k.status = .live serial := by
  unfold KeyRec.serial
  cases k.status <;> simp

/-- The state in which a key is cancelled with its KEY_CANCELLED record. -/
def State.withCancelled (s : State) (n : Nat) (k : KeyRec) (reason : CancelReason) : State :=
  (s.cancelKey n k reason).credOffer (.keyCancelled n reason false)

theorem State.withCancelled_frame (s : State) (n : Nat) (k : KeyRec) (reason : CancelReason) :
    s.withCancelled n k reason =
      { s with
        cred := { s.cred with
          rooms := (s.withCancelled n k reason).cred.rooms, keys := (s.withCancelled n k reason).cred.keys }
        journal := { s.journal with
          offers := s.journal.offers ++ [s.recordNow .credentialManager (.keyCancelled n reason false)] } } := by
  have frame := s.cancelKey_frame n k reason
  unfold State.withCancelled
  rw [frame]
  rfl

theorem State.withCancelled_ended {s : State} (w : s.tablesWf) (n : Nat) (k : KeyRec) (reason : CancelReason) :
    KeyEnded s (s.withCancelled n k reason) n k :=
  have ended := State.cancelKey_ended w n k reason
  ⟨ended.others, ended.unlisted, ended.left, ended.stayed⟩

theorem State.withCancelled_key {s : State} (w : s.tablesWf) (n : Nat) (k : KeyRec) (reason : CancelReason) :
    (s.withCancelled n k reason).key n = some (k.cancelled reason s.clock.minute) :=
  State.cancelKey_key s n k reason w.keys

theorem State.withCancelled_watchPlan (s : State) (n : Nat) (k : KeyRec) (reason : CancelReason) (serial u : Nat) :
    (s.withCancelled n k reason).watchPlan serial u = s.watchPlan serial u := by
  rw [State.withCancelled_frame]
  rfl

theorem KeyRec.cancelled_live {k : KeyRec} {serial : Nat} (live : k.status = .live serial) (reason : CancelReason) (minute : Nat) :
    k.cancelled reason minute = { k with status := .cancelled reason minute (some serial) } := by
  rw [KeyRec.cancelled, KeyRec.serial, live]

/-! #### CANCEL_KEY (R58) -/

theorem exec_cancelKey_asked {s : State} {fs : List Byte} (h : s.askedCm .desk .cancelKey fs) :
    exec .cancelKey s = .next
      ((s.keyRefusal (fieldAt fs 0 2)).elim
        ((s.activeKey (fieldAt fs 0 2)).elim (s.taking.answer .desk .keyState []) fun k =>
          if k.serial.isSome then (s.taking.withCancelled (fieldAt fs 0 2) k .desk).answer .desk .ok [.num 1 3]
          else ((s.taking.freeKey (fieldAt fs 0 2) k).credOffer (.keyCancelled (fieldAt fs 0 2) .desk true)).answer .desk .ok
            [.num 1 0])
        fun st => s.taking.answer .desk st []) := by
  have refusal : s.cmPop.keyRefusal (fieldAt fs 0 2) = s.keyRefusal (fieldAt fs 0 2) := rfl
  have active : s.cmPop.activeKey (fieldAt fs 0 2) = s.activeKey (fieldAt fs 0 2) := rfl
  change execCancelKey s = _
  simp only [execCancelKey, State.serveCm_asked h, refusal, active]
  cases s.keyRefusal (fieldAt fs 0 2) with
  | some => rfl
  | none => cases s.activeKey (fieldAt fs 0 2) <;> rfl

/-! #### REPORT_LOST (R59) -/

theorem exec_reportLost_asked {s : State} {fs : List Byte} (h : s.askedCm .desk .reportLost fs) :
    exec .reportLost s = .next
      ((s.keyRefusal (fieldAt fs 0 2)).elim
        ((s.activeKey (fieldAt fs 0 2)).elim (s.taking.answer .desk .keyState []) fun k =>
          let t := s.taking.withCancelled (fieldAt fs 0 2) k .lost
          k.serial.elim (t.answer .desk .ok [.num 1 3, .flag false, .num 1 2]) fun x =>
            (t.watchAdd x (lostUntil k) .lost).answer .desk .ok
              ([.num 1 3, .flag true, .num 1 (if s.watchPlan x (lostUntil k) = .full then 1 else 0)] ++
                evictedFields (s.watchPlan x (lostUntil k))))
        fun st => s.taking.answer .desk st []) := by
  have refusal : s.cmPop.keyRefusal (fieldAt fs 0 2) = s.keyRefusal (fieldAt fs 0 2) := rfl
  have active : s.cmPop.activeKey (fieldAt fs 0 2) = s.activeKey (fieldAt fs 0 2) := rfl
  have outcome : ∀ plan, lostOutcomeCode (some plan) = if plan = .full then 1 else 0 := fun plan => by cases plan <;> rfl
  change execReportLost s = _
  simp only [execReportLost, State.serveCm_asked h, refusal, active]
  cases s.keyRefusal (fieldAt fs 0 2) with
  | some => rfl
  | none =>
    cases s.activeKey (fieldAt fs 0 2) with
    | none => rfl
    | some k =>
      simp only [Option.elim_none, Option.elim_some]
      cases k.serial with
      | none => rfl
      | some x =>
        have plan : ((s.cmPop.cancelKey (fieldAt fs 0 2) k .lost).credOffer (.keyCancelled (fieldAt fs 0 2) .lost false)).watchPlan x
            (lostUntil k) = s.watchPlan x (lostUntil k) :=
          s.taking.withCancelled_watchPlan (fieldAt fs 0 2) k .lost x (lostUntil k)
        simp only [Option.map_some, Option.elim_some, Option.isSome_some, Option.getD_some, plan, outcome]
        rfl

/-- Settles O27: the refusals of both; a key freed or cancelled by the desk; a key lost. -/
theorem cancelKeyAndReportLostEndTheKey : Obligations.CancelKeyAndReportLostEndTheKey := by
  refine ⟨fun s fs w => ⟨fun h => ⟨fun u => ?_, fun p beyond => ?_, fun p within inactive => ?_⟩,
      fun h => ⟨fun u => ?_, fun p beyond => ?_, fun p within => ⟨fun inactive => ?_, fun k is active => ?_⟩⟩⟩,
    fun s fs k w h p within is active => ?_⟩
  · rw [exec_reportLost_asked h, State.keyRefusal_unprovisioned _ u, Option.elim_some]
  · rw [exec_reportLost_asked h, State.keyRefusal_beyond p beyond, Option.elim_some]
  · rw [exec_reportLost_asked h, State.keyRefusal_none p within, State.activeKey_eq_none inactive, Option.elim_none, Option.elim_none]
  · rw [exec_cancelKey_asked h, State.keyRefusal_unprovisioned _ u, Option.elim_some]
  · rw [exec_cancelKey_asked h, State.keyRefusal_beyond p beyond, Option.elim_some]
  · rw [exec_cancelKey_asked h, State.keyRefusal_none p within, State.activeKey_eq_none inactive, Option.elim_none, Option.elim_none]
  · rw [exec_cancelKey_asked h, State.keyRefusal_none p within, State.activeKey_eq_some is active, Option.elim_none, Option.elim_some]
    by_cases isLive : ∃ serial, k.status = .live serial
    · rw [if_pos (k.serial_isSome_iff.mpr isLive)]
      have ended := State.withCancelled_ended (s := s.taking) w (fieldAt fs 0 2) k .desk
      have frame := s.taking.withCancelled_frame (fieldAt fs 0 2) k .desk
      have offers := congrArg (fun t : State => t.journal.offers) frame
      refine ⟨_, ⟨fun _ => rfl, fun no => absurd isLive no⟩, fun serial live => ?_, fun no => absurd isLive no, ended.others,
        ended.unlisted, ended.left, ended.stayed, fun _ => offers, fun no => absurd isLive no, ?_⟩
      · rw [State.withCancelled_key (s := s.taking) w, KeyRec.cancelled_live live]
        rfl
      · rw [offers]
        exact frame
    · rw [if_neg (mt k.serial_isSome_iff.mp isLive)]
      have ended := State.freeKey_ended (s := s.taking) w (fieldAt fs 0 2) k
      have frame := s.taking.freeKey_frame (fieldAt fs 0 2) k
      refine ⟨_, ⟨fun yes => absurd yes isLive, fun _ => rfl⟩, fun serial live => absurd ⟨serial, live⟩ isLive,
        fun _ => State.freeKey_key s.taking (fieldAt fs 0 2) k w.keys, ended.others, ended.unlisted, ended.left, ended.stayed,
        fun yes => absurd yes isLive, fun _ => ?_, ?_⟩ <;> rw [frame] <;> rfl
  · have lost := exec_reportLost_asked h
    rw [State.keyRefusal_none p within, State.activeKey_eq_some is active, Option.elim_none, Option.elim_some] at lost
    have ended := State.withCancelled_ended (s := s.taking) w (fieldAt fs 0 2) k .lost
    refine ⟨s.taking.withCancelled (fieldAt fs 0 2) k .lost, State.withCancelled_key (s := s.taking) w _ _ _, ended.others,
      ended.unlisted, ended.stayed, ended.left, s.taking.withCancelled_frame _ _ _, fun deadline pending => ?_, fun serial live => ?_⟩
    · have unbound : k.serial = none := by rw [KeyRec.serial, pending]
      rw [lost, unbound, Option.elim_none]
    · have bound : k.serial = some serial := by rw [KeyRec.serial, live]
      rw [lost, bound, Option.elim_some]
      rfl

/-! #### WATCH_ADD (R65) -/

theorem State.watchAddRefusal_unprovisioned {s : State} (serial u : Nat) (unprovisioned : s.settings.service = .unprovisioned) :
    s.watchAddRefusal serial u = some .notReady := if_pos unprovisioned

theorem State.watchAddRefusal_badField {s : State} {serial u : Nat} (provisioned : s.settings.service ≠ .unprovisioned)
    (bad : serial = 0 ∨ u ≤ s.clock.minute) : s.watchAddRefusal serial u = some .badField := by
  rw [State.watchAddRefusal, if_neg provisioned]
  obtain zero | past := bad
  · rw [if_pos zero]
  · rw [if_pos past, ite_self]

theorem State.watchAddRefusal_lawful {s : State} {serial u : Nat} (provisioned : s.settings.service ≠ .unprovisioned)
    (nonzero : serial ≠ 0) (ahead : s.clock.minute < u) :
    s.watchAddRefusal serial u = if s.watchPlan serial u = .full then some .watchFull else none := by
  rw [State.watchAddRefusal, if_neg provisioned, if_neg nonzero, if_neg (Nat.not_le.mpr ahead)]

/-- The fields of an OK reply to WATCH_ADD (R65). -/
def watchAddFields (plan : WatchOutcome) (u reason : Nat) (key : Option Nat) : List Field :=
  [.num 1 (if plan = .updated then 1 else 0)] ++ evictedFields plan ++ [.num 4 u, .num 1 reason, optField 2 key]

theorem exec_watchAdd_asked {s : State} {fs : List Byte} (h : s.askedCm .desk .watchAdd fs) :
    exec .watchAdd s = .next
      ((s.watchAddRefusal (fieldAt fs 0 4) (fieldAt fs 4 4)).elim
        ((s.liveKeyOf (fieldAt fs 0 4)).elim
          ((s.taking.watchAdd (fieldAt fs 0 4) (fieldAt fs 4 4) .desk).answer .desk .ok
            (watchAddFields (s.watchPlan (fieldAt fs 0 4) (fieldAt fs 4 4)) (fieldAt fs 4 4) 1 none))
          fun live =>
            ((s.taking.withCancelled live.1 live.2 .lost).watchAdd (fieldAt fs 0 4) (fieldAt fs 4 4) .lost).answer .desk .ok
              (watchAddFields (s.watchPlan (fieldAt fs 0 4) (fieldAt fs 4 4)) (fieldAt fs 4 4) 0 (some live.1)))
        fun st => s.taking.answer .desk st []) := by
  have refusal : s.cmPop.watchAddRefusal (fieldAt fs 0 4) (fieldAt fs 4 4) = s.watchAddRefusal (fieldAt fs 0 4) (fieldAt fs 4 4) := rfl
  have live : s.cmPop.liveKeyOf (fieldAt fs 0 4) = s.liveKeyOf (fieldAt fs 0 4) := rfl
  have outcome : ∀ plan, addOutcomeCode plan = if plan = .updated then 1 else 0 := fun plan => by cases plan <;> rfl
  change execWatchAdd s = _
  simp only [execWatchAdd, State.serveCm_asked h, refusal, live, outcome]
  cases s.watchAddRefusal (fieldAt fs 0 4) (fieldAt fs 4 4) with
  | some => rfl
  | none => cases s.liveKeyOf (fieldAt fs 0 4) <;> rfl

theorem State.liveKeyOf_eq_none {s : State} (w : s.tablesWf) {serial : Nat}
    (free : ∀ m k, s.key m = some k → k.status ≠ .live serial) : s.liveKeyOf serial = none := by
  refine Option.not_isSome_iff_eq_none.mp fun bound => ?_
  obtain ⟨n, k, is, live⟩ := (State.liveKeyOf_isSome_iff w serial).mp bound
  exact free n k is live

theorem State.liveKeyOf_eq_some {s : State} (w : s.tablesWf) (unique : s.serialsUnique) {serial n : Nat} {k : KeyRec}
    (is : s.key n = some k) (live : k.status = .live serial) : s.liveKeyOf serial = some (n, k) := by
  obtain ⟨⟨m, j⟩, found⟩ := Option.isSome_iff_exists.mp ((State.liveKeyOf_isSome_iff w serial).mpr ⟨n, k, is, live⟩)
  obtain ⟨liveJ, isJ⟩ := State.liveKeyOf_some found
  obtain rfl := unique.1 n m k j serial is (isJ w.keys) live liveJ
  obtain rfl := Option.some.inj (is.symm.trans (isJ w.keys))
  exact found

/-! #### The add procedure (R63, R64) -/

theorem not_mem_serials {w : List WatchEntry} {front back : List WatchEntry} {e : WatchEntry}
    (nodup : (w.map WatchEntry.serial).Nodup) (list : w = front ++ e :: back) : ∀ x ∈ front ++ back, x.serial ≠ e.serial := by
  rw [list, List.map_append, List.map_cons] at nodup
  obtain ⟨apart, -⟩ := List.nodup_cons.mp (List.nodup_middle.mp nodup)
  rw [← List.map_append] at apart
  exact fun x hx same => apart (same ▸ List.mem_map_of_mem hx)

/-- The earliest entry is the one nearest the front of several: later ones before it, none earlier behind it (R64). -/
theorem watchEarliest_append_cons {front back : List WatchEntry} {e : WatchEntry}
    (later : ∀ x ∈ front, e.untilMinute < x.untilMinute) (none : ∀ x ∈ back, e.untilMinute ≤ x.untilMinute) :
    watchEarliest (front ++ e :: back) = some e := by
  induction front with
  | nil =>
    rw [List.nil_append, watchEarliest]
    split
    · rfl
    · next f found => rw [if_neg (Nat.not_lt.mpr (none f (watchEarliest_mem found)))]
  | cons x front ih =>
    obtain ⟨head, rest⟩ := List.forall_mem_cons.mp later
    rw [List.cons_append, watchEarliest, ih rest]
    exact if_pos head

theorem State.watchPlan_updated {s : State} {serial : Nat} {e : WatchEntry} (listed : s.watched serial = some e) (u : Nat) :
    s.watchPlan serial u = .updated := by
  rw [State.watchPlan, listed]

theorem State.watchPlan_room {s : State} {serial : Nat} (absent : s.watched serial = none) (room : s.cred.watch.length < 256) (u : Nat) :
    s.watchPlan serial u = .added := by
  rw [State.watchPlan, absent]
  exact if_pos room

theorem State.watchPlan_noRoom {s : State} {serial : Nat} {e : WatchEntry} (absent : s.watched serial = none)
    (full : 256 ≤ s.cred.watch.length) (earliest : watchEarliest s.cred.watch = some e) (u : Nat) :
    s.watchPlan serial u = if e.untilMinute < u then .evicting e.serial else .full := by
  rw [State.watchPlan, absent, earliest]
  exact if_neg (Nat.not_lt.mpr full)

/-- Settles O28: WATCH_ADD by its refusals, without and with a LIVE key bound to the serial; the add procedure by its plan. -/
theorem watchAddAddsUpdatesOrEvicts : Obligations.WatchAddAddsUpdatesOrEvicts := by
  refine ⟨fun s fs h => ⟨fun u => ?_, fun p bad => ?_, fun p nonzero ahead => ⟨fun full => ?_, fun notFull => ⟨fun free w => ?_,
      fun n k is live w unique => ?_⟩⟩⟩,
    fun s serial u reason nodup => ⟨fun old listed same => ?_, fun absent room => ?_, fun front old back list absent full later none =>
      ⟨fun ends => ?_, fun stays => ?_⟩⟩⟩
  · rw [exec_watchAdd_asked h, State.watchAddRefusal_unprovisioned _ _ u, Option.elim_some]
  · rw [exec_watchAdd_asked h, State.watchAddRefusal_badField p bad, Option.elim_some]
  · rw [exec_watchAdd_asked h, State.watchAddRefusal_lawful p nonzero ahead, if_pos full, Option.elim_some]
  · rw [exec_watchAdd_asked h, State.watchAddRefusal_lawful p nonzero ahead, if_neg notFull, State.liveKeyOf_eq_none w free]
    rfl
  · rw [exec_watchAdd_asked h, State.watchAddRefusal_lawful p nonzero ahead, if_neg notFull, State.liveKeyOf_eq_some w unique is live]
    have ended := State.withCancelled_ended (s := s.taking) w n k .lost
    refine ⟨s.taking.withCancelled n k .lost, rfl, ?_, ended.others, ended.unlisted, ended.left, ended.stayed,
      s.taking.withCancelled_frame n k .lost⟩
    rw [State.withCancelled_key (s := s.taking) w, KeyRec.cancelled_live live]
    rfl
  · obtain ⟨front, back, list⟩ := List.append_of_mem listed
    have apart := not_mem_serials nodup list
    have found : s.watched serial = some old :=
      State.watched_eq_some list same fun x hx => same ▸ apart x (List.mem_append_left back hx)
    simp only [State.watchAdd, State.watchPlan_updated found, found]
    rfl
  · simp only [State.watchAdd, State.watchPlan_room (State.watched_eq_none absent) room]
    rfl
  · have earliest : watchEarliest s.cred.watch = some old := list ▸ watchEarliest_append_cons later none
    have apart := not_mem_serials nodup list
    have found : s.watched old.serial = some old :=
      State.watched_eq_some list rfl fun x hx => apart x (List.mem_append_left back hx)
    have taken : (s.cred.watch.filter fun x => x.serial != old.serial) = front ++ back :=
      list ▸ filter_serial_append_cons rfl apart
    simp only [State.watchAdd, State.watchPlan_noRoom (State.watched_eq_none absent) full earliest, if_pos ends, found, taken,
      State.credOffer_eq, State.offering_offering]
    rfl
  · have earliest : watchEarliest s.cred.watch = some old := list ▸ watchEarliest_append_cons later none
    simp only [State.watchAdd, State.watchPlan_noRoom (State.watched_eq_none absent) full earliest, if_neg (Nat.not_lt.mpr stays)]

/-! #### The emergency allowance (R68, R18) -/

theorem exec_emergencyAllow_asked {s : State} {fs : List Byte} (h : s.askedCm .audit .emergencyAllow fs) :
    exec .emergencyAllow s = .next
      (let count := clampTo 1 4 (fieldAt fs 0 1)
       let deadline := min (s.clock.minute + clampTo 1 60 (fieldAt fs 1 1)) 4294967295
       if s.settings.service = .unprovisioned then s.taking.answer .audit .notReady []
       else
        (State.offering { s.taking with cred := { s.taking.cred with allowance := count, allowanceDeadline := deadline } }
          [s.recordNow .credentialManager (.security (.allowanceGranted count deadline))]).answer .audit .ok
          [.num 1 count, .num 4 deadline]) := by
  change execEmergencyAllow s = _
  rw [execEmergencyAllow, State.serveCm_asked h]
  rfl

theorem exec_sweepAllowanceVisit_taken {s : State} (at_allowance : s.clock.sweep.position = some .allowance)
    (takes : s.cmTakes .sweep = true) : exec .sweepAllowanceVisit s = .next s.cmPop.sweepAllowance.passComplete := by
  change execSweepAllowanceVisit s = _
  simp only [execSweepAllowanceVisit, at_allowance, takes, if_true]

theorem State.sweepAllowance_eq (s : State) :
    s.sweepAllowance =
      let due := 0 < s.cred.allowance ∧ s.cred.allowanceDeadline ≤ s.clock.minute
      { s with
        cred := { s.cred with allowance := if due then 0 else s.cred.allowance }
        journal := { s.journal with
          offers := s.journal.offers ++
            if due then [s.recordNow .credentialManager (.security (.allowanceLapsed s.cred.allowance))] else [] } } := by
  unfold State.sweepAllowance
  dsimp only
  split
  · rfl
  · rw [List.append_nil]

theorem State.passComplete_eq (s : State) :
    s.passComplete =
      { s with
        clock := { s.clock with
          sweep :=
            { position := if s.clock.sweep.pendingPass then some (.key 0) else none, pendingPass := false
              passes := (s.clock.sweep.passes + 1) % 65536 } }
        cred := { s.cred with waiting := s.cred.waiting ++ if s.clock.sweep.pendingPass then [.sweep] else [] } } := by
  unfold State.passComplete
  dsimp only
  cases s.clock.sweep.pendingPass with
  | true => rfl
  | false => simp

/-- Settles O30. -/
theorem emergencyAllowanceIsGrantedAndWithdrawn : Obligations.EmergencyAllowanceIsGrantedAndWithdrawn := by
  refine ⟨fun s fs h => exec_emergencyAllow_asked h, fun s at_allowance takes => ?_⟩
  rw [exec_sweepAllowanceVisit_taken at_allowance takes, State.sweepAllowance_eq, State.passComplete_eq]
  rfl

end Sys2Proof.Machine
end

section
/-! PROOFS. Presentations: the checks in their order, the verdicts, the effect of a grant (O31 to O34). -/

namespace Sys2Proof.Machine

/-! #### The checks before the door's own (R79 to R84) -/

theorem State.siteMatches_iff (s : State) (c : Card) :
    s.siteMatches c = true ↔ (s.settings.record.map fun r => (r.number, r.wing)) = some (c.site, c.wing) := by
  unfold State.siteMatches
  cases s.settings.record <;> simp

theorem State.watched_any (s : State) (serial : Nat) :
    (s.watched serial).isSome = true ↔ (s.cred.watch.any fun e => e.serial == serial) = true := by
  rw [State.watched_isSome_iff, List.any_eq_true]
  simp only [beq_iff_eq]

theorem State.decision_eq (s : State) (c : Card) :
    s.decision c =
      if s.settings.service ≠ .inService then .deny .notInService .notRead
      else if 768 ≤ c.door ∨ (s.door c.door).enabled = false then .deny .doorDisabled .notRead
      else if (s.settings.record.map fun r => (r.number, r.wing)) ≠ some (c.site, c.wing) then .deny .wrongSite .notRead
      else if (s.cred.watch.any fun e => e.serial == c.serial) = true then .deny .revoked .notRead
      else s.keyDecision c := by
  have site : (!s.siteMatches c) = true ↔ (s.settings.record.map fun r => (r.number, r.wing)) ≠ some (c.site, c.wing) := by
    rw [Bool.not_eq_true', ← Bool.not_eq_true, s.siteMatches_iff c]
  exact if_congr Iff.rfl rfl (if_congr Iff.rfl rfl (if_congr site rfl (if_congr (s.watched_any c.serial) rfl rfl)))

/-- Checks 5 to 7 of a key that is not FREE. -/
theorem State.keyDecision_some {s : State} {c : Card} {k : KeyRec} (within : ¬ 2048 ≤ c.key) (is : s.key c.key = some k) :
    s.keyDecision c =
      (keyCheck k c).elim
        ((s.windowCheck k (s.door c.door)).elim (s.doorCheck k (s.door c.door)) fun reason => .deny reason (keyView (some k)))
        fun reason => .deny reason (keyView (some k)) := by
  rw [State.keyDecision, is]
  refine (if_neg within).trans ?_
  dsimp only
  cases keyCheck k c with
  | some => rfl
  | none => cases s.windowCheck k (s.door c.door) <;> rfl

theorem keyView_status (k : KeyRec) :
    keyView (some k) = match k.status with | .pending _ => .pending | .live _ => .live | .cancelled _ _ _ => .cancelled := rfl

/-! #### The checks at the door (R84 to R88) -/

theorem State.onSchedule_eq (s : State) (schedule : Nat) :
    s.onSchedule schedule =
      (s.band schedule ((s.clock.minute / 1440 + s.settings.record.elim 0 SiteRecord.epoch) % 7)).holds (s.clock.minute % 1440) := by
  rw [State.onSchedule, weekdayOf_eq]
  rfl

theorem State.doorCheck_atRoom {s : State} {k : KeyRec} {d : Door} {room : Nat} (place : d.place = .room room) :
    s.doorCheck k d = (s.roomDoorCheck k d room).elim (.grant k) fun reason => .deny reason (keyView (some k)) := by
  rw [State.doorCheck, place]
  dsimp only
  cases s.roomDoorCheck k d room <;> rfl

theorem State.doorCheck_atZone {s : State} {k : KeyRec} {d : Door} (place : d.place = .zone) :
    s.doorCheck k d = (s.zoneDoorCheck k d).elim (.grant k) fun reason => .deny reason (keyView (some k)) := by
  rw [State.doorCheck, place]
  dsimp only
  cases s.zoneDoorCheck k d <;> rfl

/-- The decision that a check at a MINIBAR door comes to. -/
def minibarDecision (k : KeyRec) (room : Nat) : Except DenyReason SessionKind → Decision
  | .error reason => .deny reason (keyView (some k))
  | .ok kind => .session room kind

theorem State.doorCheck_atMinibar {s : State} {k : KeyRec} {d : Door} {room : Nat} (place : d.place = .minibar room) :
    s.doorCheck k d = minibarDecision k room (s.minibarDoorCheck k d room) := by
  rw [State.doorCheck, place]
  rfl

theorem KeyRec.boundedEnd_eq (s : State) (k : KeyRec) (room : Nat) :
    s.boundedEnd k room =
      if k.genFor room = none then k.stop else (s.room room).stay.elim k.stop fun x => min k.stop x.stayEnd := by
  unfold State.boundedEnd
  cases k.genFor room <;> cases (s.room room).stay <;> rfl

theorem isNone_iff_none {α : Type} (o : Option α) : o.isNone = true ↔ o = none := Option.isNone_iff_eq_none

/-- Settles O32: the checks up to the door's, the door's own by its kind, and the effective end. -/
theorem presentationChecksAreMadeInOrder : Obligations.PresentationChecksAreMadeInOrder := by
  refine ⟨fun s c => ?_, fun s k d => ⟨fun room place => ?_, fun place => ?_, fun room place => ?_⟩,
    fun s k d => ⟨fun room guest place => ?_, fun room guest place => ?_, fun guest place => ?_, fun other => ?_⟩⟩
  · rw [State.decision_eq]
    refine if_congr Iff.rfl rfl (if_congr Iff.rfl rfl (if_congr Iff.rfl rfl (if_congr Iff.rfl rfl ?_)))
    by_cases beyond : 2048 ≤ c.key
    · rw [if_pos beyond]
      exact if_pos beyond
    rw [if_neg beyond]
    cases is : s.key c.key with
    | none => rw [State.keyDecision, is]; exact if_neg beyond
    | some k =>
      rw [State.keyDecision_some beyond is, keyCheck]
      by_cases stale : issueStamp k ≠ c.stamp
      · rw [if_pos stale]
        exact (if_pos stale).symm
      · rw [if_neg stale]
        refine Eq.trans ?_ (if_neg stale).symm
        rw [keyView_status]
        cases k.status with
        | pending => rfl
        | cancelled => rfl
        | live serial => simp only [State.windowCheck, elim_refusal, Option.elim_none]
  · rw [State.doorCheck_atRoom place, State.roomDoorCheck]
    cases k.rights <;>
      simp only [elim_refusal, Option.elim_none, Bool.not_eq_true', isNone_iff_none, State.onSchedule_eq]
  · rw [State.doorCheck_atZone place, State.zoneDoorCheck]
    cases k.rights <;>
      simp only [elim_refusal, Option.elim_none, Bool.not_eq_true', State.onSchedule_eq]
    rfl
  · rw [State.doorCheck_atMinibar place, State.minibarDoorCheck]
    cases k.rights <;>
      simp only [apply_ite (minibarDecision k room), Bool.not_eq_true', isNone_iff_none, State.onSchedule_eq] <;> rfl
  · obtain ⟨es, zones, minibar, rights⟩ := guest
    simp only [State.effectiveEnd, endReason, rights, place, kindOfRights, KeyRec.boundedEnd_eq, and_self]
  · obtain ⟨es, zones, minibar, rights⟩ := guest
    simp only [State.effectiveEnd, endReason, rights, place, kindOfRights, KeyRec.boundedEnd_eq, and_self]
  · obtain ⟨es, zones, minibar, rights⟩ := guest
    simp only [State.effectiveEnd, endReason, rights, place, kindOfRights, and_self]
  · unfold State.effectiveEnd endReason
    cases rights : k.rights with
    | guest es zones minibar => exact absurd ⟨es, zones, minibar, rights⟩ other
    | _ => exact ⟨rfl, rfl⟩

/-! #### PRESENT and the presentation operation (R77 to R80) -/

theorem exec_presentationOperation_ready {s : State} {c : Card} (on : s.powered = true) (idle : s.cred.op = none)
    (presented : s.eval.op = some (.present c)) : exec .presentationOperation s = .next (s.present c) := by
  change execPresentationOperation s = _
  simp only [execPresentationOperation, presented, on, idle, Option.isNone_none, Bool.and_self, if_true]

/-- Settles O31. -/
theorem presentHandsTheCardToTheChecks : Obligations.PresentHandsTheCardToTheChecks := by
  refine ⟨fun s fs h => ?_, fun s c on idle presented => ⟨fun reason view verdict => ?_, fun k verdict => ?_,
    fun room kind verdict => ?_⟩⟩
  · change execPresent s = _
    rw [execPresent, State.serveEval_asked h, State.markTaken_eq]
    rfl
  all_goals rw [exec_presentationOperation_ready on idle presented, State.present, verdict]

/-! #### Verdicts (R90 to R96) -/

theorem Door.coalesces_iff (d : Door) (serial stamp : Nat) (reason : DenyReason) :
    d.coalesces serial stamp reason = true ↔
      ∃ m, d.memory = some m ∧ reason ≠ .revoked ∧ m.serial = serial ∧ m.reason = reason ∧ m.stamp ≤ stamp ∧ stamp ≤ m.stamp + 3 := by
  unfold Door.coalesces
  cases d.memory <;> simp [and_assoc]

theorem State.denyRecords_plain {s : State} {c : Card} {minute second : Nat} {reason : DenyReason} (plain : reason ≠ .revoked)
    (view : KeyView) (repeats : Nat) :
    s.denyRecords c minute second reason view repeats =
      s.evalOffer minute second (.deny c.door c.serial c.key c.stamp reason view repeats) := if_neg plain

theorem State.denyRecords_revoked {s : State} {c : Card} {minute second : Nat} {e : WatchEntry} (listed : s.watched c.serial = some e)
    (view : KeyView) (repeats : Nat) :
    s.denyRecords c minute second .revoked view repeats =
      ((s.evalOffer minute second (.deny c.door c.serial c.key c.stamp .revoked view repeats)).evalOffer minute second
        (.security (.watchHit c.door c.serial c.key e.reason e.untilMinute 0))).raise .watchHit := by
  rw [State.denyRecords, listed]
  rfl

theorem State.deny_beyond {s : State} {c : Card} (beyond : 768 ≤ c.door) (minute second : Nat) (reason : DenyReason) (view : KeyView) :
    s.deny c minute second reason view =
      ((s.denyRecords c minute second reason view 0).evalDone).answer .lock .ok (denyFields c reason false) := if_pos beyond

theorem State.deny_again {s : State} {c : Card} {minute second : Nat} {reason : DenyReason} (within : c.door < 768)
    (again : (s.door c.door).coalesces c.serial (minute * 60 + second) reason = true) (view : KeyView) :
    s.deny c minute second reason view =
      ((s.setDoor c.door
        { s.door c.door with
          memory := some (c.memoryOf (minute * 60 + second) reason), repeats := min ((s.door c.door).repeats + 1) 255 }).evalDone).answer
        .lock .ok (denyFields c reason true) :=
  (if_neg (Nat.not_le.mpr within)).trans (if_pos again)

theorem State.deny_anew {s : State} {c : Card} {minute second : Nat} {reason : DenyReason} (within : c.door < 768)
    (anew : ¬ (s.door c.door).coalesces c.serial (minute * 60 + second) reason = true) (view : KeyView) :
    s.deny c minute second reason view =
      (((s.setDoor c.door
        { s.door c.door with memory := some (c.memoryOf (minute * 60 + second) reason), repeats := 0 }).denyRecords c minute second
        reason view (s.door c.door).repeats).evalDone).answer .lock .ok (denyFields c reason false) :=
  (if_neg (Nat.not_le.mpr within)).trans (if_neg anew)

/-- Settles O33: the grant; the denial by the door number, the memory and the reason. -/
theorem verdictsAreJournalledAndCoalesced : Obligations.VerdictsAreJournalledAndCoalesced := by
  intro s c minute second
  refine ⟨fun kind advance uses outcome => rfl, fun reason view => ⟨fun within again => ?_, fun within anew plain => ?_,
    fun front e back within revoked list found absent => ?_, fun beyond plain => ?_⟩⟩
  · exact State.deny_again within ((Door.coalesces_iff ..).mpr again) view
  · rw [State.deny_anew within (mt (Door.coalesces_iff ..).mp anew) view, State.denyRecords_plain plain]
    rfl
  · subst revoked
    have anew : ¬ (s.door c.door).coalesces c.serial (minute * 60 + second) .revoked = true := by
      rw [Door.coalesces_iff]
      rintro ⟨m, -, other, -⟩
      exact other rfl
    have listed := State.watched_eq_some list found absent
    rw [State.deny_anew within anew view, State.denyRecords_revoked (s := s.setDoor c.door _) listed]
    simp only [State.evalOffer, State.offerAt, State.offer, List.append_assoc]
    rfl
  · rw [State.deny_beyond beyond, State.denyRecords_plain plain]
    rfl

/-! #### The effect of a grant (R86, R60) -/

/-- Settles O34: the effect by the kind of the key, and of the door for a GUEST key. -/
theorem grantedKeyHasItsEffectFirst : Obligations.GrantedKeyHasItsEffectFirst := by
  refine fun s c k => ⟨fun es zones minibar room rights place => ⟨fun some near => ?_, fun far => ?_⟩,
    fun es zones minibar rights elsewhere => ?_, fun zones schedule restock rights => ?_, fun rights => ?_,
    fun zones uses rights => ⟨fun more => ?_, fun serial last live => ?_⟩⟩
  · rw [State.grantKey, rights, place]
    exact if_pos ⟨some, near⟩
  · rw [State.grantKey, rights, place]
    refine if_neg fun both => ?_
    obtain ⟨ahead, near⟩ := both
    obtain none | beyond := far
    · exact absurd none (Nat.ne_of_gt ahead)
    · exact absurd near (Nat.not_le.mpr beyond)
  · rw [State.grantKey, rights]
    cases place : (s.door c.door).place with
    | room room => exact absurd place (elsewhere room)
    | _ => rfl
  · rw [State.grantKey, rights]
    rfl
  · rw [State.grantKey, rights]
    rfl
  · have left : ¬ uses - 1 = 0 := by omega
    simp only [State.grantKey, rights, State.useKey, if_neg left]
  · have none : uses - 1 = 0 := by omega
    simp only [State.grantKey, rights, State.useKey, none]
    rw [KeyRec.cancelled_live (k := { k with rights := .service zones 0 }) live]
    rfl

end Sys2Proof.Machine
end

section
/-! PROOFS. The advance, the session-open, door reports and door records (O35 to O38). -/

namespace Sys2Proof.Machine

/-! #### The advance (R26) -/

/-- Settles O35: `State.advanceCards_spec` and `State.advance_eq`, with the keys behind split by whether they name this room alone. -/
theorem advanceDropsTheKeysBehind : Obligations.AdvanceDropsTheKeysBehind := by
  intro s room key g w lists r m stale lone left dead kept t
  have nodup := lists.1 room
  have known : ∀ n ∈ (s.room room).keyList, s.key n ≠ none := fun n => lists.known
  obtain ⟨spec, -⟩ := State.advanceCards_spec w room key g nodup known
  have advanced : t = (s.advanceCards room key g).offering (s.advanceRecords room key g) := State.advance_eq w room key g nodup known
  have behind : ∀ n, s.behind room key g n = decide (stale n) := fun _ => rfl
  have dead_eq : dead = (s.room room).keyList.filter fun n => s.behind room key g n && s.lone n :=
    List.filter_congr fun n _ => Bool.decide_and ..
  have kept_eq : kept = (s.room room).keyList.filter fun n => s.behind room key g n && !s.lone n :=
    List.filter_congr fun n _ => by
      rw [Bool.decide_and, decide_not]
      rfl
  have keys : ∀ n, t.key n =
      if n ∈ (s.room room).keyList ∧ s.behind room key g n = true then s.keyOff room .superseded m n else s.key n := fun n => by
    rw [advanced]
    exact spec.keys n
  refine ⟨by rw [advanced]; exact spec.listed, fun n other => by rw [advanced]; exact spec.rooms n other,
    fun n notDead notKept => ?_, fun n k listed is => ?_, fun n k listed is => ?_, ?_⟩
  · rw [keys, if_neg]
    rintro ⟨listed, off⟩
    rw [dead_eq, List.mem_filter, off, Bool.true_and] at notDead
    rw [kept_eq, List.mem_filter, off, Bool.true_and] at notKept
    cases one : s.lone n
    · exact notKept ⟨listed, by rw [one]; rfl⟩
    · exact notDead ⟨listed, one⟩
  · obtain ⟨mem, both⟩ := List.mem_filter.mp listed
    obtain ⟨off, one⟩ := of_decide_eq_true both
    rw [keys, if_pos ⟨mem, decide_eq_true off⟩, State.keyOff_some is, if_pos one]
  · obtain ⟨mem, both⟩ := List.mem_filter.mp listed
    obtain ⟨off, several⟩ := of_decide_eq_true both
    rw [keys, if_pos ⟨mem, decide_eq_true off⟩, State.keyOff_some is, if_neg several]
  · rw [advanced, dead_eq, kept_eq]
    have frame := spec.frame
    unfold onlyCards at frame
    rw [frame]
    rfl

/-! #### The session-open (R89) -/

theorem exec_sessionOpen_ready {s : State} {c : Card} {room minute second : Nat} {kind : SessionKind} (on : s.powered = true)
    (opening : s.eval.op = some (.sessionOpen c room kind minute second)) :
    exec .sessionOpen s = .next (s.openSession c room kind minute second) := by
  change execSessionOpen s = _
  simp only [execSessionOpen, opening, on, if_true]

theorem State.sessionAnswer_closed {s : State} {room : Nat} (closed : (s.tally room).isOpen = false) (door : Nat) (kind : SessionKind) :
    s.sessionAnswer door room kind = .closed := if_pos (by rw [closed]; rfl)

theorem State.sessionAnswer_open {s : State} {room : Nat} (open_ : (s.tally room).isOpen = true) (door : Nat) (kind : SessionKind) :
    s.sessionAnswer door room kind =
      if kind = .guest ∧ (s.tally room).limit ≤ (s.tally room).tally then .locked
      else if (s.session door).isSome then .kept
      else if s.mini.sessions.length < 32 then .opened
      else .full := by
  refine (if_neg (by rw [open_]; decide)).trans (if_congr ?_ rfl rfl)
  rw [Bool.and_eq_true, beq_iff_eq]
  exact and_congr_right fun _ => decide_eq_true_iff

theorem State.touch_some {s : State} {door stamp : Nat} {x : Session} (is : s.session door = some x) :
    s.touch door stamp = s.setSession door (some { x with active := stamp }) := by
  rw [State.touch, is]

/-- Settles O36: the answers of R89 in their order. -/
theorem sessionOpenIsAnsweredByItsFirstCase : Obligations.SessionOpenIsAnsweredByItsFirstCase := by
  intro s c room kind minute second on opening
  have run := exec_sessionOpen_ready on opening
  refine ⟨fun closed => ?_, fun open_ limit => ?_, fun open_ below => ⟨fun x is => ?_, fun absent place => ?_, fun absent full => ?_⟩⟩ <;>
    rw [run, State.openSession]
  · rw [State.sessionAnswer_closed closed]
  · rw [State.sessionAnswer_open open_, if_pos limit]
  · rw [State.sessionAnswer_open open_, if_neg below, if_pos (by rw [is]; rfl), State.touch_some is]
    rfl
  · rw [State.sessionAnswer_open open_, if_neg below, if_neg (by rw [absent]; decide), if_pos place]
    rfl
  · rw [State.sessionAnswer_open open_, if_neg below, if_neg (by rw [absent]; decide), if_neg (Nat.not_lt.mpr full)]

/-! #### Door reports (R74 to R76) -/

theorem State.serveDoorReport_beyond {s : State} {fs : List Byte} {a : Nat} (h : s.askedEval .lock .doorReport fs)
    (code : fieldAt fs 2 1 = a) (beyond : 768 ≤ fieldAt fs 0 2) (body : Nat → State → State) :
    s.serveDoorReport a body = s.answer .lock .badField [] := by
  rw [State.serveDoorReport_asked a h code]
  exact if_pos (.inl beyond)

theorem State.serveDoorReport_within {s : State} {fs : List Byte} {a : Nat} (h : s.askedEval .lock .doorReport fs)
    (code : fieldAt fs 2 1 = a) (known : a ≤ 4) (within : fieldAt fs 0 2 < 768) (body : Nat → State → State) :
    s.serveDoorReport a body = body (fieldAt fs 0 2) s := by
  rw [State.serveDoorReport_asked a h code]
  refine if_neg fun bad => ?_
  obtain beyond | unknown := bad
  · exact absurd within (Nat.not_lt.mpr beyond)
  · exact absurd known (Nat.not_le.mpr unknown)

/-- A DOOR_REPORT command takes a request whose code names no report (log entry 17). -/
theorem State.serveDoorReport_unknown {s : State} {fs : List Byte} (a : Nat) (h : s.askedEval .lock .doorReport fs)
    (unknown : 4 < fieldAt fs 2 1) (body : Nat → State → State) : s.serveDoorReport a body = s.answer .lock .badField [] := by
  simp only [State.serveDoorReport, h.1.1, h.2, Option.getD_some, decide_eq_true unknown, Bool.or_true, Bool.and_self,
    Option.isNone_none]
  rw [State.serveFrom_some s s .lock .doorReport _ fs h.1.1 h.1.2]
  exact if_pos (.inr unknown)

/-- The reply to a report that moved a door's condition carries the new one. -/
theorem State.moveCondition_answer {s : State} (w : s.tablesWf) (door : Nat) (new : Condition) :
    (s.moveCondition door new).answerCondition door =
      ((s.setDoor door { s.door door with condition := new, repeats := 0 }).offering
        [s.recordNow .accessEvaluator (.doorCondition door (s.door door).condition new (s.door door).repeats)]).answer .lock .ok
        [.num 1 (conditionCode new)] := by
  have moved : (s.moveCondition door new).door door = { s.door door with condition := new, repeats := 0 } :=
    State.door_setDoor_same s door _ w.doors
  rw [State.answerCondition, moved]
  rfl

theorem State.forceDoor_answer {s : State} (w : s.tablesWf) (door : Nat) :
    (s.forceDoor door).answerCondition door =
      (((s.setDoor door { s.door door with condition := .forced, repeats := 0 }).offering
        [s.recordNow .accessEvaluator (.security (.forcedDoor door (s.door door).condition .forced (s.door door).repeats))]).noticing
        .audit 5).answer .lock .ok [.num 1 (conditionCode .forced)] := by
  have moved : (s.forceDoor door).door door = { s.door door with condition := .forced, repeats := 0 } :=
    State.door_setDoor_same s door _ w.doors
  rw [State.answerCondition, moved]
  rfl

theorem State.reportPrivacy_room {s : State} {door room : Nat} (place : (s.door door).place = .room room)
    (enabled : (s.door door).enabled = true) (on : Bool) :
    s.reportPrivacy door on = State.goesOn { s with eval := { s.eval with op := some (.privacy door room on) } } .lock := by
  rw [State.reportPrivacy, place, enabled, ← State.markTaken_eq]

theorem State.reportPrivacy_other {s : State} {door : Nat}
    (other : (∀ room, (s.door door).place ≠ .room room) ∨ (s.door door).enabled = false) (on : Bool) :
    s.reportPrivacy door on = s.answer .lock .ok [.num 1 (conditionCode (s.door door).condition), .flag true] := by
  unfold State.reportPrivacy
  split
  · next room place enabled =>
    obtain elsewhere | disabled := other
    · exact absurd place (elsewhere room)
    · rw [enabled] at disabled; cases disabled
  · rfl

/-- Settles O37: the condition reports by their codes, the privacy reports, the privacy operation, an unknown code. -/
theorem doorAndPrivacyReportsActOnTheDoor : Obligations.DoorAndPrivacyReportsActOnTheDoor := by
  refine ⟨fun s fs h => ⟨fun beyond => ⟨fun code => ?_, fun code => ?_, fun code => ?_⟩,
      fun within code => ⟨fun closed => ?_, fun other w => ?_⟩, fun within code => ⟨fun other => ?_, fun closed w => ?_⟩,
      fun within code => ⟨fun forced => ?_, fun other w => ?_⟩⟩,
    fun s fs h => ?_, fun s door room on powered idle waiting => ?_, fun s fs h unknown i row => ?_⟩
  · exact congrArg _ (State.serveDoorReport_beyond h code beyond _)
  · exact congrArg _ (State.serveDoorReport_beyond h code beyond _)
  · exact congrArg _ (State.serveDoorReport_beyond h code beyond _)
  · refine congrArg _ ((State.serveDoorReport_within h code (by decide) within _).trans ?_)
    rw [if_pos closed, State.answerCondition, closed]
  · refine congrArg _ ((State.serveDoorReport_within h code (by decide) within _).trans ?_)
    rw [if_neg other, State.moveCondition_answer w]
  · refine congrArg _ ((State.serveDoorReport_within h code (by decide) within _).trans ?_)
    rw [if_neg other, State.answerCondition]
  · refine congrArg _ ((State.serveDoorReport_within h code (by decide) within _).trans ?_)
    rw [if_pos closed, State.moveCondition_answer w, closed]
  · refine congrArg _ ((State.serveDoorReport_within h code (by decide) within _).trans ?_)
    rw [if_pos forced, State.answerCondition, forced]
  · refine congrArg _ ((State.serveDoorReport_within h code (by decide) within _).trans ?_)
    rw [if_neg other, State.forceDoor_answer w]
  · intro door code d run on named
    have runs : run on = .next (s.serveDoorReport (if on = true then 3 else 4) fun door s => s.reportPrivacy door on) := by
      cases on <;> rfl
    have known : (if on = true then 3 else 4) ≤ 4 := by cases on <;> decide
    refine ⟨fun beyond => ?_, fun within => ⟨fun room place enabled => ?_, fun other => ?_⟩⟩
    · rw [runs, State.serveDoorReport_beyond h named beyond]
    · rw [runs, State.serveDoorReport_within h named known within, State.reportPrivacy_room place enabled]
    · rw [runs, State.serveDoorReport_within h named known within, State.reportPrivacy_other other]
  · change execPrivacyOperation s = _
    simp only [execPrivacyOperation, waiting, powered, idle, Option.isNone_none, Bool.and_self, if_true]
    rfl
  · simp only [List.mem_cons, List.not_mem_nil, or_false] at row
    obtain rfl | rfl | rfl | rfl | rfl := row <;> exact congrArg _ (State.serveDoorReport_unknown _ h unknown _)

/-! #### DOOR_SET (R71, R72) -/

theorem State.minibarElsewhere_iff {s : State} (w : s.tablesWf) (door room : Nat) :
    s.minibarElsewhere door room = true ↔ ∃ n, n ≠ door ∧ (s.door n).place = .minibar room := by
  rw [State.minibarElsewhere, List.any_eq_true]
  simp only [Bool.and_eq_true, bne_iff_ne, beq_iff_eq]
  constructor
  · rintro ⟨⟨n, d⟩, listed, other, place⟩
    exact ⟨n, other, by rw [State.door, (tableLook_of_mem w.doors listed).1, place]⟩
  · rintro ⟨n, other, place⟩
    refine ⟨(n, s.door n), mem_of_tableLook _ fun blank => ?_, other, place⟩
    rw [State.door, blank] at place
    cases place

/-- The place that the kind and room of a DOOR_SET name (R71). -/
def setPlace (kind room : Nat) : DoorPlace := if kind = 0 then .room room else if kind = 1 then .zone else .minibar room

theorem placeOf_known {kind : Nat} (known : kind ≤ 2) (room : Nat) : placeOf kind room = some (setPlace kind room) := by
  match kind, known with
  | 0, _ => rfl
  | 1, _ => rfl
  | 2, _ => rfl

theorem placeOf_unknown {kind : Nat} (unknown : 2 < kind) (room : Nat) : placeOf kind room = none := by
  unfold placeOf
  split
  case h_4 => rfl
  all_goals omega

theorem setPlace_zone_iff (kind room : Nat) : setPlace kind room = .zone ↔ kind = 1 := by
  unfold setPlace
  split <;> [simp [*]; split <;> simp [*]]

theorem setPlace_minibar_iff {kind : Nat} (known : kind ≤ 2) (room r : Nat) : setPlace kind room = .minibar r ↔ kind = 2 ∧ room = r := by
  unfold setPlace
  split <;> [skip; split] <;> simp <;> omega

/-- The fields of a DOOR_SET, unlock seconds clamped (R71). -/
def doorSetOf (fs : List Byte) : DoorSet :=
  { door := fieldAt fs 0 2, place := setPlace (fieldAt fs 2 1) (fieldAt fs 3 2), zone := fieldAt fs 5 1
    enabled := fieldAt fs 6 1 == 1, unlock := min (fieldAt fs 7 1) 30 }

theorem State.doorSetCheck_known {s : State} {fs : List Byte} (provisioned : s.settings.service ≠ .unprovisioned)
    (within : fieldAt fs 0 2 < 768) (known : fieldAt fs 2 1 ≤ 2) :
    s.doorSetCheck fs =
      if fieldAt fs 2 1 ≠ 1 ∧ 512 ≤ fieldAt fs 3 2 then .error .badField
      else if 15 < fieldAt fs 5 1 then .error .badField
      else if 1 < fieldAt fs 6 1 then .error .badField
      else if fieldAt fs 2 1 = 2 ∧ s.minibarElsewhere (fieldAt fs 0 2) (fieldAt fs 3 2) = true then .error .doorConflict
      else .ok (doorSetOf fs) := by
  rw [State.doorSetCheck, placeOf_known known]
  refine (if_neg provisioned).trans ((if_neg (Nat.not_le.mpr within)).trans ?_)
  simp only [ne_eq, setPlace_zone_iff, setPlace_minibar_iff known, and_true]
  rfl

theorem State.doorSetCheck_badField {s : State} {fs : List Byte} (provisioned : s.settings.service ≠ .unprovisioned)
    (bad : 768 ≤ fieldAt fs 0 2 ∨ 2 < fieldAt fs 2 1 ∨ (fieldAt fs 2 1 ≠ 1 ∧ 512 ≤ fieldAt fs 3 2) ∨ 15 < fieldAt fs 5 1 ∨
      1 < fieldAt fs 6 1) : s.doorSetCheck fs = .error .badField := by
  by_cases beyond : 768 ≤ fieldAt fs 0 2
  · exact (if_neg provisioned).trans (if_pos beyond)
  by_cases unknown : 2 < fieldAt fs 2 1
  · rw [State.doorSetCheck, placeOf_unknown unknown]
    exact (if_neg provisioned).trans (if_neg beyond)
  rw [State.doorSetCheck_known provisioned (Nat.not_le.mp beyond) (Nat.not_lt.mp unknown)]
  obtain wrong | wrong | room | zone | enabled := bad
  · exact absurd wrong beyond
  · exact absurd wrong unknown
  · rw [if_pos room]
  · rw [if_pos zone, ite_self]
  · rw [if_pos enabled, ite_self, ite_self]

theorem exec_doorSet_refused {s : State} {fs : List Byte} {st : Status} (h : s.askedEval .desk .doorSet fs)
    (refused : s.doorSetCheck fs = .error st) : exec .doorSet s = .next (s.answer .desk st []) := by
  change execDoorSet s = _
  simp only [execDoorSet, State.serveEval_asked h, refused]

theorem exec_doorSet_accepted {s : State} {fs : List Byte} {d : DoorSet} (h : s.askedEval .desk .doorSet fs)
    (accepted : s.doorSetCheck fs = .ok d) : exec .doorSet s = .next (s.beginDoorSet d) := by
  change execDoorSet s = _
  simp only [execDoorSet, State.serveEval_asked h, accepted]

theorem State.beginDoorSet_leaves {s : State} {d : DoorSet} {r : Nat} (old : (s.door d.door).place = .minibar r)
    (other : d.place ≠ .minibar r) : s.beginDoorSet d = (s.evalGo (.doorRelease d r)).goesOn .desk := by
  rw [State.beginDoorSet, old, ← State.markTaken_eq]
  exact if_neg other

theorem State.beginDoorSet_stays {s : State} {d : DoorSet} {r : Nat} (old : (s.door d.door).place = .minibar r)
    (same : d.place = .minibar r) :
    s.beginDoorSet d =
      if d.enabled = false ∧ s.session d.door ≠ none then ((s.writeDoor d).evalGo (.doorClose d)).goesOn .desk
      else (s.writeDoor d).doorSetDone d false := by
  rw [State.beginDoorSet, old, ← State.markTaken_eq]
  refine (if_pos same).trans (if_congr ?_ rfl rfl)
  rw [Bool.and_eq_true, Bool.not_eq_true', Option.isSome_iff_ne_none]

theorem State.beginDoorSet_enters {s : State} {d : DoorSet} {r : Nat} (old : ∀ r, (s.door d.door).place ≠ .minibar r)
    (new : d.place = .minibar r) : s.beginDoorSet d = ((s.writeDoor d).evalGo (.doorAssign d r)).goesOn .desk := by
  rw [← State.markTaken_eq]
  unfold State.beginDoorSet
  split
  · next place => exact absurd place (old _)
  · next place _ => rw [new] at place; cases place; rfl
  · next no => exact absurd new (no r)

theorem State.beginDoorSet_plain {s : State} {d : DoorSet} (old : ∀ r, (s.door d.door).place ≠ .minibar r)
    (new : ∀ r, d.place ≠ .minibar r) : s.beginDoorSet d = (s.writeDoor d).doorSetDone d false := by
  unfold State.beginDoorSet
  split
  · next place => exact absurd place (old _)
  · next place _ => exact absurd place (new _)
  · rfl

theorem doorKindCode_setPlace {kind : Nat} (known : kind ≤ 2) (room : Nat) : doorKindCode (setPlace kind room) = kind := by
  match kind, known with
  | 0, _ => rfl
  | 1, _ => rfl
  | 2, _ => rfl

theorem doorRoom_setPlace {kind : Nat} (known : kind ≤ 2) (room : Nat) :
    doorRoom (setPlace kind room) = if kind = 1 then none else some room := by
  match kind, known with
  | 0, _ => rfl
  | 1, _ => rfl
  | 2, _ => rfl

/-- What a completed DOOR_SET of known kind replies (R72). -/
theorem State.doorSetDone_set (s : State) {fs : List Byte} (known : fieldAt fs 2 1 ≤ 2) :
    s.doorSetDone (doorSetOf fs) false =
      State.answer { s with eval := { s.eval with op := none } } .desk .ok
        [.num 1 (fieldAt fs 2 1), optField 2 (if fieldAt fs 2 1 = 1 then none else some (fieldAt fs 3 2)), .num 1 (fieldAt fs 5 1),
          .flag (fieldAt fs 6 1 == 1), .num 1 (min (fieldAt fs 7 1) 30), .flag false] := by
  rw [State.doorSetDone, doorSetOf, doorKindCode_setPlace known, doorRoom_setPlace known]
  rfl

/-! #### The Minibar Accounting Unit's part (R108) -/

theorem State.releaseDoor_busy {s : State} {d : DoorSet} (session : s.session d.door ≠ none) (room : Nat) :
    s.releaseDoor d room = s.evalDone.answer .desk .doorBusy [] := if_pos (Option.isSome_iff_ne_none.mpr session)

theorem State.releaseDoor_assigns {s : State} {d : DoorSet} {r : Nat} (free : s.session d.door = none) (place : d.place = .minibar r)
    (room : Nat) :
    s.releaseDoor d room = ((s.setTally room { s.tally room with door := none }).writeDoor d).evalGo (.doorAssign d r) := by
  refine (if_neg (by rw [free]; decide)).trans ?_
  dsimp only
  rw [place]

theorem State.releaseDoor_completes {s : State} {d : DoorSet} (free : s.session d.door = none) (other : ∀ r, d.place ≠ .minibar r)
    (room : Nat) :
    s.releaseDoor d room = ((s.setTally room { s.tally room with door := none }).writeDoor d).doorSetDone d false := by
  refine (if_neg (by rw [free]; decide)).trans ?_
  dsimp only
  split
  · next r place => exact absurd place (other r)
  · rfl

theorem State.closeSession_none {s : State} {door : Nat} (absent : s.session door = none) (cause : CloseCause) :
    s.closeSession door cause = s := by
  rw [State.closeSession, absent]

theorem State.closeSession_open {s : State} {door : Nat} (isOpen : s.session door ≠ none) (cause : CloseCause) :
    s.closeSession door cause = (s.setSession door none).offering (s.closingRecords door cause) := by
  obtain ⟨x, is⟩ := Option.ne_none_iff_exists'.mp isOpen
  rw [State.closeSession, State.closingRecords, is]
  dsimp only
  rw [List.foldl_map]
  rfl

theorem exec_minibarDoorAssignment_ready {s : State} {d : DoorSet} {room : Nat} (on : s.powered = true)
    (waiting : s.eval.op = some (.doorAssign d room)) : exec .minibarDoorAssignment s = .next (s.assignDoor d room) := by
  change execMinibarDoorAssignment s = _
  simp only [execMinibarDoorAssignment, waiting, on, if_true]

theorem exec_minibarRelease_ready {s : State} {d : DoorSet} {room : Nat} (on : s.powered = true)
    (waiting : s.eval.op = some (.doorRelease d room)) : exec .minibarRelease s = .next (s.releaseDoor d room) := by
  change execMinibarRelease s = _
  simp only [execMinibarRelease, waiting, on, if_true]

theorem exec_doorSetSessionClose_ready {s : State} {d : DoorSet} (on : s.powered = true)
    (waiting : s.eval.op = some (.doorClose d)) :
    exec .doorSetSessionClose s = .next ((s.closeSession d.door .doorDisabled).doorSetDone d (s.session d.door).isSome) := by
  change execDoorSetSessionClose s = _
  simp only [execDoorSetSessionClose, waiting, on, if_true, State.closeDoorSession]

/-- Settles O38: the checks of a DOOR_SET, what it begins, and its part at the Minibar Accounting Unit. -/
theorem doorSetAndItsMinibarPart : Obligations.DoorSetAndItsMinibarPart := by
  refine ⟨fun s fs h => ?_, fun s d on => ⟨fun room waiting => ?_, fun room waiting => ⟨fun session => ?_, fun free => ⟨fun r place => ?_,
    fun other => ?_⟩⟩, fun waiting => ⟨fun absent => ?_, fun session => ?_⟩⟩⟩
  · intro door kind room zone enabled place d bad conflict old written go done w
    refine ⟨fun u => exec_doorSet_refused h (if_pos u), fun p => ⟨fun wrong => exec_doorSet_refused h (State.doorSetCheck_badField p wrong),
      fun fits clash => ?_, fun fits clear => ?_⟩⟩ <;>
      simp only [bad, not_or, Nat.not_le, Nat.not_lt] at fits <;>
      obtain ⟨within, known, rooms, zones, enables⟩ := fits
    · have check := State.doorSetCheck_known p within known
      rw [if_neg rooms, if_neg (Nat.not_lt.mpr zones), if_neg (Nat.not_lt.mpr enables),
        if_pos ((and_congr_right fun _ => State.minibarElsewhere_iff w _ _).mpr clash)] at check
      exact exec_doorSet_refused h check
    · have check := State.doorSetCheck_known p within known
      rw [if_neg rooms, if_neg (Nat.not_lt.mpr zones), if_neg (Nat.not_lt.mpr enables),
        if_neg (mt (and_congr_right fun _ => State.minibarElsewhere_iff w _ _).mp clear)] at check
      have run := exec_doorSet_accepted h check
      have completes : written.doorSetDone (doorSetOf fs) false = done written := State.doorSetDone_set written known
      refine ⟨fun r was other => ?_, fun r was same => ⟨fun off session => ?_, fun stays => ?_⟩, fun was => ⟨fun minibar => ?_,
        fun plain => ?_⟩⟩
      · exact run.trans (congrArg _ (State.beginDoorSet_leaves was other))
      · rw [run, State.beginDoorSet_stays was same, if_pos ⟨off, session⟩]
        rfl
      · have keeps : ¬ ((doorSetOf fs).enabled = false ∧ s.session (doorSetOf fs).door ≠ none) := by
          rintro ⟨off, session⟩
          obtain enabled | absent := stays
          · exact absurd off (by rw [show (doorSetOf fs).enabled = true from enabled]; decide)
          · exact session absent
        rw [run, State.beginDoorSet_stays was same, if_neg keeps]
        exact congrArg _ completes
      · exact run.trans (congrArg _ (State.beginDoorSet_enters was ((setPlace_minibar_iff known _ _).mpr ⟨minibar, rfl⟩)))
      · rw [run, State.beginDoorSet_plain was fun r place => plain ((setPlace_minibar_iff known _ _).mp place).1]
        exact congrArg _ completes
  · exact exec_minibarDoorAssignment_ready on waiting
  · rw [exec_minibarRelease_ready on waiting, State.releaseDoor_busy session]
    rfl
  · rw [exec_minibarRelease_ready on waiting, State.releaseDoor_assigns free place]
    rfl
  · rw [exec_minibarRelease_ready on waiting, State.releaseDoor_completes free other]
    rfl
  · rw [exec_doorSetSessionClose_ready on waiting, State.closeSession_none absent, absent]
    rfl
  · rw [exec_doorSetSessionClose_ready on waiting, State.closeSession_open session, Option.isSome_iff_ne_none.mpr session]
    rfl

end Sys2Proof.Machine
end

section
/-! PROOFS. Minibar accounting: takes, returns, closes, the tariff (O39 to O42). -/

namespace Sys2Proof.Machine

/-! #### The checks of a report (R116, R121) -/

theorem State.reportCheck_badField {s : State} {door item : Nat} (bad : 768 ≤ door ∨ 32 ≤ item) (count : Nat) :
    s.reportCheck door item count = .error .badField := by
  unfold State.reportCheck
  split
  · rfl
  · next within =>
    obtain beyond | unknown := bad
    · exact absurd beyond within
    · exact if_pos unknown

theorem State.reportCheck_within {s : State} {door item : Nat} (within : door < 768) (known : item < 32) (count : Nat) :
    s.reportCheck door item count =
      (s.roomOfDoor door).elim (.error .noSuch) fun room => if 15 < count then .error .badField else .ok room := by
  refine (if_neg (Nat.not_le.mpr within)).trans ((if_neg (Nat.not_le.mpr known)).trans ?_)
  cases s.roomOfDoor door <;> rfl

theorem exec_minibarTake_refused {s : State} {fs : List Byte} {st : Status} (h : s.asked .lock .minibarTake fs)
    (refused : s.reportCheck (fieldAt fs 0 2) (fieldAt fs 2 1) (fieldAt fs 3 1) = .error st) :
    exec .minibarTake s = .next (s.answer .lock st []) := by
  change execMinibarTake s = _
  simp only [execMinibarTake, State.serve_asked h, refused]

theorem exec_minibarTake_accepted {s : State} {fs : List Byte} {room : Nat} (h : s.asked .lock .minibarTake fs)
    (accepted : s.reportCheck (fieldAt fs 0 2) (fieldAt fs 2 1) (fieldAt fs 3 1) = .ok room) :
    exec .minibarTake s = .next
      (if fieldAt fs 3 1 = 0 then s.answer .lock .ok [.num 1 0]
      else s.take (fieldAt fs 0 2) room (fieldAt fs 2 1) (fieldAt fs 3 1)) := by
  change execMinibarTake s = _
  simp only [execMinibarTake, State.serve_asked h, accepted]

theorem exec_minibarReturn_refused {s : State} {fs : List Byte} {st : Status} (h : s.asked .lock .minibarReturn fs)
    (refused : s.reportCheck (fieldAt fs 0 2) (fieldAt fs 2 1) (fieldAt fs 3 1) = .error st) :
    exec .minibarReturn s = .next (s.answer .lock st []) := by
  change execMinibarReturn s = _
  simp only [execMinibarReturn, State.serve_asked h, refused]

theorem exec_minibarReturn_accepted {s : State} {fs : List Byte} {room : Nat} (h : s.asked .lock .minibarReturn fs)
    (accepted : s.reportCheck (fieldAt fs 0 2) (fieldAt fs 2 1) (fieldAt fs 3 1) = .ok room) :
    exec .minibarReturn s = .next
      (if fieldAt fs 3 1 = 0 then s.answer .lock .ok [.num 1 0]
      else s.giveBack (fieldAt fs 0 2) room (fieldAt fs 2 1) (fieldAt fs 3 1)) := by
  change execMinibarReturn s = _
  simp only [execMinibarReturn, State.serve_asked h, accepted]

/-! #### The lines of a session (R118, R122) -/

theorem lineOf_append_cons {item : Nat} {front back : List Line} {line : Line} (is : line.item = item)
    (absent : ∀ y ∈ front ++ back, y.item ≠ item) : lineOf item (front ++ line :: back) = some line := by
  rw [lineOf, List.find?_append, List.find?_eq_none.mpr fun y hy => by simpa using absent y (List.mem_append_left back hy)]
  simp [is]

theorem lineOf_eq_none {item : Nat} {ls : List Line} (absent : ∀ y ∈ ls, y.item ≠ item) : lineOf item ls = none :=
  List.find?_eq_none.mpr fun y hy => by simpa using absent y hy

theorem map_line {item : Nat} {front back : List Line} {line : Line} (is : line.item = item)
    (absent : ∀ y ∈ front ++ back, y.item ≠ item) (f : Line → Line) :
    (front ++ line :: back).map (fun y => if y.item = item then f y else y) = front ++ f line :: back := by
  have kept : ∀ l : List Line, (∀ y ∈ l, y.item ≠ item) → l.map (fun y => if y.item = item then f y else y) = l := fun l other =>
    (List.map_congr_left fun y hy => if_neg (other y hy)).trans (List.map_id l)
  rw [List.map_append, List.map_cons, if_pos is, kept front fun y hy => absent y (List.mem_append_left back hy),
    kept back fun y hy => absent y (List.mem_append_right front hy)]

theorem placeOnLines_listed {item : Nat} {front back : List Line} {line : Line} (is : line.item = item)
    (absent : ∀ y ∈ front ++ back, y.item ≠ item) (count amount : Nat) :
    placeOnLines item count amount (front ++ line :: back) =
      if line.count + count ≤ 255 then
        some (front ++ { line with count := line.count + count, amount := line.amount + amount } :: back)
      else none := by
  rw [placeOnLines, lineOf_append_cons is absent, map_line is absent]

theorem placeOnLines_new {item : Nat} {ls : List Line} (absent : ∀ y ∈ ls, y.item ≠ item) (count amount : Nat) :
    placeOnLines item count amount ls =
      if ls.length < 8 then some (ls ++ [{ item := item, count := count, amount := amount }]) else none := by
  rw [placeOnLines, lineOf_eq_none absent]
  rfl

theorem refundLines_listed {item : Nat} {front back : List Line} {line : Line} (is : line.item = item)
    (absent : ∀ y ∈ front ++ back, y.item ≠ item) (count : Nat) :
    refundLines item count (front ++ line :: back) =
      if line.count - min count line.count = 0 then front ++ back else front ++ line.refunded count :: back := by
  have kept : ∀ l : List Line, (∀ y ∈ l, y.item ≠ item) → (l.filter fun y => y.item != item || y.count != 0) = l := fun l other =>
    List.filter_eq_self.mpr fun y hy => by simp [other y hy]
  have item_same : (line.refunded count).item = item := is
  rw [refundLines, map_line is absent, List.filter_append, List.filter_cons,
    kept front fun y hy => absent y (List.mem_append_left back hy), kept back fun y hy => absent y (List.mem_append_right front hy)]
  have count_same : (line.refunded count).count = line.count - min count line.count := rfl
  by_cases gone : line.count - min count line.count = 0
  · rw [if_pos gone, if_neg]
    simpa [item_same, count_same] using gone
  · rw [if_neg gone, if_pos]
    simpa [item_same, count_same] using gone

/-! #### A take by case (R116 to R120) -/

/-- The charge is live: the tally is open and the stay of the room is running (R116). -/
theorem Room.running_iff_exists (r : Room) (m : Nat) :
    r.running m = true ↔ r.state = .occupied ∧ ∃ x, r.stay = some x ∧ m < x.stayEnd := by
  rw [Room.running_iff]
  cases r.stay <;> simp

theorem State.takeLive_iff (s : State) (room : Nat) :
    ((s.tally room).isOpen && (s.room room).running s.clock.minute) = true ↔
      (s.tally room).isOpen = true ∧ (s.room room).state = .occupied ∧ ∃ x, (s.room room).stay = some x ∧ s.clock.minute < x.stayEnd := by
  rw [Bool.and_eq_true, Room.running_iff_exists]

/-! #### The room of a door (R108) -/

/-- The first record of a well-formed table that satisfies a test the blank record fails. -/
theorem find?_of_least {α : Type} [DecidableEq α] {d : α} {t : Table α} {low : Nat} (w : tableWfFrom d low t = true) (f : α → Bool)
    (blank : f d = false) {n : Nat} (is : f (tableLook d t n) = true) (least : ∀ m, m < n → f (tableLook d t m) = false) :
    (t.find? fun p => f p.2) = some (n, tableLook d t n) := by
  induction t generalizing low with
  | nil => exact absurd is (by simp [tableLook, blank])
  | cons p rest ih =>
    obtain ⟨j, v⟩ := p
    have looked : tableLook d ((j, v) :: rest) j = v := if_pos rfl
    simp only [tableWfFrom, Bool.and_eq_true, decide_eq_true_eq] at w
    obtain ⟨_, restWf⟩ := w
    by_cases here : j = n
    · rw [← here, looked] at is ⊢
      exact List.find?_cons_of_pos is
    · have later : ∀ m, j ≠ m → tableLook d ((j, v) :: rest) m = tableLook d rest m := fun m other => if_neg other
      rw [later n here] at is ⊢
      have ahead : j < n :=
        le_of_mem_tableWfFrom restWf (mem_of_tableLook d (n := n) fun none => by simp [none, blank] at is)
      have no : ¬ f (j, v).2 = true := by simpa [looked] using least j ahead
      have skipped : ((j, v) :: rest).find? (fun p => f p.2) = rest.find? fun p => f p.2 := List.find?_cons_of_neg no
      rw [skipped]
      refine ih restWf is fun m below => ?_
      by_cases same : j = m
      · have before : tableLook d rest m = d := by
          by_contra held
          exact absurd (le_of_mem_tableWfFrom restWf (mem_of_tableLook d held)) (by simp [same])
        rw [before, blank]
      · exact (congrArg f (later m same)).symm.trans (least m below)

theorem State.roomOfDoor_eq_none {s : State} (w : s.tablesWf) {door : Nat} (unnamed : ∀ room, (s.tally room).door ≠ some door) :
    s.roomOfDoor door = none := by
  rw [State.roomOfDoor, List.find?_eq_none.mpr, Option.map_none]
  rintro ⟨r, y⟩ listed
  have held : s.tally r = y := (tableLook_of_mem w.tallies listed).1
  simpa [held] using unnamed r

theorem State.roomOfDoor_eq_some {s : State} (w : s.tablesWf) {door room : Nat} (names : (s.tally room).door = some door)
    (least : ∀ r, r < room → (s.tally r).door ≠ some door) : s.roomOfDoor door = some room := by
  have found := find?_of_least w.tallies (fun y => y.door == some door) rfl (n := room) (by simpa [State.tally] using names)
    fun m below => by simpa [State.tally] using least m below
  rw [State.roomOfDoor, found]
  rfl

/-! #### A take by the session of its door -/

theorem State.touch_none {s : State} {door : Nat} (absent : s.session door = none) (stamp : Nat) : s.touch door stamp = s := by
  rw [State.touch, absent]

theorem State.take_unattended {s : State} {door : Nat} (absent : s.session door = none) (room item count : Nat) :
    s.take door room item count =
      if (s.tally room).isOpen && (s.room room).running s.clock.minute then s.charge door room item count true false
      else s.shrink door room item count := by
  simp only [State.take, State.touch_none absent, absent]

theorem State.take_attended {s : State} (w : s.tablesWf) {door : Nat} {x : Session} (is : s.session door = some x)
    (room item count : Nat) :
    s.take door room item count =
      let y := { x with active := stampOf s.clock.minute s.clock.second }
      let u := s.setSession door (some y)
      if x.kind = .restock then u.countStock door room item count x.key .take
      else if (s.tally room).isOpen && (s.room room).running s.clock.minute then u.chargeSession door room item count y
      else u.shrink door room item count := by
  simp only [State.take, State.touch_some is, State.session_setSession_same _ _ _ w.sessions]
  rfl

theorem State.setSession_wf {s : State} (w : tableWf none s.mini.sessions = true) (door : Nat) (x : Option Session) :
    tableWf none (s.setSession door x).mini.sessions = true := tablePut_wf _ _ _ _ w

theorem State.sessionKey_setSession {s : State} (w : s.tablesWf) (door : Nat) (x : Session) :
    (s.setSession door (some x)).sessionKey door = some x.key := by
  rw [State.sessionKey, State.session_setSession_same _ _ _ w.sessions]
  rfl

theorem State.sessionKey_none {s : State} {door : Nat} (absent : s.session door = none) : s.sessionKey door = none := by
  rw [State.sessionKey, absent]
  rfl

theorem State.setSession_setSession_sessionKey {s : State} (w : s.tablesWf) (door : Nat) (x y : Session) :
    ((s.setSession door (some x)).setSession door (some y)).sessionKey door = some y.key := by
  rw [State.sessionKey, State.session_setSession_same _ _ _ (State.setSession_wf w.sessions _ _)]
  rfl

theorem stampOf_eq (m sec : Nat) : stampOf m sec = m * 60 + sec := rfl

theorem reportCheck_ok {s : State} {door item count room : Nat} (within : door < 768) (known : item < 32)
    (named : s.roomOfDoor door = some room) (few : count ≤ 15) : s.reportCheck door item count = .ok room := by
  rw [State.reportCheck_within within known, named]
  exact if_neg (Nat.not_lt.mpr few)

theorem reportCheck_tooMany {s : State} {door item count room : Nat} (within : door < 768) (known : item < 32)
    (named : s.roomOfDoor door = some room) (many : 15 < count) : s.reportCheck door item count = .error .badField := by
  rw [State.reportCheck_within within known, named]
  exact if_pos many

theorem reportCheck_noSuch {s : State} {door item : Nat} (within : door < 768) (known : item < 32)
    (unnamed : s.roomOfDoor door = none) (count : Nat) : s.reportCheck door item count = .error .noSuch := by
  rw [State.reportCheck_within within known, unnamed]
  rfl

theorem exec_minibarTake_counted {s : State} {fs : List Byte} {room : Nat} (h : s.asked .lock .minibarTake fs)
    (accepted : s.reportCheck (fieldAt fs 0 2) (fieldAt fs 2 1) (fieldAt fs 3 1) = .ok room) (counted : 0 < fieldAt fs 3 1) :
    exec .minibarTake s = .next (s.take (fieldAt fs 0 2) room (fieldAt fs 2 1) (fieldAt fs 3 1)) := by
  rw [exec_minibarTake_accepted h accepted, if_neg (Nat.pos_iff_ne_zero.mp counted)]

/-- Settles O39. -/
theorem takeIsClassifiedAndCharged : Obligations.TakeIsClassifiedAndCharged := by
  refine ⟨fun s door w => ⟨State.roomOfDoor_eq_none w, fun room => State.roomOfDoor_eq_some w⟩, fun s fs h => ?_⟩
  dsimp only
  refine ⟨fun bad => exec_minibarTake_refused h (State.reportCheck_badField bad _),
    fun within known unnamed => exec_minibarTake_refused h (reportCheck_noSuch within known unnamed _),
    fun room within known named => ⟨fun many => exec_minibarTake_refused h (reportCheck_tooMany within known named many),
      fun zero => ?_, fun counted few w => ?_⟩⟩
  · rw [exec_minibarTake_accepted h (reportCheck_ok within known named (zero ▸ Nat.zero_le 15)), if_pos zero]
  rw [exec_minibarTake_counted h (reportCheck_ok within known named few) counted, ← State.takeLive_iff]
  refine ⟨fun absent live => ?_, fun absent dead => ?_, fun x is => ?_⟩
  · rw [State.take_unattended absent, if_pos live, State.charge, State.sessionKey_none absent]
    rfl
  · rw [State.take_unattended absent, if_neg dead, State.shrink, State.sessionKey_none absent]
    rfl
  · rw [State.take_attended w is, is]
    dsimp only [Option.elim_some]
    refine ⟨fun restock => ?_, fun guest dead => ?_, fun guest live => ?_⟩
    · rw [if_pos restock]
      rfl
    · rw [if_neg (by simp [guest]), if_neg dead, State.shrink, State.sessionKey_setSession w]
      rfl
    · rw [if_neg (by simp [guest]), if_pos live, State.chargeSession]
      dsimp only
      refine ⟨fun front line back lines item absent => ?_, fun absent => ?_⟩
      · rw [lines, placeOnLines_listed item absent]
        refine ⟨fun room_ => ?_, fun full => ?_⟩
        · rw [if_pos room_]
          dsimp only
          rw [State.charge, State.setSession_setSession_sessionKey w]
          rfl
        · rw [if_neg (Nat.not_le.mpr full)]
          dsimp only
          rw [State.charge, State.sessionKey_setSession w]
          rfl
      · rw [placeOnLines_new absent]
        refine ⟨fun room_ => ?_, fun full => ?_⟩
        · rw [if_pos room_]
          dsimp only
          rw [State.charge, State.setSession_setSession_sessionKey w]
          rfl
        · rw [if_neg (Nat.not_lt.mpr full)]
          dsimp only
          rw [State.charge, State.sessionKey_setSession w]
          rfl

/-! #### A return (R121, R122) -/

theorem exec_minibarReturn_counted {s : State} {fs : List Byte} {room : Nat} (h : s.asked .lock .minibarReturn fs)
    (accepted : s.reportCheck (fieldAt fs 0 2) (fieldAt fs 2 1) (fieldAt fs 3 1) = .ok room) (counted : 0 < fieldAt fs 3 1) :
    exec .minibarReturn s = .next (s.giveBack (fieldAt fs 0 2) room (fieldAt fs 2 1) (fieldAt fs 3 1)) := by
  rw [exec_minibarReturn_accepted h accepted, if_neg (Nat.pos_iff_ne_zero.mp counted)]

theorem State.giveBack_unattended {s : State} {door : Nat} (absent : s.session door = none) (room item count : Nat) :
    s.giveBack door room item count = s.unmatched door room item count := by
  simp only [State.giveBack, State.touch_none absent, absent]

theorem State.giveBack_attended {s : State} (w : s.tablesWf) {door : Nat} {x : Session} (is : s.session door = some x)
    (room item count : Nat) :
    s.giveBack door room item count =
      let y := { x with active := stampOf s.clock.minute s.clock.second }
      let u := s.setSession door (some y)
      if x.kind = .restock then u.countStock door room item count x.key .giveBack
      else (lineOf item x.lines).elim (u.unmatched door room item count) fun line => u.refund door room item count y line := by
  simp only [State.giveBack, State.touch_some is, State.session_setSession_same _ _ _ w.sessions]
  cases lineOf item x.lines <;> rfl

theorem refundOf_whole (line : Line) (some_ : 0 < line.count) : refundOf line line.count = line.amount := by
  rw [refundOf, Nat.min_self, Nat.mul_div_cancel _ some_]

theorem refundOf_le_amount (line : Line) (some_ : 0 < line.count) (count : Nat) : refundOf line count ≤ line.amount :=
  calc refundOf line count
    _ ≤ line.amount * line.count / line.count := Nat.div_le_div_right (Nat.mul_le_mul_left _ (Nat.min_le_right ..))
    _ = line.amount := Nat.mul_div_cancel _ some_

/-- Settles O40. -/
theorem returnIsRefundedFromTheLine : Obligations.ReturnIsRefundedFromTheLine := by
  intro s fs h
  dsimp only
  refine ⟨fun bad => exec_minibarReturn_refused h (State.reportCheck_badField bad _),
    fun within known unnamed => exec_minibarReturn_refused h (reportCheck_noSuch within known unnamed _),
    fun room within known named => ⟨fun many => exec_minibarReturn_refused h (reportCheck_tooMany within known named many),
      fun zero => ?_, fun counted few w => ?_⟩,
    fun line some_ => ⟨refundOf_whole line some_, fun count => ⟨rfl, refundOf_le_amount line some_ count,
      Nat.sub_add_cancel (refundOf_le_amount line some_ count)⟩⟩⟩
  · rw [exec_minibarReturn_accepted h (reportCheck_ok within known named (zero ▸ Nat.zero_le 15)), if_pos zero]
  rw [exec_minibarReturn_counted h (reportCheck_ok within known named few) counted]
  refine ⟨fun absent => ?_, fun x is => ?_⟩
  · rw [State.giveBack_unattended absent, State.unmatched, State.sessionKey_none absent]
    rfl
  · rw [State.giveBack_attended w is, is]
    dsimp only [Option.elim_some]
    refine ⟨fun restock => ?_, fun guest absent => ?_, fun front line back guest lines item absent => ?_⟩
    · rw [if_pos restock]
      rfl
    · rw [if_neg (by simp [guest]), lineOf_eq_none absent, Option.elim_none, State.unmatched, State.sessionKey_setSession w]
      rfl
    · rw [if_neg (by simp [guest]), lines, lineOf_append_cons item absent, Option.elim_some, State.refund]
      dsimp only
      rw [refundLines_listed item absent]
      rfl

/-! #### A shut, and the idle test (R113, R114) -/

theorem exec_minibarShut_asked {s : State} {fs : List Byte} (h : s.asked .lock .minibarShut fs) :
    exec .minibarShut s = .next
      (if 768 ≤ fieldAt fs 0 2 then s.answer .lock .badField []
      else if s.roomOfDoor (fieldAt fs 0 2) = none then s.answer .lock .noSuch []
      else (s.closeSession (fieldAt fs 0 2) .shut).answer .lock .ok
        [.num 1 (if (s.session (fieldAt fs 0 2)).isSome then 0 else 1)]) := by
  change execMinibarShut s = _
  simp only [execMinibarShut, State.serve_asked h, Option.isNone_iff_eq_none]
  rfl

/-- What the idle test leaves of a session (R113). -/
def Session.afterIdleTest (x : Session) (now timeout : Nat) : Option Session :=
  if x.active ≤ now ∧ timeout ≤ now - x.active then none else some { x with active := min x.active now }

/-- The records the idle test of a door offers (R113, R115). -/
def State.idleRecords (s : State) (now door : Nat) : List Rec :=
  if (s.session door).elim false fun x => decide (x.active ≤ now ∧ s.settings.idleTimeout ≤ now - x.active) then
    s.closingRecords door .idle
  else []

/-- The idle tests of `doors` lead from `s` to `t`. -/
structure State.IdleTested (s : State) (now : Nat) (doors : List Nat) (t : State) : Prop where
  wf : tableWf none t.mini.sessions = true
  session : ∀ d, t.session d =
    if d ∈ doors then (s.session d).bind fun x => x.afterIdleTest now s.settings.idleTimeout else s.session d
  frame : t = { s with
    mini := { s.mini with sessions := t.mini.sessions }
    journal := { s.journal with offers := s.journal.offers ++ doors.flatMap (s.idleRecords now) } }

theorem State.closeSession_wf {s : State} (w : tableWf none s.mini.sessions = true) (door : Nat) (cause : CloseCause) :
    tableWf none (s.closeSession door cause).mini.sessions = true := by
  rw [State.closeSession]
  split
  · exact w
  · exact State.setSession_wf w door none

theorem State.idleSession_tested {s : State} (w : tableWf none s.mini.sessions = true) (now door : Nat) :
    s.IdleTested now [door] (s.idleSession now door) := by
  have alone : ∀ t : State, (∀ d, d ≠ door → t.session d = s.session d) →
      t.session door = ((s.session door).bind fun x => x.afterIdleTest now s.settings.idleTimeout) → ∀ d, t.session d =
        if d ∈ [door] then (s.session d).bind fun x => x.afterIdleTest now s.settings.idleTimeout else s.session d := by
    intro t other here d
    by_cases e : d = door
    · rw [if_pos (by simp [e]), e, here]
    · rw [if_neg (by simp [e]), other d e]
  rw [State.idleSession]
  cases is : s.session door with
  | none =>
    refine ⟨w, alone s (fun _ _ => rfl) (by rw [is]; rfl), ?_⟩
    simp [State.idleRecords, is]
  | some x =>
    dsimp only
    by_cases early : now < x.active
    · rw [if_pos early]
      have kept : x.afterIdleTest now s.settings.idleTimeout = some { x with active := now } := by
        rw [Session.afterIdleTest, if_neg fun idle => absurd idle.1 (Nat.not_le.mpr early), min_eq_right (Nat.le_of_lt early)]
      refine ⟨State.setSession_wf w _ _, alone _ (fun d e => State.session_setSession_other s door d _ e) ?_, ?_⟩
      · rw [State.session_setSession_same _ _ _ w, is, Option.bind_some, kept]
      · simp [State.idleRecords, is, Nat.not_le.mpr early, State.setSession]
    · rw [if_neg early]
      have behind := Nat.not_lt.mp early
      by_cases late : s.settings.idleTimeout ≤ now - x.active
      · rw [if_pos late]
        have gone : x.afterIdleTest now s.settings.idleTimeout = none := if_pos ⟨behind, late⟩
        refine ⟨State.closeSession_wf w _ _, alone _ (fun d e => ?_) ?_, ?_⟩
        · rw [State.closeSession_session _ _ _ _ w, if_neg e]
        · rw [State.closeSession_session _ _ _ _ w, if_pos rfl, is, Option.bind_some, gone]
        · simpa [State.idleRecords, is, behind, late] using State.closeSession_spec s door .idle
      · rw [if_neg late]
        have kept : x.afterIdleTest now s.settings.idleTimeout = some x := by
          rw [Session.afterIdleTest, if_neg fun idle => late idle.2, min_eq_left behind]
        refine ⟨w, alone s (fun _ _ => rfl) (by rw [is, Option.bind_some, kept]), ?_⟩
        simp [State.idleRecords, is, late]

theorem State.IdleTested.cons {s u t : State} {now door : Nat} {doors : List Nat} (first : s.IdleTested now [door] u)
    (rest : u.IdleTested now doors t) (fresh : door ∉ doors) : s.IdleTested now (door :: doors) t := by
  have clock : u.clock = s.clock := by rw [first.frame]
  have settings : u.settings = s.settings := by rw [first.frame]
  have same : ∀ d ∈ doors, u.session d = s.session d := fun d listed => by
    rw [first.session, if_neg fun here => fresh (by rwa [← List.mem_singleton.mp here])]
  have records : doors.flatMap (u.idleRecords now) = doors.flatMap (s.idleRecords now) := List.flatMap_congr fun d listed => by
    simp only [State.idleRecords, State.closingRecords, State.recordNow, same d listed, settings, clock]
  refine ⟨rest.wf, fun d => ?_, ?_⟩
  · rw [rest.session d, settings]
    by_cases listed : d ∈ doors
    · rw [if_pos listed, if_pos (List.mem_cons_of_mem _ listed), same d listed]
    · rw [if_neg listed, first.session d]
      simp [listed]
  · rw [rest.frame, records, first.frame]
    simp

theorem State.idleTested_foldl {doors : List Nat} (nodup : doors.Nodup) (now : Nat) {s : State}
    (w : tableWf none s.mini.sessions = true) :
    s.IdleTested now doors (doors.foldl (fun u door => u.idleSession now door) s) := by
  induction doors generalizing s with
  | nil => exact ⟨w, fun d => by simp, by simp⟩
  | cons door doors ih =>
    obtain ⟨fresh, distinct⟩ := List.nodup_cons.mp nodup
    have first := State.idleSession_tested w now door
    exact first.cons (ih distinct first.wf) fresh

theorem flatMap_filter_eq {α β : Type} (l : List α) (f : α → Bool) (g : α → List β) :
    (l.filter f).flatMap g = l.flatMap fun a => if f a then g a else [] := by
  induction l with
  | nil => rfl
  | cons a l ih => by_cases keep : f a <;> simp [keep, ih]

theorem tableWfFrom_nodup {α : Type} [DecidableEq α] {d : α} {t : Table α} {low : Nat} (w : tableWfFrom d low t = true) :
    (t.map Prod.fst).Nodup := by
  induction t generalizing low with
  | nil => exact List.nodup_nil
  | cons p rest ih =>
    simp only [tableWfFrom, Bool.and_eq_true] at w
    obtain ⟨_, restWf⟩ := w
    refine List.nodup_cons.mpr ⟨fun again => ?_, ih restWf⟩
    obtain ⟨q, listed, same⟩ := List.mem_map.mp again
    exact absurd (le_of_mem_tableWfFrom restWf listed) (by simp [same])

theorem State.mem_doors_of_session {s : State} {door : Nat} (isOpen : s.session door ≠ none) :
    door ∈ s.mini.sessions.map Prod.fst :=
  List.mem_map_of_mem (f := Prod.fst) (mem_of_tableLook none isOpen)

theorem State.idlePool_tested {s : State} (w : s.tablesWf) :
    s.IdleTested (stampOf s.clock.minute s.clock.second) (s.mini.sessions.map Prod.fst) s.idlePool :=
  State.idleTested_foldl (tableWfFrom_nodup w.sessions) _ w.sessions

/-- The records of the pool's idle tests are those of the idle sessions of the table, in its order. -/
theorem State.idleRecords_pool {s : State} (w : s.tablesWf) (now : Nat) :
    (s.mini.sessions.map Prod.fst).flatMap (s.idleRecords now) =
      (s.mini.sessions.filter fun p => p.2.elim false fun x =>
        decide (x.active ≤ now ∧ s.settings.idleTimeout ≤ now - x.active)).flatMap fun p => s.closingRecords p.1 .idle := by
  rw [List.flatMap_map, flatMap_filter_eq]
  refine List.flatMap_congr fun p listed => ?_
  have held : s.session p.1 = p.2 := (tableLook_of_mem w.sessions listed).1
  rw [State.idleRecords, held]

theorem State.idlePool_frame {s : State} (w : s.tablesWf) :
    let now := stampOf s.clock.minute s.clock.second
    s.idlePool = { s with
      mini := { s.mini with sessions := s.idlePool.mini.sessions }
      journal := { s.journal with
        offers := s.journal.offers ++ (s.mini.sessions.filter fun p => p.2.elim false fun x =>
          decide (x.active ≤ now ∧ s.settings.idleTimeout ≤ now - x.active)).flatMap fun p => s.closingRecords p.1 .idle } } := by
  dsimp only
  rw [← State.idleRecords_pool w]
  exact (State.idlePool_tested w).frame

/-- Settles O41. -/
theorem sessionsCloseOnShutAndOnIdle : Obligations.SessionsCloseOnShutAndOnIdle := by
  refine ⟨fun s fs h => ?_, fun s on due w => ?_⟩
  · dsimp only
    rw [exec_minibarShut_asked h]
    refine ⟨fun beyond => by rw [if_pos beyond], fun within unnamed => ?_, fun within named => ⟨fun absent => ?_, fun isOpen => ?_⟩⟩
    · rw [if_neg (Nat.not_le.mpr within), if_pos unnamed]
    · rw [if_neg (Nat.not_le.mpr within), if_neg named, State.closeSession_none absent, absent]
      rfl
    · rw [if_neg (Nat.not_le.mpr within), if_neg named, State.closeSession_open isOpen,
        if_pos (Option.isSome_iff_ne_none.mpr isOpen)]
  · have tested := State.idlePool_tested (s := { s with mini := { s.mini with idleDue := s.mini.idleDue - 1 } }) w
    refine ⟨_, congrArg Host.Outcome.next (if_pos (by simp [on, due])), fun d => ?_, ?_⟩
    · rw [tested.session d]
      by_cases absent : s.session d = none
      · change (if _ then (s.session d).bind _ else s.session d) = (s.session d).bind _
        rw [absent]
        exact ite_self none
      · exact if_pos (State.mem_doors_of_session absent)
    · exact State.idlePool_frame (s := { s with mini := { s.mini with idleDue := s.mini.idleDue - 1 } }) w

/-! #### The tariff and the credit limit (R103, R104, R109, R123) -/

theorem State.creditRefusal_eq (s : State) (room : Nat) :
    s.creditRefusal room =
      if s.settings.service = .unprovisioned then some .notReady
      else if 512 ≤ room then some .badField
      else if (s.tally room).isOpen = false then some .roomState
      else none := rfl

theorem exec_priceSet_asked {s : State} {fs : List Byte} (h : s.asked .desk .priceSet fs) :
    exec .priceSet s = .next ((s.tariffRefusal (decide (32 ≤ fieldAt fs 0 1))).elim
      (State.answer { s with mini := { s.mini with prices := tablePut 0 s.mini.prices (fieldAt fs 0 1) (fieldAt fs 1 2) } } .desk .ok
        [.num 2 (fieldAt fs 1 2)]) fun st => s.answer .desk st []) := by
  change execPriceSet s = _
  simp only [execPriceSet, State.serve_asked h]
  change Host.Outcome.next (match s.tariffRefusal (decide (32 ≤ fieldAt fs 0 1)) with | some st => _ | none => _) = _
  cases s.tariffRefusal (decide (32 ≤ fieldAt fs 0 1)) <;> rfl

theorem exec_rateSet_asked {s : State} {fs : List Byte} (h : s.asked .desk .rateSet fs) :
    exec .rateSet s = .next ((s.tariffRefusal false).elim
      (State.answer { s with mini := { s.mini with rate := min (fieldAt fs 0 1) 250 } } .desk .ok [.num 1 (min (fieldAt fs 0 1) 250)])
        fun st => s.answer .desk st []) := by
  change execRateSet s = _
  simp only [execRateSet, State.serve_asked h]
  cases s.tariffRefusal false <;> rfl

theorem exec_creditSet_asked {s : State} {fs : List Byte} (h : s.asked .desk .creditSet fs) :
    exec .creditSet s = .next ((s.creditRefusal (fieldAt fs 0 2)).elim
      (let t := { s.tally (fieldAt fs 0 2) with limit := min (fieldAt fs 2 3) 9999999 }
       (s.setTally (fieldAt fs 0 2) t).answer .desk .ok [.num 3 t.limit, .num 3 t.tally, .flag t.atLimit])
      fun st => s.answer .desk st []) := by
  change execCreditSet s = _
  simp only [execCreditSet, State.serve_asked h]
  cases s.creditRefusal (fieldAt fs 0 2) <;> rfl

/-- Settles O42. -/
theorem tariffAndCreditAreWrittenOrRefused : Obligations.TariffAndCreditAreWrittenOrRefused := by
  intro s fs
  dsimp only
  refine ⟨fun h => ?_, fun h => ?_, fun h => ?_, fun h => ?_, fun l h => ?_, fun l h => ?_⟩
  · rw [exec_priceSet_asked h]
    simp only [State.tariffRefusal, elim_refusal, Option.elim_none, decide_eq_true_eq]
  · rw [exec_rateSet_asked h]
    simp only [State.tariffRefusal, elim_refusal, Option.elim_none, Bool.false_eq_true, if_false]
  · change execTariffLock s = _
    simp only [execTariffLock, State.serve_asked h]
  · rw [exec_creditSet_asked h]
    simp only [State.creditRefusal_eq, elim_refusal, Option.elim_none]
    rfl
  · change execTariffQuery l s = _
    simp only [execTariffQuery, State.serve_asked h]
    rfl
  · change execTallyQuery l s = _
    simp only [execTallyQuery, State.serve_asked h]
    rfl

end Sys2Proof.Machine
end

section
/-! PROOFS. The Group Issue Queue: loads and points, the start and the tests of a run, its steps, its boundary, halt and abort
(O43 to O47). -/

namespace Sys2Proof.Machine

/-! #### The fields an entry admits (R126, R128) -/

theorem genModeOf_eq (n : Nat) : genModeOf n = if 1 < n then none else some (if n = 0 then .new else .copy) := by
  rcases n with _ | _ | n
  · rfl
  · rfl
  · exact (if_pos (by omega)).symm

theorem groupFieldsOf_eq (fs : List Byte) :
    groupFieldsOf fs =
      let rooms := roomsAt fs 3 (min (fieldAt fs 2 1) 4)
      if 1 < fieldAt fs 1 1 ∨ (fieldAt fs 1 1 = 0 ∧ fieldAt fs 11 4 = 0) ∨ fieldAt fs 2 1 = 0 ∨ 4 < fieldAt fs 2 1 ∨
          (∃ r ∈ rooms, 512 ≤ r) ∨ ¬ rooms.Nodup ∨ 7 < fieldAt fs 18 1 ∨ 1 < fieldAt fs 19 1 ∨ 1 < fieldAt fs 30 1 then none
      else some
        { mode := if fieldAt fs 1 1 = 0 then .checkinIssue (fieldAt fs 11 4) (min (fieldAt fs 15 3) 9999999) else .issueOnly
          rooms := rooms, copies := fieldAt fs 18 1, gen := if fieldAt fs 19 1 = 0 then .new else .copy
          keyStart := fieldAt fs 20 4, keyEnd := fieldAt fs 24 4, zones := BitVec.ofNat 16 (fieldAt fs 28 2)
          minibar := fieldAt fs 30 1 == 1 } := by
  unfold groupFieldsOf
  rw [genModeOf_eq]
  generalize fieldAt fs 1 1 = mode
  rcases mode with _ | _ | mode
  · by_cases stayEnd : fieldAt fs 11 4 = 0
    · simp [stayEnd]
    by_cases gen : 1 < fieldAt fs 19 1
    · simp [stayEnd, gen]
    · simp only [stayEnd, gen, Bool.or_eq_true, badRoomList_iff, decide_eq_true_eq, or_assoc, Nat.not_lt_zero, false_or, if_false,
        if_true, and_false]
      rfl
  · by_cases gen : 1 < fieldAt fs 19 1
    · simp [gen]
    · simp only [gen, Bool.or_eq_true, badRoomList_iff, decide_eq_true_eq, or_assoc, Nat.zero_add, Nat.lt_irrefl, false_or,
        Nat.one_ne_zero, false_and, if_false]
  · exact (if_pos (.inl (by omega))).symm

theorem Group.active_iff (g : Group) : g.active = true ↔ g.state = .running ∨ g.state = .halting := by
  simp [Group.active]

/-! #### Loads, points, queries -/

theorem exec_groupLoad_asked {s : State} {fs : List Byte} (h : s.asked .desk .groupLoad fs) :
    exec .groupLoad s = .next
      (if s.settings.service = .unprovisioned then s.answer .desk .notReady []
      else if 15 < fieldAt fs 0 1 then s.answer .desk .badField []
      else (groupFieldsOf fs).elim (s.answer .desk .badField []) fun f =>
        if (s.group.state = .running ∨ s.group.state = .halting) ∧ fieldAt fs 0 1 = s.group.next then
          (s.noticing .desk 8).answer .desk .collision []
        else
          (s.setEntry (fieldAt fs 0 1) { fields := some f, checkedIn := false, issued := 0 }).answer .desk .ok
            [.num 1 (fieldAt fs 0 1), optField 3 (groupLimit f.mode)]) := by
  change execGroupLoad s = _
  simp only [execGroupLoad, State.serve_asked h, Bool.and_eq_true, Group.active_iff, beq_iff_eq]
  cases groupFieldsOf fs <;> rfl

/-- Settles O43. -/
theorem groupEntriesAreLoadedAndPointed : Obligations.GroupEntriesAreLoadedAndPointed := by
  refine ⟨fun fs => ⟨fun bad => (groupFieldsOf_eq fs).trans (if_pos bad), fun fine => (groupFieldsOf_eq fs).trans (if_neg fine)⟩,
    fun s fs => ?_⟩
  dsimp only
  refine ⟨fun h => ?_, fun h => ?_, fun l h => ?_⟩
  · rw [exec_groupLoad_asked h]
    refine ⟨fun no => by rw [if_pos no], fun ready bad => ?_, fun f ready within fields => ?_⟩
    · rw [if_neg ready]
      obtain beyond | none := bad
      · rw [if_pos beyond]
      · rw [none]
        exact congrArg _ (ite_self _)
    · rw [if_neg ready, if_neg (Nat.not_lt.mpr within), fields, Option.elim_some]
      exact ⟨fun active at_ => by rw [if_pos ⟨active, at_⟩], fun free => by rw [if_neg free]⟩
  · change execGroupPoint s = _
    simp only [execGroupPoint, State.serve_asked h]
  · change execGroupQuery l s = _
    simp only [execGroupQuery, State.serve_asked h]

/-! #### The start of a run (R130) -/

theorem State.clearEntries {ns : List Nat} (distinct : ns.Nodup) {s : State}
    (w : tableWf GroupEntry.blank s.group.entries = true) (m : Nat) :
    (ns.foldl (fun u n => u.setEntry n (u.entry n).fresh) s).entry m = if m ∈ ns then (s.entry m).fresh else s.entry m := by
  induction ns generalizing s with
  | nil => simp
  | cons n ns ih =>
    obtain ⟨fresh, rest⟩ := List.nodup_cons.mp distinct
    have wf' : tableWf GroupEntry.blank (s.setEntry n (s.entry n).fresh).group.entries = true := tablePut_wf _ _ _ _ w
    rw [List.foldl_cons, ih rest wf', State.entry_setEntry w]
    by_cases here : m = n
    · rw [here, if_neg fresh, if_pos rfl, if_pos List.mem_cons_self]
    · rw [if_neg here]
      simp [here]

theorem State.clearProgress_entry {s : State} (w : s.tablesWf) (n : Nat) :
    s.clearProgress.entry n = if n < 16 then { s.entry n with checkedIn := false, issued := 0 } else s.entry n := by
  rw [State.clearProgress, State.clearEntries List.nodup_range w.entries]
  simp only [List.mem_range]
  rfl

theorem State.clearProgress_frame (s : State) :
    s.clearProgress = { s with group := { s.group with entries := s.clearProgress.group.entries } } := by
  unfold State.clearProgress
  induction List.range Config.groupEntries generalizing s with
  | nil => rfl
  | cons n ns ih =>
    rw [List.foldl_cons, ih]
    rfl

/-- A new run as GROUP_START leaves it, its entries written (R130). -/
def State.startedWith (s : State) (entries : Table GroupEntry) : State :=
  { s with
    group :=
      { s.group with
        entries := entries, state := .running, next := s.group.first, redirect := false, abort := false
        stop := none, startTag := s.desk.inProgress.map Request.tag, phase := .rest } }

theorem State.startedWith_entry (s : State) (entries : Table GroupEntry) (n : Nat) :
    (s.startedWith entries).entry n = tableLook GroupEntry.blank entries n := rfl

theorem State.startedWith_frame (s : State) (entries : Table GroupEntry) :
    s.startedWith entries =
      { s with
        group :=
          { s.group with
            entries := (s.startedWith entries).group.entries, state := .running, next := s.group.first, redirect := false
            abort := false, stop := none, startTag := s.desk.inProgress.map Request.tag, phase := .rest } } := rfl

theorem State.startNew_eq (s : State) :
    s.startNew =
      ((s.startedWith s.clearProgress.group.entries).answer .desk .ok
        [.num 1 s.group.first, .num 1 s.group.first, .num 1 s.group.last, .flag false]).groupRun := by
  have frame := s.clearProgress_frame
  unfold State.startNew
  generalize s.clearProgress.group.entries = entries at frame ⊢
  rw [frame]
  rfl

theorem exec_groupStart_asked {s : State} {fs : List Byte} (h : s.asked .desk .groupStart fs) :
    exec .groupStart s = .next
      (if s.settings.service ≠ .inService then s.answer .desk .notInService []
      else if s.group.state = .running ∨ s.group.state = .halting then s.answer .desk .groupState []
      else if s.group.state = .idle then s.startNew else s.startResumed) := by
  change execGroupStart s = _
  simp only [execGroupStart, State.serve_asked h]
  cases s.group.state <;> rfl

/-! #### The tests of a run (R131, R133) -/

theorem GroupFields.checksIn_iff (f : GroupFields) : f.checksIn = true ↔ ∃ stayEnd limit, f.mode = .checkinIssue stayEnd limit := by
  unfold GroupFields.checksIn
  cases f.mode <;> simp

theorem State.placeFree_iff (s : State) (l : LinkId) : s.placeFree l = true ↔ s.placesTaken l < 16 := decide_eq_true_iff

theorem State.groupRun_outOfService {s : State} (out : s.settings.service ≠ .inService) :
    s.groupRun = s.groupStop .notInService none := if_pos out

theorem State.groupRun_notLoaded {s : State} (service : s.settings.service = .inService)
    (none_ : (s.entry s.group.next).fields = none) : s.groupRun = s.groupStop .noSuch none := by
  rw [State.groupRun, if_neg (not_not_intro service), none_]

theorem State.groupRun_loaded {s : State} {f : GroupFields} (service : s.settings.service = .inService)
    (fields : (s.entry s.group.next).fields = some f) :
    s.groupRun =
      if f.checksIn = true ∧ (s.entry s.group.next).checkedIn = false then
        (s.groupPhase .checkinHanded).cmHand .group
      else if (s.entry s.group.next).issued < (if f.copies = 0 then 8 else f.copies) then s.groupAskPlace
      else s.groupPhase .boundary := by
  rw [State.groupRun, if_neg (not_not_intro service), fields]
  simp only [Bool.and_eq_true, Bool.not_eq_true']
  rfl

theorem exec_groupPlaceHold_on {s : State} (on : s.powered = true) : exec .groupPlaceHold s = .next s.groupHoldPlace :=
  congrArg Host.Outcome.next (if_pos on)

/-- Settles O44. -/
theorem groupStartBeginsTheRunAndItsTests : Obligations.GroupStartBeginsTheRunAndItsTests := by
  refine ⟨fun s fs h => ?_, fun s => ?_⟩
  · dsimp only
    rw [exec_groupStart_asked h]
    refine ⟨fun out => by rw [if_pos out], fun service => ⟨fun active => ?_, fun stopped => ?_, fun idle w => ?_⟩⟩
    · rw [if_neg (not_not_intro service), if_pos active]
    · rw [if_neg (not_not_intro service), if_neg (by simp [stopped]), if_neg (by simp [stopped])]
      rfl
    · rw [if_neg (not_not_intro service), if_neg (by simp [idle]), if_pos idle]
      exact ⟨_, congrArg _ s.startNew_eq, fun n => (s.startedWith_entry _ n).trans (State.clearProgress_entry w n),
        s.startedWith_frame _⟩
  · dsimp only
    refine ⟨fun on waiting free => ?_, fun out => State.groupRun_outOfService out,
      fun service none => State.groupRun_notLoaded service none, fun f service fields => ?_⟩
    · rw [exec_groupPlaceHold_on on, State.groupHoldPlace_waiting s waiting ((s.placeFree_iff .desk).mpr free)]
    · rw [State.groupRun_loaded service fields, ← GroupFields.checksIn_iff]
      refine ⟨fun checksIn out => if_pos ⟨checksIn, out⟩, fun ready => ?_⟩
      rw [if_neg ready]
      refine ⟨fun left free => ?_, fun left full => ?_, fun complete => if_neg (Nat.not_lt.mpr complete)⟩
      · rw [if_pos left, State.groupAskPlace_free s ((s.placeFree_iff .desk).mpr free)]
        rfl
      · rw [if_pos left]
        exact if_neg fun free => absurd ((s.placeFree_iff .desk).mp free) (Nat.not_lt.mpr full)

/-! #### The steps of a run (R132 to R134) -/

theorem State.checkInTest_fails {s : State} {stayEnd room : Nat} {st : Status} {front : List Nat} (back : List Nat)
    (pass : ∀ r ∈ front, s.checkInRefusal r stayEnd = none) (fails : s.checkInRefusal room stayEnd = some st) :
    s.checkInTest stayEnd (front ++ room :: back) = some (st, room) := by
  induction front with
  | nil => rw [List.nil_append, State.checkInTest, fails]
  | cons r front ih =>
    obtain ⟨first, rest⟩ := List.forall_mem_cons.mp pass
    rw [List.cons_append, State.checkInTest, first]
    exact ih rest

theorem State.checkInTest_passes {s : State} {stayEnd : Nat} {rooms : List Nat}
    (pass : ∀ r ∈ rooms, s.checkInRefusal r stayEnd = none) : s.checkInTest stayEnd rooms = none := by
  induction rooms with
  | nil => rfl
  | cons r rooms ih =>
    obtain ⟨first, rest⟩ := List.forall_mem_cons.mp pass
    rw [State.checkInTest, first]
    exact ih rest

theorem exec_groupCheckinStep_taken {s : State} (takes : s.cmTakes .group = true) (phase : s.group.phase = .checkinHanded) :
    exec .groupCheckinStep s = .next s.taking.groupCheckIn :=
  congrArg Host.Outcome.next (if_pos (by simp [phase, takes]))

theorem exec_groupIssueStep_taken {s : State} {held : Bool} (takes : s.cmTakes .group = true)
    (phase : s.group.phase = .issueHanded held) : exec .groupIssueStep s = .next (s.taking.groupIssue held) := by
  change execGroupIssueStep s = _
  rw [execGroupIssueStep, phase]
  exact congrArg Host.Outcome.next (if_pos takes)

theorem State.groupCheckIn_eq {s : State} {f : GroupFields} {stayEnd limit : Nat}
    (fields : (s.entry s.group.next).fields = some f) (mode : f.mode = .checkinIssue stayEnd limit) :
    s.groupCheckIn = (s.checkInTest stayEnd f.rooms).elim (s.beginCheckIn (.group s.group.next) f.rooms stayEnd limit)
      fun fails => s.groupStop fails.1 (some fails.2) := by
  unfold State.groupCheckIn
  dsimp only
  rw [fields]
  dsimp only
  rw [mode]
  dsimp only
  cases s.checkInTest stayEnd f.rooms <;> rfl

theorem State.groupIssue_refused {s : State} {f : GroupFields} (fields : (s.entry s.group.next).fields = some f) {st : Status}
    {room : Option Nat} (refused : s.issueCheck (copyOrder s.group.next (s.entry s.group.next) f) = .refused st room) (held : Bool) :
    s.groupIssue held = s.groupStop st room := by
  unfold State.groupIssue
  dsimp only
  rw [fields]
  dsimp only
  rw [refused]

/-- What an accepted copy leaves, before its reply: the key issued and the copy counted (R134). -/
def State.copyIssued (s : State) (f : GroupFields) (key : Nat) (k : KeyRec) (reused : Option CancelReason) : State :=
  (s.issueApply (copyOrder s.group.next (s.entry s.group.next) f) key k reused).setEntry s.group.next
    { s.entry s.group.next with issued := (s.entry s.group.next).issued + 1 }

/-- The CARD_IMAGE reply of an accepted copy (R133). -/
def State.copyImage (s : State) (f : GroupFields) (key : Nat) (k : KeyRec) (reused : Option CancelReason) : Reply :=
  cardImageReply s.group.startTag s.group.next ((s.entry s.group.next).issued + 1)
    ((s.issueApply (copyOrder s.group.next (s.entry s.group.next) f) key k reused).imageOf key k)

theorem State.groupIssue_accepted {s : State} {f : GroupFields} (fields : (s.entry s.group.next).fields = some f) {key : Nat}
    {k : KeyRec} {reused : Option CancelReason}
    (accepted : s.issueCheck (copyOrder s.group.next (s.entry s.group.next) f) = .accepted key k reused) (held : Bool) :
    s.groupIssue held =
      let v := s.copyIssued f key k reused
      if held = false then (v.groupPhase .rest).groupAfterStep
      else if v.deskPlacing = true then v.groupPhase (.imageHeld (s.copyImage f key k reused))
      else v.placeImage (s.copyImage f key k reused) := by
  unfold State.groupIssue
  dsimp only
  rw [fields]
  dsimp only
  rw [accepted, ← fields]
  simp only [Bool.not_eq_true']
  rfl

theorem State.deskPlacing_iff (s : State) : s.deskPlacing = true ↔ ∃ q, s.desk.inProgress = some q ∧ q.answered = true := by
  unfold State.deskPlacing
  cases s.desk.inProgress <;> simp

theorem State.copyIssued_desk (s : State) (f : GroupFields) (key : Nat) (k : KeyRec) (reused : Option CancelReason) :
    (s.copyIssued f key k reused).desk = s.desk := by
  change (s.issueApply _ key k reused).desk = s.desk
  rw [State.issueApply_frame]

/-- Settles O45. -/
theorem groupStepsCheckInAndIssue : Obligations.GroupStepsCheckInAndIssue := by
  intro s f takes fields
  dsimp only
  refine ⟨fun stayEnd limit phase mode => ?_, fun held phase => ?_⟩
  · rw [exec_groupCheckinStep_taken takes phase, State.groupCheckIn_eq (s := s.taking) fields mode]
    refine ⟨fun front room back st rooms pass fails => ?_, fun pass => ?_⟩
    · rw [rooms, State.checkInTest_fails (s := s.taking) back pass fails]
      rfl
    · rw [State.checkInTest_passes (s := s.taking) pass]
      rfl
  · rw [exec_groupIssueStep_taken takes phase]
    refine ⟨fun st room refused => ?_, fun key k reused accepted => ?_⟩
    · rw [State.groupIssue_refused (s := s.taking) fields ((State.issueCheck_taking s _).trans refused)]
      rfl
    · rw [State.groupIssue_accepted (s := s.taking) fields ((State.issueCheck_taking s _).trans accepted)]
      have held_ : ¬ true = false := nofun
      have placing : (s.taking.copyIssued f key k reused).deskPlacing = true ↔
          ∃ q, s.desk.inProgress = some q ∧ q.answered = true := by
        rw [State.deskPlacing_iff, State.copyIssued_desk]
        rfl
      refine ⟨fun free => ?_, fun is answered => ?_⟩
      · cases held with
        | false =>
          dsimp only
          rw [if_pos rfl, if_neg Bool.false_ne_true, List.append_nil]
          rfl
        | true =>
          dsimp only
          rw [if_neg held_, if_neg (mt placing.mp (free.resolve_left held_)), if_pos rfl]
          rfl
      · dsimp only
        rw [is, if_neg held_, if_pos (placing.mpr answered)]
        rfl

/-! #### The boundary (R135) -/

theorem GroupEntry.complete_iff {e : GroupEntry} {f : GroupFields} (fields : e.fields = some f) :
    e.complete = true ↔ (e.checkedIn = true ∨ f.mode = .issueOnly) ∧ e.issued = if f.copies = 0 then 8 else f.copies := by
  rw [GroupEntry.complete, fields]
  simp only [Bool.and_eq_true, Bool.or_eq_true, beq_iff_eq]
  refine and_congr (or_congr Iff.rfl ?_) Iff.rfl
  rw [GroupFields.checksIn]
  cases f.mode <;> simp

theorem exec_entryBoundary_due {s : State} (on : s.powered = true) (phase : s.group.phase = .boundary) :
    exec .entryBoundary s = .next s.groupBoundary :=
  congrArg Host.Outcome.next (if_pos (by simp [on, phase]))

/-- Settles O46. -/
theorem groupBoundaryMovesTheRunOn : Obligations.GroupBoundaryMovesTheRunOn := by
  intro s
  dsimp only
  refine ⟨fun f fields => ?_, fun on phase => ?_⟩
  · rw [← GroupEntry.complete_iff fields, State.groupAfterStep]
    refine ⟨fun done => if_pos done, fun open_ abort => ?_, fun open_ go => ?_⟩
    · rw [if_neg open_, if_pos abort]
      rfl
    · rw [if_neg open_, if_neg (by simp [go])]
  · rw [exec_entryBoundary_due on phase, State.groupBoundary]
    dsimp only
    refine ⟨fun last => ?_, fun more => ?_⟩
    · rw [if_pos last]
      rfl
    · rw [if_neg more]
      have moved : (if s.group.redirect = true then
            { s.group with done := some s.group.next, phase := .rest, next := s.group.first, redirect := false }
          else { s.group with done := some s.group.next, phase := .rest, next := (s.group.next + 1) % 16 }) =
          { s.group with
            done := some s.group.next, phase := .rest
            next := if s.group.redirect = true then s.group.first else (s.group.next + 1) % 16, redirect := false } := by
        by_cases mark : s.group.redirect = true
        · rw [if_pos mark, if_pos mark]
        · rw [if_neg mark, if_neg mark, ← Bool.eq_false_of_not_eq_true mark]
      rw [moved]
      refine ⟨fun abort => ?_, fun go halting => ?_, fun go running => ?_⟩
      · rw [if_pos abort]
        rfl
      · rw [if_neg (by simp [go]), if_pos halting]
        rfl
      · rw [if_neg (by simp [go]), if_neg running]

/-! #### A halt and an abort (R137) -/

theorem exec_groupHalt_asked {s : State} {fs : List Byte} (h : s.asked .desk .groupHalt fs) :
    exec .groupHalt s = .next
      (if s.settings.service = .unprovisioned then s.answer .desk .notReady []
      else if ¬ s.group.active = true then s.answer .desk .groupState []
      else s.groupHaltRun.answer .desk .ok [.num 1 (groupStateCode s.groupHaltRun.group.state)]) := by
  change execGroupHalt s = _
  simp only [execGroupHalt, State.serve_asked h, Bool.not_eq_true', Bool.not_eq_true]

theorem exec_groupAbort_asked {s : State} {fs : List Byte} (h : s.asked .desk .groupAbort fs) :
    exec .groupAbort s = .next
      (if s.settings.service = .unprovisioned then s.answer .desk .notReady []
      else if ¬ s.groupHoldPlace.group.active = true then s.groupHoldPlace.answer .desk .groupState []
      else s.groupHoldPlace.groupAbort.answer .desk .ok [.num 1 (groupStateCode s.groupHoldPlace.groupAbort.group.state)]) := by
  change execGroupAbort s = _
  simp only [execGroupAbort, State.serve_asked h, Bool.not_eq_true', Bool.not_eq_true]

theorem State.groupHaltRun_active {s : State} (active : s.group.active = true) :
    s.groupHaltRun = { s with group := { s.group with state := .halting } } := by
  rw [State.groupHaltRun]
  split
  · rfl
  · next notRunning =>
    have halting := ((Group.active_iff _).mp active).resolve_left notRunning
    rw [← halting]

theorem State.groupAbort_running {s : State} (phase : s.group.phase ≠ .waiting) :
    s.groupAbort = { s with group := { s.group with abort := true } } := if_neg phase

theorem State.groupAbort_waiting {s : State} (phase : s.group.phase = .waiting) :
    s.groupAbort = State.noticing
      { s with group := { s.group with abort := true, state := .stopped, stop := some .abort, phase := .rest } } .desk 7 :=
  if_pos phase

theorem State.asked.on {s : State} {l : LinkId} {k : ReqKind} {fs : List Byte} (h : s.asked l k fs) : s.powered = true := by
  obtain ⟨_, _, _, _, _, on⟩ := State.serving_some h.1
  exact on

theorem State.groupHoldPlace_noPlace {s : State} (full : 16 ≤ s.placesTaken .desk) : s.groupHoldPlace = s :=
  s.groupHoldPlace_full (Bool.eq_false_of_not_eq_true fun free =>
    absurd ((s.placeFree_iff .desk).mp free) (Nat.not_lt.mpr full))

/-- Settles O47. -/
theorem groupHaltAndAbortActOnTheRun : Obligations.GroupHaltAndAbortActOnTheRun := by
  intro s fs
  dsimp only
  refine ⟨fun h => ?_, fun h => ?_⟩
  · rw [exec_groupHalt_asked h]
    by_cases active : s.group.active = true
    · rw [if_neg (not_not_intro active), if_neg (not_not_intro (s.group.active_iff.mp active)), State.groupHaltRun_active active]
      rfl
    · rw [if_pos active, if_pos (mt s.group.active_iff.mpr active)]
  · rw [exec_groupAbort_asked h]
    refine ⟨fun no => by rw [if_pos no], fun ready idle still => ?_, fun ready active phase => ?_, fun ready active waiting full => ?_,
      fun ready waiting free => ⟨s.groupRun, ?_, rfl, ?_⟩⟩
    · have kept : s.groupHoldPlace = s := still.elim s.groupHoldPlace_notWaiting State.groupHoldPlace_noPlace
      rw [if_neg ready, kept, if_pos (mt s.group.active_iff.mp idle)]
    · rw [if_neg ready, s.groupHoldPlace_notWaiting phase, if_neg (not_not_intro (s.group.active_iff.mpr active)),
        State.groupAbort_running phase]
    · rw [if_neg ready, State.groupHoldPlace_noPlace full, if_neg (not_not_intro (s.group.active_iff.mpr active)),
        State.groupAbort_waiting waiting]
      rfl
    · rw [exec_groupPlaceHold_on h.on, s.groupHoldPlace_waiting waiting ((s.placeFree_iff .desk).mpr free)]
    · have place := (s.placeFree_iff .desk).mpr free
      rw [if_neg ready, s.groupHoldPlace_waiting waiting place]
      refine ⟨fun active => ?_, fun notRunning notHalting => ?_⟩
      · rw [if_neg (not_not_intro (s.groupRun.group.active_iff.mpr active)), State.groupAbort_running (s.groupRun_phase place)]
      · rw [if_pos fun active => (s.groupRun.group.active_iff.mp active).elim notRunning notHalting]

end Sys2Proof.Machine
end

section
/-! PROOFS. The Journal Unit: records staged and made durable, what a programmed record reads back as (O48, O49). -/

namespace Sys2Proof.Machine

/-! #### Staging (R143, R144) -/

theorem Journal.stage_free {j : Journal} (r : Rec) (free : j.staging.length < 32) :
    j.stage r = { j with staging := j.staging ++ [r] } := if_pos free

theorem Journal.stage_full {j : Journal} (r : Rec) (full : 32 ≤ j.staging.length) :
    j.stage r = { j with unstaged := min (j.unstaged + 1) 65535 } := if_neg (Nat.not_lt.mpr full)

theorem exec_stageRecord_offered {s : State} {r : Rec} {rest : List Rec} (on : s.powered = true)
    (offers : s.journal.offers = r :: rest) :
    exec .stageRecord s = .next { s with journal := { s.journal.stage (s.stagedForm r) with offers := rest } } := by
  change execStageRecord s = _
  rw [execStageRecord, offers]
  exact congrArg Host.Outcome.next (if_pos on)

/-! #### Programs (R149 to R151) -/

theorem exec_programStart_ready {s : State} (ready : s.programReady = true) (left : s.journal.newest < 4294967295) :
    exec .programStart s = .next { s with journal := { s.journal with writer := .programming } } :=
  congrArg Host.Outcome.next ((if_pos ready).trans (if_pos left))

theorem asSlot_of_length {bs : List Byte} (full : bs.length = 32) : asSlot bs = bs := List.take_left' full

theorem exec_programComplete_due {s : State} (on : s.powered = true) (programming : s.journal.writer = .programming)
    {read : List Byte} (full : read.length = 32) : exec (.programComplete read) s = .next (s.programDone read) := by
  change execProgramComplete read s = _
  rw [execProgramComplete, asSlot_of_length full]
  exact congrArg Host.Outcome.next (if_pos (by simp [on, programming]))

/-- A program that failed its verify, before its page is retired: the slot reads as it does (R151). -/
def State.misprogrammed (s : State) (read : List Byte) : State :=
  let s1 := s.setPage s.journal.write.page ((s.page s.journal.write.page).setSlot s.journal.write.slot read)
  s1.setJournal { s1.journal with writer := .idle }

theorem State.programDone_verified {s : State} {r : Rec} {rest : List Rec} (staging : s.journal.staging = r :: rest)
    {read : List Byte} (verified : read = recordImage (s.journal.newest + 1) r) : s.programDone read = s.recordDurable read := by
  rw [State.programDone, staging]
  exact if_pos verified

theorem State.programDone_failed {s : State} {r : Rec} {rest : List Rec} (staging : s.journal.staging = r :: rest)
    {read : List Byte} (failed : read ≠ recordImage (s.journal.newest + 1) r) :
    s.programDone read = (s.misprogrammed read).retirePage s.journal.write.page s.journal.write.slot := by
  rw [State.programDone, staging]
  exact if_neg failed

theorem Journal.unstage_eq {j : Journal} {r : Rec} {rest : List Rec} (staging : j.staging = r :: rest) (m x : Nat) :
    j.unstage m x =
      { j with
        staging := rest ++ if j.unstaged = 0 then [] else [{ source := .journalUnit, minute := m, second := x, body := .gap j.unstaged }]
        unstaged := 0 } := by
  rw [Journal.unstage, staging]
  by_cases none : j.unstaged = 0
  · rw [if_pos none, if_pos none, List.append_nil, ← none]
    rfl
  · rw [if_neg none, if_neg none]
    rfl

theorem State.recorded_unstage (s : State) (read : List Byte) : ∃ pages : Table Page,
    s.recorded read = s.setJournal
      { { s.journal with pages := pages, newest := s.journal.newest + 1 }.unstage s.clock.minute s.clock.second with
        write := { s.journal.write with slot := s.journal.write.slot + 1 }, writer := .idle } := ⟨_, rfl⟩

theorem State.recorded_frame {s : State} {r : Rec} {rest : List Rec} (staging : s.journal.staging = r :: rest) (read : List Byte) :
    s.recorded read =
      { s with
        journal :=
          { s.journal with
            pages := (s.recorded read).journal.pages, newest := s.journal.newest + 1
            staging := rest ++ if s.journal.unstaged = 0 then []
              else [{ source := .journalUnit, minute := s.clock.minute, second := s.clock.second, body := .gap s.journal.unstaged }]
            unstaged := 0, write := { s.journal.write with slot := s.journal.write.slot + 1 }, writer := .idle } } := by
  obtain ⟨pages, unstaged⟩ := s.recorded_unstage read
  rw [unstaged, Journal.unstage_eq (j := { s.journal with pages := pages, newest := s.journal.newest + 1 }) staging]
  rfl

theorem State.recorded_page {s : State} (w : s.pagesWf) (read : List Byte) (p : Nat) :
    (s.recorded read).page p = if p = s.journal.write.page then
      { (s.page s.journal.write.page).setSlot s.journal.write.slot read with
        readable := (s.page s.journal.write.page).readable ++ [s.journal.write.slot]
        fill := if s.journal.write.slot = 63 then .full else (s.page s.journal.write.page).fill } else s.page p := by
  unfold State.recorded State.setJournal State.page
  dsimp only
  rw [Journal.unstage_journal]
  exact State.page_setPage w _ _ p

theorem State.misprogrammed_page {s : State} (w : s.pagesWf) (read : List Byte) (p : Nat) :
    (s.misprogrammed read).page p = if p = s.journal.write.page then
      (s.page s.journal.write.page).setSlot s.journal.write.slot read else s.page p := State.page_setPage w _ _ p

theorem State.recorded_newest {s : State} (read : List Byte) : (s.recorded read).journal.newest = s.journal.newest + 1 := by
  unfold State.recorded
  dsimp only
  rw [Journal.unstage_journal]
  rfl

theorem State.sequenceTest_eq (s : State) :
    s.sequenceTest = if s.journal.newest = 4294967295 then s.failJournal .sequenceEnd else s := rfl

/-- The tests behind a durable record (R150). -/
theorem State.recordDurable_tests {s : State} (w : s.pagesWf) (read : List Byte) :
    s.recordDurable read =
      let tested := (if s.journal.write.slot = 31 then (s.recorded read).eraseAheadTest else s.recorded read).highTest
      if s.journal.newest + 1 = 4294967295 then tested.failJournal .sequenceEnd else tested := by
  have slot : (s.journal.write.slot + 1 = 32) = (s.journal.write.slot = 31) := propext ⟨Nat.succ.inj, congrArg Nat.succ⟩
  have wf := (JournalOp.recorded s read).pages w
  have newest : ∀ t, Quiet (s.recorded read) t → t.journal.newest = s.journal.newest + 1 := fun t quiet =>
    (quiet.2 wf).newest.trans (s.recorded_newest read)
  rw [State.recordDurable_eq, State.sequenceTest_eq]
  simp only [slot]
  rw [newest]
  split
  · exact (Quiet.eraseAheadTest _).trans (.highTest _)
  · exact .highTest _

/-! #### A page retires (R156) -/

theorem Page.within_iff (p : Page) (mark : Nat) : p.within mark = true ↔ ∀ n ∈ p.readable, slotSequence (p.slot n) ≤ mark := by
  simp [Page.within, Page.sequences]

theorem State.retirePage_eq (s : State) (p held : Nat) :
    s.retirePage p held =
      let retired := State.noticing
        { s with
          journal := { s.journal with
            map := { s.journal.map with
              ring := s.journal.map.ring.map fun x => if x.page = p then { x with held := some held } else x } } } .audit 8
      if held = 0 ∨ (s.page p).within s.journal.released = true then retired.pageOut p else retired := rfl

theorem State.tablesWf.pagesWf {s : State} (w : s.tablesWf) : s.pagesWf := ⟨w.pages, w.pageSlots⟩

/-- Settles O48. -/
theorem stagedRecordsBecomeDurable : Obligations.StagedRecordsBecomeDurable := by
  refine ⟨fun s r rest on offers => ?_, fun s r rest w on staging => ?_, fun s p held => ?_⟩
  · dsimp only
    rw [exec_stageRecord_offered on offers]
    refine ⟨fun free => ?_, fun full => ?_⟩
    · rw [Journal.stage_free _ free]
      rfl
    · rw [Journal.stage_full _ full]
  · dsimp only
    refine ⟨fun normal idle ahead filling slot left => ?_, fun read programming full => ?_⟩
    · exact exec_programStart_ready
        (s.programReady_iff.mpr ⟨on, normal, idle, by simp [staging], filling, slot, ahead⟩) left
    · rw [exec_programComplete_due on programming full]
      have slots := Page.slot_setSlot (State.pageSlots_wf w.pagesWf s.journal.write.page) s.journal.write.slot read
      refine ⟨fun verified => ⟨s.recorded read, ?_, State.recorded_frame staging read, ?_⟩,
        fun failed => ⟨s.misprogrammed read, ?_, rfl, ?_⟩⟩
      · rw [State.programDone_verified staging verified, State.recordDurable_tests w.pagesWf]
      · have page := State.recorded_page w.pagesWf read
        have here : (s.recorded read).page s.journal.write.page = _ := (page _).trans (if_pos rfl)
        rw [here]
        exact ⟨(slots _).trans (if_pos rfl), rfl, rfl, fun n other => (slots n).trans (if_neg other),
          fun q other => (page q).trans (if_neg other)⟩
      · rw [State.programDone_failed staging failed]
      · have page := State.misprogrammed_page w.pagesWf read
        have here : (s.misprogrammed read).page s.journal.write.page = _ := (page _).trans (if_pos rfl)
        rw [here]
        exact ⟨(slots _).trans (if_pos rfl), rfl, rfl, fun n other => (slots n).trans (if_neg other),
          fun q other => (page q).trans (if_neg other)⟩
  · dsimp only
    rw [State.retirePage_eq, ← Page.within_iff]
    exact ⟨fun nothing => if_pos nothing, fun holds => if_neg holds⟩

/-! #### The bytes of a record (R207) -/

theorem recordBody_eq (seq : Nat) (r : Rec) :
    ∃ tail : List Byte, recordBody seq r = bigEndian 4 seq ++ (bigEndian 1 (recordKind r.body) ++ tail) :=
  ⟨_, by simp only [recordBody, List.append_assoc]; rfl⟩

theorem recordBody_length {seq : Nat} {r : Rec} (fits : (fieldBytes (recordFields r.body)).length ≤ 19) :
    (recordBody seq r).length = 30 := by
  simp only [recordBody, List.length_append, bigEndian_length, fillFrom, List.length_map, List.length_range]
  omega

theorem recordKind_lt (b : RecBody) : recordKind b < 255 := by
  cases b <;> simp [recordKind]

/-- The kind byte of a record is never FFh, so no record reads erased. -/
theorem recordImage_not_erased (seq : Nat) (r : Rec) : slotErased (recordImage seq r) = false := by
  obtain ⟨tail, body⟩ := recordBody_eq seq r
  have kind : ((recordImage seq r).drop 4).take 1 = bigEndian 1 (recordKind r.body) := by
    rw [recordImage, body, List.append_assoc, List.drop_left' (bigEndian_length 4 seq), List.append_assoc,
      List.take_left' (bigEndian_length 1 _)]
  rw [slotErased, beq_eq_false_iff_ne]
  intro erased
  rw [erased] at kind
  have number := congrArg numberOf kind
  rw [numberOf_bigEndian, Nat.mod_eq_of_lt (Nat.lt_trans (recordKind_lt _) (by decide))] at number
  exact absurd number.symm (Nat.ne_of_lt (recordKind_lt r.body))

theorem slotSequence_recordImage {seq : Nat} (r : Rec) (lawful : seq < 4294967296) : slotSequence (recordImage seq r) = seq := by
  obtain ⟨tail, body⟩ := recordBody_eq seq r
  rw [slotSequence, recordImage, body, List.append_assoc, List.take_left' (bigEndian_length 4 seq), numberOf_bigEndian]
  exact Nat.mod_eq_of_lt lawful

/-- Settles O49. -/
theorem programmedRecordReadsBackAsARecord : Obligations.ProgrammedRecordReadsBackAsARecord := by
  intro seq r lawful fits
  have body := recordBody_length (seq := seq) fits
  have length : (recordImage seq r).length = 32 := by rw [recordImage, List.length_append, body, bigEndian_length]
  have check : (recordImage seq r).drop 30 = bigEndian 2 (checkValue ((recordImage seq r).take 30)).toNat := by
    rw [recordImage, List.drop_left' body, List.take_left' body]
  exact ⟨length, by simp [slotIsRecord, length, recordImage_not_erased, check], slotSequence_recordImage r lawful⟩

end Sys2Proof.Machine
end

section
/-! PROOFS. The Journal Unit: turns, erases, the pages that go OUT, the two tests (O50). -/

namespace Sys2Proof.Machine

/-! #### Tables in canonical form -/

theorem table_ext {α : Type} [DecidableEq α] {d : α} {t u : Table α} {low : Nat} (wt : tableWfFrom d low t = true)
    (wu : tableWfFrom d low u = true) (same : ∀ n, tableLook d t n = tableLook d u n) : t = u := by
  induction t generalizing low u with
  | nil =>
    cases u with
    | nil => rfl
    | cons q u =>
      obtain ⟨j, b⟩ := q
      simp only [tableWfFrom, Bool.and_eq_true, decide_eq_true_eq] at wu
      exact absurd ((same j).trans (if_pos rfl)).symm wu.1.2
  | cons p t ih =>
    obtain ⟨i, a⟩ := p
    simp only [tableWfFrom, Bool.and_eq_true, decide_eq_true_eq] at wt
    obtain ⟨⟨_, held⟩, restT⟩ := wt
    cases u with
    | nil => exact absurd ((if_pos rfl).symm.trans (same i)) held
    | cons q u =>
      obtain ⟨j, b⟩ := q
      simp only [tableWfFrom, Bool.and_eq_true, decide_eq_true_eq] at wu
      obtain ⟨⟨_, held'⟩, restU⟩ := wu
      have here : a = tableLook d ((j, b) :: u) i := (if_pos rfl).symm.trans (same i)
      have there : tableLook d ((i, a) :: t) j = b := (same j).trans (if_pos rfl)
      rcases Nat.lt_trichotomy i j with before | equal | after
      · rw [tableLook, if_neg (Nat.ne_of_gt before), tableLook_below d u (j + 1) i restU (by omega)] at here
        exact absurd here held
      · subst equal
        rw [tableLook, if_pos rfl] at here
        rw [here, ih restT restU fun n => ?_]
        by_cases at_ : i = n
        · rw [← at_, tableLook_below d t (i + 1) i restT (by omega), tableLook_below d u (i + 1) i restU (by omega)]
        · exact (if_neg at_).symm.trans ((same n).trans (if_neg at_))
      · rw [tableLook, if_neg (Nat.ne_of_gt after), tableLook_below d t (i + 1) j restT (by omega)] at there
        exact absurd there.symm held'

theorem tablePut_tablePut {α : Type} [DecidableEq α] {d : α} {t : Table α} (w : tableWf d t = true) (k : Nat) (a b : α) :
    tablePut d (tablePut d t k a) k b = tablePut d t k b := by
  have inner := tablePut_wf d t k a w
  refine table_ext (tablePut_wf d _ k b inner) (tablePut_wf d t k b w) fun n => ?_
  rw [tableLook_put inner, tableLook_put w, tableLook_put w]
  split <;> rfl

/-! #### Rearrangements: pages, ring, state, writer and mark change, and notices are raised -/

theorem maskHas_or (m x : Mask16) (i : Nat) : maskHas (m ||| x) i = (maskHas m i || maskHas x i) := BitVec.getLsbD_or

/-- What going OUT, retiring, an erase and the tests change, at most. -/
structure Rearranged (s t : State) : Prop where
  frame : t = { s with
    journal := { s.journal with
      pages := t.journal.pages, map := t.journal.map, state := t.journal.state, writer := t.journal.writer
      high := t.journal.high, eraseAhead := t.journal.eraseAhead }
    audit := { s.audit with notices := t.audit.notices } }
  notices : ∀ i, maskHas s.audit.notices i = true → maskHas t.audit.notices i = true

theorem Rearranged.refl (s : State) : Rearranged s s := ⟨rfl, fun _ => id⟩

theorem Rearranged.trans {s t u : State} (h : Rearranged s t) (g : Rearranged t u) : Rearranged s u := by
  refine ⟨?_, fun i => g.notices i ∘ h.notices i⟩
  have second := g.frame
  rw [h.frame] at second
  exact second

theorem Rearranged.journalOnly {s t : State} (h : Rearranged s t) :
    t = { s with journal := t.journal, audit := { s.audit with notices := t.audit.notices } } := by
  rw [h.frame]

theorem Rearranged.newest {s t : State} (h : Rearranged s t) : t.journal.newest = s.journal.newest := by rw [h.frame]

theorem Rearranged.released {s t : State} (h : Rearranged s t) : t.journal.released = s.journal.released := by rw [h.frame]

theorem Rearranged.discarded {s t : State} (h : Rearranged s t) : t.journal.discarded = s.journal.discarded := by rw [h.frame]

theorem Rearranged.staging {s t : State} (h : Rearranged s t) : t.journal.staging = s.journal.staging := by rw [h.frame]

theorem Rearranged.offers {s t : State} (h : Rearranged s t) : t.journal.offers = s.journal.offers := by rw [h.frame]

theorem Rearranged.write {s t : State} (h : Rearranged s t) : t.journal.write = s.journal.write := by rw [h.frame]

theorem Rearranged.setPage (s : State) (p : Nat) (x : Page) : Rearranged s (s.setPage p x) := ⟨rfl, fun _ => id⟩

theorem Rearranged.setRing (s : State) (m : PageMap) (w : Writer) :
    Rearranged s (s.setJournal { s.journal with map := m, writer := w }) := ⟨rfl, fun _ => id⟩

theorem Rearranged.setHigh (s : State) (b : Bool) : Rearranged s (s.setJournal { s.journal with high := b }) := ⟨rfl, fun _ => id⟩

theorem Rearranged.setState (s : State) (x : JournalState) : Rearranged s (s.setJournal { s.journal with state := x }) :=
  ⟨rfl, fun _ => id⟩

theorem Rearranged.setWriter (s : State) (w : Writer) : Rearranged s (s.setJournal { s.journal with writer := w }) :=
  ⟨rfl, fun _ => id⟩

theorem Rearranged.setEraseAhead (s : State) (p : Option Nat) : Rearranged s (s.setJournal { s.journal with eraseAhead := p }) :=
  ⟨rfl, fun _ => id⟩

theorem Rearranged.noticing (s : State) (n : Nat) : Rearranged s (s.noticing .audit n) :=
  ⟨rfl, fun i has => (maskHas_or s.audit.notices _ i).trans (by rw [has]; rfl)⟩

theorem Rearranged.highTest (s : State) : Rearranged s s.highTest := by
  unfold State.highTest
  split
  · split
    · exact .refl s
    · exact (Rearranged.setHigh s true).trans (.noticing _ 10)
  · exact .setHigh s false

theorem Rearranged.failJournal (s : State) (c : FailCause) : Rearranged s (s.failJournal c) := by
  unfold State.failJournal
  split
  · exact .refl s
  · exact (Rearranged.setState s (.failed c)).trans (.noticing _ 11)

theorem Rearranged.eraseAheadTest (s : State) : Rearranged s s.eraseAheadTest := by
  unfold State.eraseAheadTest
  split
  · exact .refl s
  · dsimp only
    split
    · exact .setEraseAhead s _
    · exact .refl s

theorem Rearranged.beginErase (s : State) (p : Nat) (forTurn : Bool) : Rearranged s (s.beginErase p forTurn) :=
  (Rearranged.setPage s p _).trans (.setWriter _ _)

theorem Rearranged.pageOut (s : State) (p : Nat) : Rearranged s (s.pageOut p) := by
  unfold State.pageOut
  split
  · exact .refl s
  · dsimp only
    split
    · have swapped := fun x y m w => (Rearranged.setPage s p x).trans ((Rearranged.setPage _ y Page.blank).trans (.setRing _ m w))
      split
      · exact (swapped _ _ _ _).trans (.noticing _ 9)
      · exact swapped _ _ _ _
    · have removed := fun x m w => ((Rearranged.setPage s p x).trans (.setRing _ m w)).trans (.highTest _)
      split
      · exact (removed _ _ _).trans (.failJournal _ _)
      · exact removed _ _ _

theorem Rearranged.pagesOut (s : State) (ps : List Nat) : Rearranged s (s.pagesOut ps) := by
  unfold State.pagesOut
  induction ps generalizing s with
  | nil => exact .refl s
  | cons p ps ih => exact (Rearranged.pageOut s p).trans (ih _)

theorem Rearranged.retirePage (s : State) (p held : Nat) : Rearranged s (s.retirePage p held) := by
  rw [State.retirePage_eq]
  have marked := fun m => (Rearranged.setRing s m s.journal.writer).trans (.noticing _ 8)
  dsimp only
  split
  · exact (marked _).trans (.pageOut _ p)
  · exact marked _

/-- A notice that has been raised is held. -/
theorem State.noticing_has (s : State) {n : Nat} (small : n < 16) : maskHas (s.noticing .audit n).audit.notices n = true := by
  refine (maskHas_or s.audit.notices _ n).trans ?_
  have bit : maskHas (BitVec.ofNat 16 (2 ^ n)) n = true := by
    rw [maskHas, BitVec.getLsbD_ofNat, Nat.testBit_two_pow_self]
    simp [small]
  rw [bit, Bool.or_true]

theorem State.retirePage_notice (s : State) (p held : Nat) : maskHas (s.retirePage p held).audit.notices 8 = true := by
  rw [State.retirePage_eq]
  dsimp only
  have raised := fun u : State => u.noticing_has (n := 8) (by decide)
  split
  · exact (Rearranged.pageOut _ p).notices 8 (raised _)
  · exact raised _

/-! #### The turn (R152, R153) -/

theorem exec_turn_due {s : State} (due : s.turnReady = true) : exec .turn s = .next s.turnPage :=
  congrArg Host.Outcome.next (if_pos due)

theorem State.turnPage_none {s : State} (none_ : s.turnTarget = none) :
    s.turnPage = { s with journal := { s.journal with writer := .waitingPage } } := by
  rw [State.turnPage, none_]
  rfl

theorem State.turnPage_erased {s : State} {e : RingPos} (target : s.turnTarget = some e) (erased : (s.page e.page).fill = .erased) :
    s.turnPage = s.takePage e := by
  rw [State.turnPage, target]
  dsimp only
  rw [erased]

theorem State.turnPage_used {s : State} {e : RingPos} (target : s.turnTarget = some e) (used : (s.page e.page).fill ≠ .erased) :
    s.turnPage =
      if (s.page e.page).within s.journal.released = true then s.beginErase e.page true
      else if (s.discardPage e.page).journal.state = .normal then (s.discardPage e.page).beginErase e.page true
      else s.discardPage e.page := by
  rw [State.turnPage, target]
  dsimp only
  cases fill : (s.page e.page).fill with
  | erased => exact absurd fill used
  | filling => rfl
  | full => rfl

/-- The state of a discard once the page's records are gone and the marks have moved (R153). -/
def State.discarding (s : State) (p : Nat) : State :=
  State.setPage
    { s with journal := { s.journal with
        discarded := (s.page p).sequences.foldl max 0, released := max s.journal.released ((s.page p).sequences.foldl max 0) } } p
    { s.page p with readable := [] }

theorem State.discardPage_eq (s : State) (p : Nat) :
    s.discardPage p =
      (((s.discarding p).pagesOut (s.discarding p).releasedHolders).noticing .audit 7).highTest := rfl

theorem State.discardPage_rearranged (s : State) (p : Nat) : Rearranged (s.discarding p) (s.discardPage p) :=
  ((Rearranged.pagesOut _ _).trans (.noticing _ 7)).trans (.highTest _)

theorem State.discardPage_notice (s : State) (p : Nat) : maskHas (s.discardPage p).audit.notices 7 = true := by
  rw [State.discardPage_eq]
  exact (Rearranged.highTest _).notices 7 (State.noticing_has _ (by decide))

/-- The discard, and the erase that follows in a journal still NORMAL (R153). -/
def State.discardTurn (s : State) (p : Nat) : State :=
  if (s.discardPage p).journal.state = .normal then (s.discardPage p).beginErase p true else s.discardPage p

theorem State.discardTurn_rearranged (s : State) (p : Nat) : Rearranged (s.discardPage p) (s.discardTurn p) := by
  unfold State.discardTurn
  split
  · exact .beginErase _ p true
  · exact .refl _

theorem State.discardTurn_erasing {s : State} {p : Nat} (normal : (s.discardTurn p).journal.state = .normal) :
    (s.discardTurn p).journal.writer = .erasing p true := by
  unfold State.discardTurn at normal ⊢
  split at normal
  · next still => rw [if_pos still]; rfl
  · next failed => exact absurd normal failed

/-! #### Erases (R154, R155) -/

theorem exec_eraseStart_due {s : State} {p : Nat} (on : s.powered = true) (ahead : s.journal.eraseAhead = some p)
    (normal : s.journal.state = .normal) (idle : s.journal.writer = .idle) :
    exec .eraseStart s = .next ((s.setJournal { s.journal with eraseAhead := none }).beginErase p false) := by
  change execEraseStart s = _
  rw [execEraseStart, ahead]
  exact congrArg Host.Outcome.next (if_pos (by simp [on, normal, idle]))

theorem exec_eraseComplete_due {s : State} {p : Nat} {forTurn : Bool} (on : s.powered = true)
    (erasing : s.journal.writer = .erasing p forTurn) (reads : List (Nat × List Byte)) :
    exec (.eraseComplete reads) s = .next (s.eraseDone p forTurn (slotsOf reads)) := by
  change execEraseComplete reads s = _
  rw [execEraseComplete, erasing]
  exact congrArg Host.Outcome.next (if_pos on)

theorem pageReading_slot {reads : List (Nat × List Byte)} {low : Nat} (lawful : pageReading low reads = true) :
    ∀ x ∈ reads, x.1 < 64 ∧ x.2.length = 32 ∧ x.2 ≠ erasedSlot := by
  induction reads generalizing low with
  | nil => exact fun _ hx => absurd hx List.not_mem_nil
  | cons y reads ih =>
    obtain ⟨n, bs⟩ := y
    simp only [pageReading, Bool.and_eq_true, decide_eq_true_eq, slotBytes, beq_iff_eq, Bool.not_eq_true', slotErased,
      beq_eq_false_iff_ne] at lawful
    obtain ⟨⟨⟨⟨_, slot⟩, length⟩, written⟩, rest⟩ := lawful
    exact List.forall_mem_cons.mpr ⟨⟨slot, length, written⟩, ih rest⟩

theorem tablePut_ne_nil {α : Type} [DecidableEq α] {d : α} (t : Table α) (k : Nat) {a : α} (held : a ≠ d) : tablePut d t k a ≠ [] :=
  fun nil => held (by simpa [nil, tableLook] using (tableLook_put_ne d t k a held).symm)

/-- A page with a slot that does not read erased is not blank. -/
theorem slotsOf_ne_nil {reads : List (Nat × List Byte)} (some_ : reads ≠ []) (lawful : pageReading 0 reads = true) :
    slotsOf reads ≠ [] := by
  have slots := pageReading_slot lawful
  have all : (reads.filter fun r => decide (r.1 < Config.slotsPerPage)) = reads :=
    List.filter_eq_self.mpr fun x hx => decide_eq_true (slots x hx).1
  obtain ⟨front, last, split⟩ := (List.eq_nil_or_concat' reads).resolve_left some_
  obtain ⟨_, length, written⟩ := slots last (by simp [split])
  rw [slotsOf, all, split, List.foldl_append]
  exact tablePut_ne_nil _ _ (by rw [asSlot_of_length length]; exact written)

theorem State.takePage_eq (s : State) (e : RingPos) :
    s.takePage e = { s with journal := { s.journal with
      pages := tablePut Page.blank s.journal.pages e.page { s.page e.page with fill := .filling, readable := [] }
      write := { pos := e.pos, page := e.page, slot := 0 } } } := rfl

theorem State.eraseDone_blank {s : State} (w : s.tablesWf) {p : Nat} {e : RingPos} (pos : s.journal.map.posOf p = some e)
    (forTurn : Bool) :
    s.eraseDone p forTurn [] =
      if forTurn = true then
        State.setPage { s with journal := { s.journal with writer := .idle, write := { pos := e.pos, page := p, slot := 0 } } } p
          { slots := [], fill := .filling, readable := [] }
      else
        State.setPage { s with journal := { s.journal with writer := .idle } } p { slots := [], fill := .erased, readable := [] } := by
  have here : e.page = p := beq_iff_eq.mp (List.find?_some (p := fun x : RingPos => x.page == p) pos)
  unfold State.eraseDone
  dsimp only
  rw [pos]
  dsimp only
  cases forTurn with
  | false => rfl
  | true =>
    have page := (State.page_setPage w.pagesWf p { slots := [], fill := .erased, readable := [] } p).trans (if_pos rfl)
    have twice := tablePut_tablePut w.pages p { slots := [], fill := .erased, readable := [] }
      ({ slots := [], fill := .filling, readable := [] } : Page)
    rw [if_pos rfl, if_pos rfl, State.takePage_eq, here]
    exact congrArg (fun pages : Table Page => ({ s with journal := { s.journal with
      pages := pages, writer := .idle, write := { pos := e.pos, page := p, slot := 0 } } } : State))
      ((congrArg (fun x : Page => tablePut Page.blank (tablePut Page.blank s.journal.pages p { slots := [], fill := .erased, readable := [] })
        p { x with fill := .filling, readable := [] }) page).trans twice)

theorem State.eraseDone_written (s : State) (p : Nat) (forTurn : Bool) {slots : Table (List Byte)} (written : slots ≠ []) :
    s.eraseDone p forTurn slots =
      (State.setPage { s with journal := { s.journal with writer := .idle } } p
        { slots := slots, fill := .full, readable := [] }).retirePage p 0 := by
  unfold State.eraseDone
  cases slots with
  | nil => exact absurd rfl written
  | cons x slots => rfl

/-! #### The page a turn finds, and the erase-ahead test (R152, R154) -/

theorem find?_of_first {α : Type} {f : α → Bool} {front back : List α} {x : α} (passes : f x = true)
    (fails : ∀ y ∈ front, f y = false) : (front ++ x :: back).find? f = some x := by
  rw [List.find?_append, List.find?_eq_none.mpr fun y hy => by simp [fails y hy], Option.none_or, List.find?_cons_of_pos passes]

/-- A ring position a turn may take: not retired and not the write page (R152). -/
def Journal.takable (j : Journal) (e : RingPos) : Prop := e.held = none ∧ e.page ≠ j.write.page

theorem Journal.takable_iff (j : Journal) (e : RingPos) : (e.held.isNone && e.page != j.write.page) = true ↔ j.takable e := by
  simp [Journal.takable]

theorem State.turnTarget_ahead {s : State} {front back : List RingPos} {e : RingPos} (ring : s.journal.map.ring = front ++ e :: back)
    (free : s.journal.takable e) (ahead : s.journal.write.pos < e.pos)
    (before : ∀ x ∈ front, s.journal.takable x → x.pos ≤ s.journal.write.pos) : s.turnTarget = some e := by
  rw [State.turnTarget, ring]
  dsimp only
  rw [find?_of_first]
  · rw [(s.journal.takable_iff e).mpr free, Bool.and_true]
    exact decide_eq_true ahead
  · intro x listed
    rw [Bool.and_eq_false_iff, decide_eq_false_iff_not, Nat.not_lt]
    by_cases may : s.journal.takable x
    · exact .inl (before x listed may)
    · exact .inr (Bool.eq_false_of_not_eq_true (mt (s.journal.takable_iff x).mp may))

theorem State.turnTarget_wraps {s : State} (none_ : ∀ x ∈ s.journal.map.ring, s.journal.takable x → x.pos ≤ s.journal.write.pos) :
    s.turnTarget =
      s.journal.map.ring.find? fun e => decide (e.pos ≤ s.journal.write.pos) && (e.held.isNone && e.page != s.journal.write.page) := by
  have ahead : s.journal.map.ring.find? (fun e => decide (s.journal.write.pos < e.pos) &&
      (e.held.isNone && e.page != s.journal.write.page)) = none := List.find?_eq_none.mpr fun x listed both => by
    rw [Bool.and_eq_true, decide_eq_true_eq, s.journal.takable_iff] at both
    exact absurd (none_ x listed both.2) (Nat.not_le.mpr both.1)
  rw [State.turnTarget]
  dsimp only
  rw [ahead]

theorem State.turnTarget_behind {s : State} (none_ : ∀ x ∈ s.journal.map.ring, s.journal.takable x → x.pos ≤ s.journal.write.pos)
    {front back : List RingPos} {e : RingPos} (ring : s.journal.map.ring = front ++ e :: back) (free : s.journal.takable e)
    (before : ∀ x ∈ front, ¬ s.journal.takable x) : s.turnTarget = some e := by
  have behind := none_ e (by simp [ring]) free
  rw [State.turnTarget_wraps none_, ring, find?_of_first]
  · rw [(s.journal.takable_iff e).mpr free, Bool.and_true]
    exact decide_eq_true behind
  · intro x listed
    rw [Bool.and_eq_false_iff]
    exact .inr (Bool.eq_false_of_not_eq_true (mt (s.journal.takable_iff x).mp (before x listed)))

theorem State.turnTarget_nowhere {s : State} (none_ : ∀ x ∈ s.journal.map.ring, ¬ s.journal.takable x) : s.turnTarget = none := by
  rw [State.turnTarget_wraps fun x listed may => absurd may (none_ x listed)]
  refine List.find?_eq_none.mpr fun x listed both => none_ x listed ?_
  rw [Bool.and_eq_true, s.journal.takable_iff] at both
  exact both.2

theorem State.eraseAheadTest_none {s : State} (none_ : s.turnTarget = none) : s.eraseAheadTest = s := by
  rw [State.eraseAheadTest, none_]

theorem Writer.erasingPage_iff (w : Writer) (p : Nat) : w.erasingPage = some p ↔ ∃ forTurn, w = .erasing p forTurn := by
  cases w <;> simp [Writer.erasingPage]

theorem State.eraseAheadTest_some {s : State} {e : RingPos} (target : s.turnTarget = some e) :
    s.eraseAheadTest =
      if (s.page e.page).fill = .full ∧ (s.page e.page).within s.journal.released = true ∧
          s.journal.writer.erasingPage ≠ some e.page then
        { s with journal := { s.journal with eraseAhead := some e.page } }
      else s := by
  rw [State.eraseAheadTest, target]
  rfl

/-! #### A page goes OUT (R157) -/

theorem Writer.wake_eq (w : Writer) : w.wake = if w = .waitingPage then .idle else w := by
  cases w <;> rfl

theorem State.pageOut_spare {s : State} {p spare : Nat} {rest : List Nat} {e : RingPos} (pos : s.journal.map.posOf p = some e)
    (spares : s.journal.map.spares = spare :: rest) :
    s.pageOut p =
      let u := (s.setPage p { s.page p with readable := [] }).setPage spare Page.blank
      let v : State := { u with journal := { u.journal with
        map :=
          { ring := s.journal.map.ring.map fun x => if x.page = p then { pos := e.pos, page := spare, held := none } else x
            spares := rest, out := s.journal.map.out ++ [p] }
        writer := if s.journal.writer = .waitingPage then .idle else s.journal.writer } }
      if rest = [] then v.noticing .audit 9 else v := by
  rw [State.pageOut, pos]
  dsimp only
  rw [spares]
  simp only [List.isEmpty_iff, ← Writer.wake_eq]
  rfl

theorem State.pageOut_noSpare {s : State} {p : Nat} {e : RingPos} (pos : s.journal.map.posOf p = some e)
    (spares : s.journal.map.spares = []) :
    s.pageOut p =
      let u := s.setPage p { s.page p with readable := [] }
      let ring := s.journal.map.ring.filter fun x => x.page != p
      let v : State := { u with journal := { u.journal with
        map := { ring := ring, spares := [], out := s.journal.map.out ++ [p] }
        writer := if s.journal.writer = .waitingPage then .idle else s.journal.writer } }
      if ring.length < 8 then v.highTest.failJournal .ringShort else v.highTest := by
  rw [State.pageOut, pos]
  dsimp only
  rw [spares]
  simp only [← Writer.wake_eq]
  rfl

/-! #### The high test and a failure (R158, R160) -/

theorem State.highTest_eq (s : State) :
    s.highTest =
      if s.journal.map.ring.length * 48 ≤ s.journal.newest - s.journal.released then
        if s.journal.high = true then s
        else ({ s with journal := { s.journal with high := true } } : State).noticing .audit 10
      else { s with journal := { s.journal with high := false } } := rfl

/-- Settles O50. -/
theorem turnAndErasesTakeTheNextPage : Obligations.TurnAndErasesTakeTheNextPage := by
  refine ⟨fun s w on => ?_, fun s => ?_, fun s p e pos => ?_, fun s => ?_⟩
  · dsimp only
    refine ⟨fun ⟨normal, idle, staging, filling, ahead⟩ => ?_, fun p ahead normal idle => exec_eraseStart_due on ahead normal idle,
      fun p forTurn erasing => ?_⟩
    · rw [exec_turn_due (s.turnReady_iff.mpr ⟨on, normal, idle, staging, filling, ahead⟩)]
      refine ⟨fun none => by rw [State.turnPage_none none], fun e target => ⟨fun erased => ?_, fun used released => ?_,
        fun used holds => ?_⟩⟩
      · rw [State.turnPage_erased target erased]
        rfl
      · rw [State.turnPage_used target used, if_pos released]
        rfl
      · rw [State.turnPage_used target used, if_neg (by simp [holds])]
        have moved := (s.discardPage_rearranged e.page).trans (s.discardTurn_rearranged e.page)
        refine ⟨s.discardTurn e.page, rfl, moved.journalOnly, moved.discarded, moved.released, moved.newest, moved.staging,
          (s.discardTurn_rearranged e.page).notices 7 (s.discardPage_notice e.page), State.discardTurn_erasing, rfl⟩
    · refine ⟨fun e pos => ?_, fun reads some_ lawful => ?_⟩
      · rw [exec_eraseComplete_due on erasing]
        exact congrArg _ (State.eraseDone_blank w pos forTurn)
      · have done := s.eraseDone_written p forTurn (slotsOf_ne_nil some_ lawful)
        have moved := ((Rearranged.setWriter s .idle).trans (.setPage _ p { slots := slotsOf reads, fill := .full, readable := [] })).trans
          (.retirePage _ p 0)
        exact ⟨_, (exec_eraseComplete_due on erasing reads).trans (congrArg _ done), moved.journalOnly, moved.newest, moved.staging,
          State.retirePage_notice _ p 0, rfl⟩
  · dsimp only
    refine ⟨fun front e back ring free ahead before => State.turnTarget_ahead ring free ahead before,
      fun none => ⟨fun front e back ring free before => State.turnTarget_behind none ring free before, State.turnTarget_nowhere⟩,
      State.eraseAheadTest_none, fun e target => ?_⟩
    have due := and_congr (Iff.refl ((s.page e.page).fill = .full)) (and_congr ((s.page e.page).within_iff s.journal.released)
      ((not_congr (s.journal.writer.erasingPage_iff e.page)).trans not_exists))
    rw [State.eraseAheadTest_some target]
    exact ⟨fun is => if_pos (due.mpr is), fun not => if_neg (mt due.mp not)⟩
  · exact ⟨fun spare rest spares => State.pageOut_spare pos spares, State.pageOut_noSpare pos⟩
  · dsimp only
    rw [State.highTest_eq]
    refine ⟨fun full high => by rw [if_pos full, if_pos high], fun full low => by rw [if_pos full, if_neg (by simp [low])],
      fun below => if_neg below, fun d failed => if_pos failed, fun d notShort other => if_neg (not_or.mpr ⟨notShort, other⟩)⟩

end Sys2Proof.Machine
end

section
/-! PROOFS. The Journal Unit: reads, releases, health (O51). -/

namespace Sys2Proof.Machine

/-! #### Requests in progress -/

/-- The request of a state that asks is the one in progress, handed and not answered. -/
theorem State.asked.open_ {s : State} {l : LinkId} {k : ReqKind} {fs : List Byte} (h : s.asked l k fs) {q : Request}
    (is : (s.link l).inProgress = some q) : q.answered = false ∧ q.kind = k := by
  obtain ⟨r, found, phase, kind, _⟩ := State.serving_some h.1
  obtain rfl := Option.some.inj (is.symm.trans found)
  exact ⟨by simp [Request.answered, phase], kind⟩

/-! #### The records a read chooses (R161) -/

theorem readRecord_mem {rs : List (Nat × List Byte)} {n : Nat} {bs : List Byte} (found : readRecord rs n = some bs) : (n, bs) ∈ rs := by
  obtain ⟨⟨m, x⟩, is, rfl⟩ := Option.map_eq_some_iff.mp found
  have number : m = n := by simpa using List.find?_some is
  exact number ▸ List.mem_of_find?_eq_some is

theorem readRecord_eq_none {rs : List (Nat × List Byte)} {n : Nat} (none_ : readRecord rs n = none) : n ∉ rs.map Prod.fst := by
  intro listed
  obtain ⟨r, is, rfl⟩ := List.mem_map.mp listed
  have absent := List.find?_eq_none.mp (Option.map_eq_none_iff.mp none_) r is
  simp at absent

theorem chooseFrom_length_le (rs : List (Nat × List Byte)) (count n : Nat) : (chooseFrom rs count n).length ≤ count := by
  induction count generalizing n with
  | zero => exact le_rfl
  | succ count ih =>
    rw [chooseFrom]
    split
    · exact Nat.succ_le_succ (ih (n + 1))
    · exact Nat.zero_le _

/-- The records chosen carry the numbers from the first on. -/
theorem chooseFrom_mem {rs : List (Nat × List Byte)} {count n i : Nat} {bs : List Byte}
    (chosen : (chooseFrom rs count n)[i]? = some bs) : (n + i, bs) ∈ rs := by
  induction count generalizing n i with
  | zero => simp [chooseFrom] at chosen
  | succ count ih =>
    rw [chooseFrom] at chosen
    split at chosen
    · next found =>
      cases i with
      | zero => exact readRecord_mem (Option.some.inj chosen ▸ found)
      | succ i =>
        have later := ih chosen
        rwa [Nat.add_assoc, Nat.add_comm 1] at later
    · simp at chosen

/-- The choice ends at the count, or before a number that is not readable (log entry 40). -/
theorem chooseFrom_ends (rs : List (Nat × List Byte)) (count n : Nat) :
    (chooseFrom rs count n).length = count ∨ n + (chooseFrom rs count n).length ∉ rs.map Prod.fst := by
  induction count generalizing n with
  | zero => exact .inl rfl
  | succ count ih =>
    rw [chooseFrom]
    split
    · refine (ih (n + 1)).imp (congrArg Nat.succ) fun hole => ?_
      rwa [List.length_cons, ← Nat.add_assoc, Nat.add_right_comm]
    · next none_ => exact .inr (readRecord_eq_none none_)

theorem chooseFrom_pos {rs : List (Nat × List Byte)} {count n : Nat} (some_ : 1 ≤ count) (readable : n ∈ rs.map Prod.fst) :
    1 ≤ (chooseFrom rs count n).length := by
  obtain full | hole := chooseFrom_ends rs count n
  · rwa [full]
  · by_contra none_
    rw [Nat.lt_one_iff.mp (Nat.not_le.mp none_)] at hole
    exact hole readable

theorem leastAbove_eq_none {rs : List (Nat × List Byte)} {n : Nat} (none_ : ∀ k ∈ rs.map Prod.fst, k < n + 1) :
    leastAbove rs n = none := by
  rw [leastAbove, List.filter_eq_nil_iff.mpr fun k listed => by simpa using Nat.le_of_lt_succ (none_ k listed)]
  rfl

theorem leastAbove_eq_some {rs : List (Nat × List Byte)} {n first : Nat} (listed : first ∈ rs.map Prod.fst) (above : n + 1 ≤ first)
    (least : ∀ k ∈ rs.map Prod.fst, n + 1 ≤ k → first ≤ k) : leastAbove rs n = some first := by
  rw [leastAbove, List.min?_eq_some_iff]
  refine ⟨List.mem_filter.mpr ⟨listed, decide_eq_true above⟩, fun k hk => ?_⟩
  obtain ⟨is, higher⟩ := List.mem_filter.mp hk
  exact least k is (of_decide_eq_true higher)

/-- The number above which a read begins: none for a start that has been discarded (R161). -/
theorem State.chooseRecords_eq (s : State) (start count : Nat) :
    s.chooseRecords start count =
      if s.journal.newest < start then ([], false)
      else (leastAbove s.readableRecords ((if start ≤ s.journal.discarded then 1 else start) - 1)).elim ([], false)
        fun n => (chooseFrom s.readableRecords count n, decide (start ≤ s.journal.discarded)) := by
  rw [State.chooseRecords]
  split
  · rfl
  · split
    · next gone =>
      rw [Nat.sub_self, decide_eq_true gone]
      cases leastAbove s.readableRecords 0 <;> rfl
    · next kept =>
      rw [decide_eq_false kept]
      cases leastAbove s.readableRecords (start - 1) <;> rfl

theorem State.chooseRecords_length (s : State) (start count : Nat) : (s.chooseRecords start count).1.length ≤ count := by
  rw [State.chooseRecords]
  split
  · exact Nat.zero_le _
  · split
    · split
      · exact Nat.zero_le _
      · exact chooseFrom_length_le ..
    · split
      · exact Nat.zero_le _
      · exact chooseFrom_length_le ..

/-! #### The parts of an answer (R162) -/

theorem recordParts_eq (tag : Byte) {bs : List Byte} (length : bs.length = 32) (last : Bool) :
    recordParts tag bs last =
      [[tag, 0#8, 0x50#8, 1#8] ++ bs.take 12, [tag, 0#8, 0x50#8, 2#8] ++ (bs.drop 12).take 12,
       [tag, 0#8, 0x50#8, if last = true then 0x83#8 else 3#8] ++ bs.drop 24 ++ List.replicate 4 0#8] := by
  have part : ∀ (flags : Nat) (b : List Byte), b.length ≤ 12 → replyRecord tag .ok (kindCode .journalRead) (BitVec.ofNat 8 flags :: b) =
      [tag, 0#8, 0x50#8, BitVec.ofNat 8 flags] ++ b ++ List.replicate (12 - b.length) 0#8 := fun flags b short => by
    rw [replyRecord_eq _ _ _ (content := BitVec.ofNat 8 flags :: b) (Nat.succ_le_succ short)]
    simp [statusCode, kindCode]
  have first : (bs.take 12).length = 12 := by simp [length]
  have second : ((bs.drop 12).take 12).length = 12 := by simp [length]
  have third : (bs.drop 24).length = 8 := by simp [length]
  rw [recordParts]
  dsimp only
  rw [part _ _ (by omega), part _ _ (by omega), part _ _ (by omega), first, second, third]
  cases last <;> simp

theorem allParts_eq_nil_iff (tag : Byte) (records : List (List Byte)) : allParts tag records = [] ↔ records = [] := by
  cases records <;> simp [allParts, recordParts]

/-! #### A read (R159, R162) -/

theorem exec_journalRead_asked {s : State} {fs : List Byte} {q : Request} (h : s.asked .audit .journalRead fs)
    (idle : s.journal.writer.busy = false) (asks : s.audit.inProgress = some q) :
    exec .journalRead s = .next
      (if s.journal.state = .recovering then s.answer .audit .journalRecovering []
      else if fieldAt fs 0 4 = 0 ∨ fieldAt fs 4 1 = 0 ∨ 8 < fieldAt fs 4 1 then s.answer .audit .badField []
      else
        let chosen := s.chooseRecords (fieldAt fs 0 4) (fieldAt fs 4 1)
        s.answerRead (journalAnswer q.tag chosen.1 chosen.2 s.journal.discarded s.journal.newest)) := by
  change execJournalRead s = _
  simp only [execJournalRead, State.serveJournal_asked h idle, asks]
  rfl

/-- The head of the answer takes the held place, the parts wait (R162). -/
theorem State.answerRead_placed {s : State} {q : Request} (asks : s.audit.inProgress = some q) (open_ : q.answered = false)
    (kept : q.discard = false) (records : List (List Byte)) (gap : Bool) (discarded newest : Nat) :
    s.answerRead (journalAnswer q.tag records gap discarded newest) =
      { s with
        audit :=
          { s.audit with
            replies := s.audit.replies ++
              [replyRecord q.tag .ok 0x50
                (BitVec.ofNat 8 ((if gap = true then 0x40 else 0) + (if records = [] then 0x80 else 0)) ::
                  bigEndian 1 records.length ++ bigEndian 4 discarded ++ bigEndian 4 newest)]
            inProgress := if records = [] then none else some { q with phase := .placing (allParts q.tag records) } } } := by
  rw [State.answerRead, journalAnswer]
  by_cases none_ : records = []
  · rw [none_, if_pos rfl, if_pos rfl]
    rw [show allParts q.tag [] = [] from rfl, Link.answerWith_single _ q _ asks open_ kept]
    rfl
  · rw [if_neg none_, if_neg none_, Link.answerWith_several asks open_ kept _ (mt (allParts_eq_nil_iff q.tag records).mp none_)]
    simp only [List.isEmpty_iff, none_]
    rfl

/-- An answer to a request whose reply place a link reset has taken away only ends it (R200). -/
theorem State.answer_discarded {s : State} {q : Request} (asks : s.audit.inProgress = some q) (open_ : q.answered = false)
    (gone : q.discard = true) (st : Status) (fields : List Field) :
    s.answer .audit st fields = { s with audit := { s.audit with inProgress := none } } := by
  rw [State.answer_some s .audit st fields q asks, Link.answerWith_discarded (k := s.link .audit) asks open_ gone]
  rfl

theorem exec_journalRead_discarded {s : State} {fs : List Byte} {q : Request} (h : s.asked .audit .journalRead fs)
    (idle : s.journal.writer.busy = false) (asks : s.audit.inProgress = some q) (gone : q.discard = true) :
    exec .journalRead s = .next { s with audit := { s.audit with inProgress := none } } := by
  have open_ := (h.open_ asks).1
  rw [exec_journalRead_asked h idle asks, State.answer_discarded asks open_ gone, State.answer_discarded asks open_ gone,
    State.answerRead, Link.answerWith_discarded asks open_ gone]
  exact congrArg _ ((if_congr Iff.rfl rfl (ite_self _)).trans (ite_self _))

/-! #### A release (R163) -/

/-- A release, its mark moved and the pages it frees OUT (R163). -/
def State.releasing (s : State) (through : Nat) : State :=
  let v : State := { s with journal := { s.journal with released := through } }
  (v.pagesOut v.releasedHolders).highTest

theorem State.releasing_rearranged (s : State) (through : Nat) :
    Rearranged { s with journal := { s.journal with released := through } } (s.releasing through) :=
  (Rearranged.pagesOut _ _).trans (.highTest _)

theorem State.releaseTo_eq (s : State) (through : Nat) :
    s.releaseTo through =
      if 32 ≤ s.journal.write.slot then (s.releasing through).eraseAheadTest else s.releasing through := by
  have slot : (s.releasing through).journal.write = s.journal.write := (s.releasing_rearranged through).write
  rw [← slot]
  rfl

theorem State.releaseTo_rearranged (s : State) (through : Nat) :
    Rearranged { s with journal := { s.journal with released := through } } (s.releaseTo through) := by
  rw [State.releaseTo_eq]
  split
  · exact (s.releasing_rearranged through).trans (.eraseAheadTest _)
  · exact s.releasing_rearranged through

theorem exec_journalRelease_asked {s : State} {fs : List Byte} (h : s.asked .audit .journalRelease fs)
    (idle : s.journal.writer.busy = false) :
    exec .journalRelease s = .next
      (if s.journal.state = .recovering then s.answer .audit .journalRecovering []
      else
        let through := min (fieldAt fs 0 4) s.journal.newest
        if s.journal.released < through then
          (s.releaseTo through).answer .audit .ok
            [.num 4 through, .num 4 (s.releaseTo through).journal.released,
             .num 2 ((s.releaseTo through).journal.newest - (s.releaseTo through).journal.released), .flag true]
        else
          s.answer .audit .ok
            [.num 4 through, .num 4 s.journal.released, .num 2 (s.journal.newest - s.journal.released), .flag false]) := by
  change execJournalRelease s = _
  simp only [execJournalRelease, State.serveJournal_asked h idle]
  by_cases moved : s.journal.released < min (fieldAt fs 0 4) s.journal.newest
  · simp only [moved, decide_true, if_true]
    rfl
  · simp only [moved, decide_false, if_false, Bool.false_eq_true]
    rfl

/-! #### Health (R164) -/

theorem exec_journalHealth_asked {s : State} {l : LinkId} {fs : List Byte} (h : s.asked l .journalHealth fs)
    (idle : s.journal.writer.busy = false) :
    exec (.journalHealth l) s = .next
      (if s.journal.state = .recovering then
        State.answer { s with fresh := s.fresh + 1 } l .ok
          (s.journal.scanFields (min (Config.scanProgress s.fresh) s.journal.usable))
      else s.answer l .ok s.journal.healthFields) := by
  change execJournalHealth l s = _
  simp only [execJournalHealth, State.serveJournal_asked h idle]

theorem journalStateCode_eq {x : JournalState} (going : x ≠ .recovering) : journalStateCode x = if x = .normal then 0 else 2 := by
  cases x with
  | recovering => exact absurd rfl going
  | _ => rfl

theorem failCauseCode_eq (x : JournalState) :
    (failCauseOf x).map failCauseCode =
      if x = .failed .ringShort then some 0 else if x = .failed .sequenceEnd then some 1 else none := by
  cases x with
  | failed c => cases c <;> rfl
  | _ => rfl

theorem writerCode_eq {w : Writer} (idle : w.busy = false) : writerCode w = if w = .waitingPage then 3 else 0 := by
  cases w with
  | programming => cases idle
  | erasing => cases idle
  | _ => rfl

/-- Settles O51. -/
theorem journalIsReadAndReleased : Obligations.JournalIsReadAndReleased := by
  refine ⟨fun s fs => ?_, fun s start count lawful some_ => ?_, fun tag bs rest length => ⟨rfl, ?_⟩⟩
  · dsimp only
    rw [← Writer.busy_iff, Bool.not_eq_true]
    refine ⟨fun busy => ⟨fun _ => ?_, fun _ => ?_, fun l _ => ?_⟩, fun idle q asks kept h => ⟨fun recovering => ?_,
      fun going bad => ?_, fun records gap going fine chosen => ?_⟩,
      fun idle q asks gone h => exec_journalRead_discarded h idle asks gone,
      fun idle h => ⟨fun recovering => ?_, fun going still => ?_, fun going moved => ?_⟩,
      fun l idle h => ⟨fun going => ?_, fun recovering => ?_⟩⟩
    · exact congrArg _ (State.serveJournal_busy busy _ _ _)
    · exact congrArg _ (State.serveJournal_busy busy _ _ _)
    · exact congrArg _ (State.serveJournal_busy busy _ _ _)
    · rw [exec_journalRead_asked h idle asks, if_pos recovering]
    · rw [exec_journalRead_asked h idle asks, if_neg going, if_pos bad]
    · refine ⟨by simpa [chosen] using s.chooseRecords_length (fieldAt fs 0 4) (fieldAt fs 4 1), ?_⟩
      rw [exec_journalRead_asked h idle asks, if_neg going, if_neg fine, chosen]
      exact congrArg _ (State.answerRead_placed asks (h.open_ asks).1 kept ..)
    · rw [exec_journalRelease_asked h idle, if_pos recovering]
    · rw [exec_journalRelease_asked h idle, if_neg going]
      exact congrArg _ (if_neg (Nat.not_lt.mpr still))
    · have changed := s.releaseTo_rearranged (min (fieldAt fs 0 4) s.journal.newest)
      refine ⟨_, ?_, changed.journalOnly, changed.released, changed.newest, changed.discarded, changed.staging, changed.offers,
        s.releaseTo_eq _⟩
      rw [exec_journalRelease_asked h idle, if_neg going]
      dsimp only
      rw [if_pos moved, changed.released, changed.newest]
    · rw [exec_journalHealth_asked h idle, if_neg going, Journal.healthFields, journalStateCode_eq going, failCauseCode_eq,
        writerCode_eq idle]
      rfl
    · refine ⟨min (Config.scanProgress s.fresh) s.journal.map.ring.length, min_le_right _ _, ?_⟩
      rw [exec_journalHealth_asked h idle, if_pos recovering, Journal.scanFields, recovering]
      rfl
  · dsimp only
    rw [State.chooseRecords_eq s start count]
    have least : ((if start ≤ s.journal.discarded then 1 else start) - 1) + 1 = if start ≤ s.journal.discarded then 1 else start := by
      split <;> omega
    refine ⟨fun beyond => if_pos beyond, fun within none_ => ?_, fun first listed within from_ lowest => ?_⟩
    · rw [if_neg (Nat.not_lt.mpr within), leastAbove_eq_none (rs := s.readableRecords) (least.symm ▸ none_)]
      rfl
    · rw [if_neg (Nat.not_lt.mpr within), leastAbove_eq_some (rs := s.readableRecords) listed (least.symm ▸ from_) (least.symm ▸ lowest)]
      exact ⟨rfl, chooseFrom_pos some_ listed, chooseFrom_length_le .., fun i bs => chooseFrom_mem, chooseFrom_ends ..⟩
  · rw [allParts, recordParts_eq tag length]
    simp only [List.isEmpty_iff]

end Sys2Proof.Machine
end

section
/-! PROOFS. Site Settings: the service state, the settings, the fence, identity (O52, O53). -/

namespace Sys2Proof.Machine

/-! #### The service state (R172 to R175) -/

theorem exec_siteWrite_asked {s : State} {fs : List Byte} (h : s.asked .desk .siteWrite fs) :
    let r : SiteRecord := { number := fieldAt fs 0 2, wing := fieldAt fs 2 1, epoch := fieldAt fs 3 1 }
    exec .siteWrite s = .next ((s.siteWriteRefusal r.number r.wing r.epoch).elim
      (State.moveService { s with settings := { s.settings with record := some r } } .desk .siteWrite .configuring (some r))
      fun st => s.answer .desk st []) := by
  dsimp only
  change execSiteWrite s = _
  simp only [execSiteWrite, State.serve_asked h]
  cases s.siteWriteRefusal (fieldAt fs 0 2) (fieldAt fs 2 1) (fieldAt fs 3 1) <;> rfl

theorem exec_commission_asked {s : State} {fs : List Byte} (h : s.asked .desk .commission fs) :
    exec .commission s = .next
      (if s.settings.service = .inService then s.answer .desk .ok []
      else if s.settings.service = .configuring ∧ s.clock.isSet = true then s.moveService .desk .commission .inService none
      else s.answer .desk .notReady [.num 1 (serviceCode s.settings.service), .flag s.clock.isSet]) := by
  change execCommission s = _
  simp only [execCommission, State.serve_asked h]
  cases service : s.settings.service with
  | unprovisioned => exact congrArg _ (congrArg (s.answer .desk .notReady) (by rw [← service]; rfl))
  | configuring =>
    by_cases set_ : s.clock.isSet = true
    · rw [if_pos set_]
      exact congrArg _ (if_pos ⟨rfl, set_⟩).symm
    · rw [if_neg set_, if_neg nofun, if_neg fun both : _ ∧ _ => set_ both.2]
      exact congrArg _ (congrArg (s.answer .desk .notReady) (by rw [← service]; rfl))
  | inService => rfl

theorem exec_decommission_asked {s : State} {fs : List Byte} (h : s.asked .audit .decommission fs) :
    exec .decommission s = .next
      (if s.settings.service = .unprovisioned then s.answer .audit .notReady []
      else if s.settings.service = .configuring then s.answer .audit .ok []
      else s.moveService .audit .decommission .configuring none) := by
  change execDecommission s = _
  simp only [execDecommission, State.serve_asked h]
  cases s.settings.service <;> rfl

/-- Settles O52. -/
theorem serviceStateMovesByItsThreeRequests : Obligations.ServiceStateMovesByItsThreeRequests := by
  intro s fs
  dsimp only
  refine ⟨fun h => ?_, fun h => (exec_commission_asked h).trans rfl, fun h => (exec_decommission_asked h).trans rfl⟩
  rw [exec_siteWrite_asked h]
  simp only [State.siteWriteRefusal, elim_refusal, Option.elim_none]
  rfl

/-! #### The settings (R177) -/

/-- A setting after a SETTINGS_SET: the value held to its range where its flag is 1 (R177). -/
theorem flagged_elim (p : Prop) [Decidable p] (now low high n : Nat) :
    (if p then some n else none).elim now (clampTo low high) = if p then max low (min n high) else now := by
  split <;> rfl

theorem flagged_acted (p : Prop) [Decidable p] (low high n : Nat) :
    clampActed low high (if p then some n else none) = (decide p && (max low (min n high) != n)) := by
  by_cases flagged : p
  · rw [if_pos flagged, decide_eq_true flagged]
    rfl
  · rw [if_neg flagged, decide_eq_false flagged]
    rfl

/-! #### The fence (R179, R181) -/

theorem exec_fenceDesk_waits {s : State} (taken : s.deskTaken = true) : exec .fenceDesk s = .next s := by
  change execFenceDesk s = _
  rw [execFenceDesk, taken]
  exact congrArg _ (State.serveFrom_notReady ..)

theorem exec_unfenceDesk_waits {s : State} (taken : s.deskTaken = true) : exec .unfenceDesk s = .next s := by
  change execUnfenceDesk s = _
  rw [execUnfenceDesk, taken]
  exact congrArg _ (State.serveFrom_notReady ..)

theorem exec_fenceDesk_asked {s : State} {fs : List Byte} (h : s.asked .audit .fenceDesk fs) (free : s.deskTaken = false) :
    exec .fenceDesk s = .next
      ((if s.settings.fence = true then s else (s.moveFence true).groupHaltRun).answer .audit .ok [.flag true]) := by
  change execFenceDesk s = _
  rw [execFenceDesk, free]
  exact congrArg _ (State.serveFrom_some s s .audit .fenceDesk _ fs h.1 h.2)

theorem exec_unfenceDesk_asked {s : State} {fs : List Byte} (h : s.asked .audit .unfenceDesk fs) (free : s.deskTaken = false) :
    exec .unfenceDesk s = .next
      ((if s.settings.fence = true then s.moveFence false else s).answer .audit .ok [.flag false]) := by
  change execUnfenceDesk s = _
  rw [execUnfenceDesk, free]
  exact congrArg _ (State.serveFrom_some s s .audit .unfenceDesk _ fs h.1 h.2)

theorem State.groupHaltRun_eq (s : State) :
    s.groupHaltRun = { s with group := { s.group with state := if s.group.state = .running then .halting else s.group.state } } := by
  rw [State.groupHaltRun]
  split <;> rfl

/-- Settles O53. -/
theorem settingsFenceAndIdentityRequests : Obligations.SettingsFenceAndIdentityRequests := by
  refine ⟨fun s t follows h => step_keeps (fun _ _ m => m.keeps_fence) (fun _ _ => id) follows h, fun s fs => ?_⟩
  dsimp only
  rw [← State.deskTaken_iff, Bool.not_eq_true]
  refine ⟨fun taken => ⟨fun _ => exec_fenceDesk_waits taken, fun _ => exec_unfenceDesk_waits taken⟩, fun h => ?_,
    fun h free => ?_, fun h free => ?_, fun l h => ?_, fun l h => ?_⟩
  · change execSettingsSet s = _
    simp only [execSettingsSet, State.serve_asked h, Settings.changed, flagged_elim, flagged_acted]
  · rw [exec_fenceDesk_asked h free, State.groupHaltRun_eq]
    rfl
  · rw [exec_unfenceDesk_asked h free]
    cases fence : s.settings.fence <;> rfl
  · change execIdentify l s = _
    simp only [execIdentify, State.serve_asked h]
    cases l <;> rfl
  · change execSiteQuery l s = _
    simp only [execSiteQuery, State.serve_asked h]

end Sys2Proof.Machine
end

section
/-! PROOFS. The frames of the links, requests taken, later reply records placed (O54 to O58). -/

namespace Sys2Proof.Machine

/-! #### Frames (R187) -/

/-- A frame clocked to its last byte acts; a shorter one only drives 0. -/
theorem State.frame_on {s : State} (on : s.powered = true) (l : LinkId) (need : Nat) (bytes : List Byte) (act : Link → Link) :
    s.frame l need bytes act =
      s.setLink l ((if bytes.length < need then s.link l else act (s.link l)).drove bytes.length) := by
  rw [State.frame, if_pos on]
  by_cases whole : need ≤ bytes.length
  · rw [if_pos whole, if_neg (Nat.not_lt.mpr whole)]
  · rw [if_neg whole, if_pos (Nat.not_le.mp whole)]

theorem exec_writeSlot_on {s : State} (on : s.powered = true) (l : LinkId) (bytes : List Byte) :
    exec (.writeSlot l bytes) s = .next (s.setLink l ((if bytes.length < 17 then s.link l
      else (s.link l).writeSlot (fieldAt bytes 0 1) ((bytes.drop 1).take 16)).drove bytes.length)) :=
  congrArg Host.Outcome.next (State.frame_on on l 17 bytes _)

theorem Link.writeSlot_beyond {k : Link} {n : Nat} (beyond : k.len ≤ n) (bs : List Byte) :
    k.writeSlot n bs = k.ringRefused .slotRange := if_pos beyond

theorem Link.writeSlot_owned {k : Link} {n : Nat} (within : n < k.len) (owned : k.fromHead n < k.owned) (bs : List Byte) :
    k.writeSlot n bs = k.ringRefused .slotOwned := (if_neg (Nat.not_le.mpr within)).trans (if_pos owned)

theorem Link.writeSlot_free {k : Link} {n : Nat} (within : n < k.len) (free : k.owned ≤ k.fromHead n) (bs : List Byte) :
    k.writeSlot n bs = { k with slots := tablePut blankSlot k.slots n bs } :=
  (if_neg (Nat.not_le.mpr within)).trans (if_neg (Nat.not_lt.mpr free))

theorem State.tablesWf.slots {s : State} (w : s.tablesWf) (l : LinkId) : tableWf blankSlot (s.link l).slots = true := by
  obtain ⟨_, _, _, _, _, _, _, _, _, _, slots, _⟩ := w
  exact slots l

/-- Settles O54. -/
theorem writeSlotWritesASlotNotOwned : Obligations.WriteSlotWritesASlotNotOwned := by
  intro s l bytes on
  dsimp only
  rw [exec_writeSlot_on on]
  refine ⟨fun cut => by rw [if_pos cut]; rfl, fun whole => ?_⟩
  rw [if_neg (Nat.not_lt.mpr whole)]
  refine ⟨fun beyond => by rw [Link.writeSlot_beyond beyond]; rfl, fun within owned => by rw [Link.writeSlot_owned within owned]; rfl,
    fun within free => ⟨tablePut blankSlot (s.link l).slots (fieldAt bytes 0 1) ((bytes.drop 1).take 16), ?_, fun w => ?_,
      fun m other => tableLook_put_other _ _ _ _ _ other⟩⟩
  · rw [Link.writeSlot_free within free]
    rfl
  · exact (tableLook_put (w.slots l) _ _ _).trans (if_pos rfl)

/-! #### POST, RING, RESUME (R189, R190, R193) -/

theorem Link.haltOnPost_iff (k : Link) (c : HaltCause) :
    k.haltOnPost c = if k.strict = true ∧ k.halt = none then { k with halt := some (c, k.head) } else k := by
  simp only [Link.haltOnPost, Bool.and_eq_true, Option.isNone_iff_eq_none]

theorem exec_resume_on {s : State} (on : s.powered = true) (l : LinkId) (bytes : List Byte) :
    exec (.resume l bytes) s = .next (s.setLink l ((s.link l).resume.drove bytes.length)) :=
  congrArg Host.Outcome.next ((State.frame_on on l 0 bytes _).trans rfl)

theorem Link.resume_running {k : Link} (running : k.halt = none) : k.resume = k := by
  rw [Link.resume, running]

theorem Link.resume_tail {k : Link} {c : HaltCause} {slot : Nat} (halted : k.halt = some (c, slot))
    (tail : c = .tailRange ∨ c = .tailBack) : k.resume = { k with halt := none } := by
  rw [Link.resume, halted]
  obtain rfl | rfl := tail <;> rfl

theorem Link.resume_noLead {k : Link} {slot : Nat} (halted : k.halt = some (.noLead, slot)) :
    k.resume = { k with halt := none, head := (k.head + 1) % k.len } := by
  rw [Link.resume, halted]
  rfl

theorem Link.resume_missingExt {k : Link} {slot n j : Nat} (halted : k.halt = some (.missingExt, slot))
    (lead : k.markAt 0 = .lead n) (offending : k.offending n = some j) :
    k.resume = { k with halt := none, head := (k.head + j) % k.len } := by
  rw [Link.resume, halted]
  dsimp only
  rw [lead, offending]
  rfl

/-- Settles O55. -/
theorem ringFramesMoveTheRing : Obligations.RingFramesMoveTheRing := by
  intro s l bytes on
  dsimp only
  refine ⟨?_, ?_, fun running => ?_, fun c slot halted => ⟨fun tail => ?_, fun is => ?_, fun n j is lead offending => ?_⟩⟩
  · rw [← Link.haltOnPost_iff, ← Link.haltOnPost_iff]
    exact congrArg Host.Outcome.next (State.frame_on on l 1 bytes _)
  · exact congrArg Host.Outcome.next (State.frame_on on l 4 bytes _)
  · rw [exec_resume_on on, Link.resume_running running]
    rfl
  · rw [exec_resume_on on, Link.resume_tail halted tail]
    rfl
  · rw [exec_resume_on on, Link.resume_noLead (is ▸ halted)]
    rfl
  · rw [exec_resume_on on, Link.resume_missingExt (is ▸ halted) lead offending]
    rfl

/-! #### FETCH, STATUS, CLEAR, unknown frames (R196 to R199) -/

theorem Link.attention_iff (k : Link) : k.attention = true ↔ k.replies ≠ [] ∨ k.notices &&& k.enables ≠ 0#16 := by
  simp [Link.attention]

theorem exec_fetch_on {s : State} (on : s.powered = true) (l : LinkId) (n : Nat) :
    exec (.fetch l n) s = .next (s.setLink l
      (if 18 ≤ n then { s.link l with sdo := driven (s.link l).fetchBytes n, replies := (s.link l).replies.tail }
      else { s.link l with sdo := driven (s.link l).fetchBytes n })) :=
  congrArg Host.Outcome.next (if_pos on)

theorem exec_status_on {s : State} (on : s.powered = true) (l : LinkId) (n : Nat) :
    exec (.status l n) s = .next (s.setLink l
      { s.link l with sdo := driven ((s.link l).statusBytes (l == .desk && s.groupHolds)) n }) :=
  congrArg Host.Outcome.next (if_pos on)

theorem Link.statusFlags_eq (k : Link) (held : Bool) :
    k.statusFlags held =
      BitVec.ofNat 8 (k.strict.toNat + 2 * k.halt.isSome.toNat + 4 * k.inProgress.isSome.toNat + 8 * held.toNat) := by
  unfold Link.statusFlags
  cases k.strict <;> cases k.halt.isSome <;> cases k.inProgress.isSome <;> cases held <;> rfl

theorem Link.statusBytes_eq (k : Link) (held : Bool) :
    k.statusBytes held =
      bigEndian 1 k.head ++ bigEndian 1 k.tail ++ bigEndian 1 k.len ++
        [BitVec.ofNat 8 (k.strict.toNat + 2 * k.halt.isSome.toNat + 4 * k.inProgress.isSome.toNat + 8 * held.toNat)] ++
        bigEndian 1 (k.halt.elim 0 fun h => haltCode h.1) ++ bigEndian 1 (k.halt.elim 0 Prod.snd) ++
        bigEndian 1 (k.lastError.elim 0 ringErrorCode) ++ bigEndian 1 k.replies.length ++
        bigEndian 2 k.notices.toNat ++ bigEndian 2 k.enables.toNat := by
  rw [Link.statusBytes, Link.statusFlags_eq]
  cases k.lastError <;> cases k.halt <;> simp only [List.append_assoc] <;> rfl

theorem GroupPhase.holds_eq (p : GroupPhase) :
    p.holds = match p with
      | .issueHanded b => b
      | .imageHeld _ => true
      | _ => false := by
  cases p <;> rfl

/-- Settles O56. -/
theorem fetchStatusAndNoticeFrames : Obligations.FetchStatusAndNoticeFrames := by
  intro s l on
  dsimp only
  refine ⟨(s.link l).attention_iff, fun n => ⟨fun cut => ?_, fun whole => ?_⟩, fun n => ?_, fun bytes => ?_, fun code bytes => ?_⟩
  · rw [exec_fetch_on on, if_neg (Nat.not_le.mpr cut)]
    rfl
  · rw [exec_fetch_on on, if_pos whole]
    rfl
  · rw [exec_status_on on, Link.statusBytes_eq]
    simp only [State.groupHolds, GroupPhase.holds_eq]
    rfl
  · change Host.Outcome.next (s.frame l 2 bytes _) = _
    rw [State.frame_on on]
    split <;> rfl
  · change Host.Outcome.next (s.frame l 0 bytes _) = _
    rw [State.frame_on on]
    rfl

/-! #### A link reset (R200) -/

theorem Link.reset_drove (k : Link) (l : LinkId) (n : Nat) :
    (k.reset l).drove n =
      { len := 16, slots := k.slots, head := 0, tail := 0, strict := false, halt := none, lastError := none
        inProgress := k.inProgress.bind Request.atReset, replies := [], notices := 0#16, enables := noticeMask l
        sdo := List.replicate n 0#8 } := rfl

theorem exec_linkReset_on {s : State} (on : s.powered = true) (l : LinkId) (bytes : List Byte) :
    exec (.linkReset l bytes) s = .next
      (if l = .desk then (s.setLink l (((s.link l).reset l).drove bytes.length)).groupLinkReset
      else s.setLink l (((s.link l).reset l).drove bytes.length)) := by
  change execLinkReset l bytes s = _
  rw [execLinkReset, if_pos on]
  dsimp only
  rw [State.frame_on on]
  rfl

theorem atReset_eq (o : Option Request) :
    o.bind Request.atReset =
      match o with
      | none => none
      | some r => match r.phase with
        | .placing _ => none
        | .handed => some { r with discard := true }
        | .taken => some { r with discard := true } := by
  cases o <;> rfl

theorem State.groupLinkReset_eq (s : State) :
    s.groupLinkReset =
      let u := fun (phase : GroupPhase) => ({ s with group := { s.group with
        state := if s.group.state = .running then .halting else s.group.state, phase := phase } } : State)
      match s.group.phase with
      | .issueHanded _ => u (.issueHanded false)
      | .imageHeld _ => (u .rest).groupAfterStep
      | phase => u phase := by
  rw [State.groupLinkReset, State.groupHaltRun_eq]
  dsimp only
  cases phase : s.group.phase <;> rfl

/-- Settles O57. -/
theorem linkResetRestoresItsOwnLink : Obligations.LinkResetRestoresItsOwnLink := by
  intro s l bytes on
  dsimp only
  rw [exec_linkReset_on on, Link.reset_drove, atReset_eq]
  by_cases desk : l = .desk
  · subst desk
    rw [if_pos rfl, if_pos rfl]
    exact congrArg Host.Outcome.next (State.groupLinkReset_eq _)
  · exact congrArg Host.Outcome.next ((if_neg desk).trans (if_neg desk).symm)

end Sys2Proof.Machine
end

section
/-! PROOFS. Requests taken from the ring, later reply records placed (O58). -/

namespace Sys2Proof.Machine

/-! #### The slot at head (R191, R204) -/

theorem Link.slotAfter_zero {k : Link} (lawful : k.head < k.len) : k.slotAfter 0 = k.head := Nat.mod_eq_of_lt lawful

theorem Link.tagAt_zero {k : Link} (lawful : k.head < k.len) : k.tagAt 0 = slotByte (k.slot k.head) 1 := by
  rw [Link.tagAt, Link.slotAfter_zero lawful]

theorem exec_takeRequest_can {s : State} {l : LinkId} (on : s.powered = true) (running : (s.link l).halt = none)
    (none_ : (s.link l).inProgress = none) (owns : 0 < (s.link l).owned) (place : s.placesTaken l < 16) :
    exec (.takeRequest l) s = .next (s.takeHead l) :=
  congrArg Host.Outcome.next (if_pos (by simp [State.canTake, on, running, none_, owns, (s.placeFree_iff l).mpr place]))

/-! #### Sequence errors (R192, R193) -/

/-- A sequence error's link: halted at head in strict mode, else moved past the slots skipped (R192). -/
def Link.faulted (k : Link) (c : HaltCause) (next : Nat) : Link :=
  if k.strict = true then { k with halt := some (c, k.head) } else { k with head := (k.head + next) % k.len }

theorem Link.sequenceError_faulted {k : Link} (c : HaltCause) (code kind at_ next : Nat) :
    k.sequenceError c code kind at_ next =
      (k.faulted c next).place
        (replyRecord (k.tagAt 0) .seqError kind (bigEndian 1 code ++ bigEndian 1 (k.slotAfter at_))) := by
  unfold Link.sequenceError Link.faulted
  dsimp only
  split <;> rfl

theorem State.takeHead_noLead {s : State} {l : LinkId} (stray : ∀ n, (s.link l).markAt 0 ≠ .lead n) :
    s.takeHead l = s.setLink l ((s.link l).sequenceError .noLead 1 0 0 1) := by
  unfold State.takeHead
  dsimp only
  cases mark : (s.link l).markAt 0 with
  | lead n => exact absurd mark (stray n)
  | _ => rfl

theorem State.takeHead_lead {s : State} {l : LinkId} {n : Nat} (lead : (s.link l).markAt 0 = .lead n) :
    s.takeHead l =
      if (s.link l).len < n + 2 then
        s.setLink l (((s.link l).advance 1).place
          (replyRecord ((s.link l).tagAt 0) .badField (s.link l).kindAtHead (s.linkRefusal l 0)))
      else ((s.link l).offending n).elim (if n < (s.link l).owned then s.examine l n else s) fun j =>
        s.setLink l ((s.link l).sequenceError .missingExt 2 (s.link l).kindAtHead j j) := by
  unfold State.takeHead
  dsimp only
  rw [lead]
  have long : ((s.link l).len - 1 < n + 1) = ((s.link l).len < n + 2) := propext (by omega)
  dsimp only
  simp only [long]
  cases (s.link l).offending n <;> rfl

theorem State.takeHead_complete {s : State} {l : LinkId} {n : Nat} (lead : (s.link l).markAt 0 = .lead n)
    (fits : n + 2 ≤ (s.link l).len) (whole : (s.link l).offending n = none) (owned : n < (s.link l).owned) :
    s.takeHead l = s.examine l n := by
  rw [State.takeHead_lead lead, if_neg (Nat.not_lt.mpr fits), whole, Option.elim_none, if_pos owned]

theorem State.takeHead_waits {s : State} {l : LinkId} {n : Nat} (lead : (s.link l).markAt 0 = .lead n)
    (fits : n + 2 ≤ (s.link l).len) (whole : (s.link l).offending n = none) (waits : (s.link l).owned ≤ n) :
    s.takeHead l = s := by
  rw [State.takeHead_lead lead, if_neg (Nat.not_lt.mpr fits), whole, Option.elim_none, if_neg (Nat.not_lt.mpr waits)]

/-! #### A complete request (R194) -/

/-- The bytes of a refusal's own fields (R3, R27, R174). -/
theorem fieldBytes_refusalFields (s : State) (kind : ReqKind) (area : List Byte) :
    fieldBytes (s.refusalFields kind area) =
      if kind = .setTime then bigEndian 4 s.clock.minute ++ bigEndian 1 s.clock.second
      else if kind = .checkIn then
        bigEndian 1 (if fieldAt area 0 2 < 512 then roomStateCode (s.room (fieldAt area 0 2)).state else 0xFF)
      else if kind = .commission then bigEndian 1 (serviceCode s.settings.service) ++ bigEndian 1 s.clock.isSet.toNat
      else [] := by
  unfold State.refusalFields
  split
  · simp [fieldBytes, placeFields]
  · split
    · rw [State.roomStateField]
      by_cases lawful : fieldAt area 0 2 < 512
      · rw [if_pos lawful, if_pos (show fieldAt area 0 2 < Config.rooms from lawful)]
        simp [optField, fieldBytes, placeFields]
      · rw [if_neg lawful, if_neg (show ¬ fieldAt area 0 2 < Config.rooms from lawful)]
        rfl
    · split
      · cases s.clock.isSet <;> simp [fieldBytes, placeFields, flagsOf, flagByte, bigEndian]
      · rfl

theorem State.linkRefusal_eq (s : State) (l : LinkId) (n : Nat) :
    s.linkRefusal l n =
      let kind := kindOfCode (s.link l).kindAtHead
      let room := fieldAt ((s.link l).fieldArea n) 0 2
      if kind = some .setTime then bigEndian 4 s.clock.minute ++ bigEndian 1 s.clock.second
      else if kind = some .checkIn then bigEndian 1 (if room < 512 then roomStateCode (s.room room).state else 0xFF)
      else if kind = some .commission then bigEndian 1 (serviceCode s.settings.service) ++ bigEndian 1 s.clock.isSet.toNat
      else [] := by
  rw [State.linkRefusal]
  cases kindOfCode (s.link l).kindAtHead with
  | none => rfl
  | some kind =>
    simp only [Option.some.injEq]
    exact fieldBytes_refusalFields ..

theorem State.linkRefusal_unknown {s : State} {l : LinkId} (unknown : kindOfCode (s.link l).kindAtHead = none) (n : Nat) :
    s.linkRefusal l n = [] := by
  rw [State.linkRefusal, unknown]
  rfl

/-- A refusal by the Link Unit of a request taken with `n` extension slots (R194). -/
def State.refuseRequest (s : State) (l : LinkId) (n : Nat) (st : Status) : State :=
  s.setLink l (((s.link l).advance (n + 1)).place
    (replyRecord ((s.link l).tagAt 0) st (s.link l).kindAtHead (s.linkRefusal l n)))

theorem State.examine_unknown {s : State} {l : LinkId} (unknown : kindOfCode (s.link l).kindAtHead = none) (n : Nat) :
    s.examine l n = s.refuseRequest l n .notPermitted := by
  unfold State.examine
  dsimp only
  rw [unknown]
  rfl

theorem State.examine_known {s : State} {l : LinkId} {kind : ReqKind} (known : kindOfCode (s.link l).kindAtHead = some kind) (n : Nat) :
    s.examine l n =
      if permitted kind l = false then s.refuseRequest l n .notPermitted
      else if n + 1 ≠ slotCount kind then s.refuseRequest l n .badField
      else
        let r : Request :=
          { tag := (s.link l).tagAt 0, kind := kind, fields := (s.link l).fieldArea n, phase := .handed, discard := false }
        let u := s.setLink l { (s.link l).advance (n + 1) with inProgress := some r }
        if credentialKind kind = true then u.cmHand (sourceOf l) else u := by
  unfold State.examine
  dsimp only
  rw [known]
  simp only [Bool.not_eq_true']
  rfl

theorem sourceOf_eq (l : LinkId) : sourceOf l = if l = .audit then .audit else .desk := by
  cases l <;> rfl

/-! #### Later reply records (R195, R205) -/

theorem exec_placeReplyRecord_free {s : State} {l : LinkId} (on : s.powered = true) (place : s.placesTaken l < 16) :
    exec (.placeReplyRecord l) s = .next (s.placeRecord l) :=
  congrArg Host.Outcome.next (if_pos (by simp [on, (s.placeFree_iff l).mpr place]))

theorem Link.placeNext_placing {k : Link} {r : Request} {a : Reply} {rest : List Reply} (is : k.inProgress = some r)
    (phase : r.phase = .placing (a :: rest)) :
    k.placeNext = { k with
      replies := k.replies ++ [a], inProgress := if rest = [] then none else some { r with phase := .placing rest } } := by
  rw [Link.placeNext, is]
  dsimp only
  rw [phase]
  simp only [List.isEmpty_iff]

theorem Link.placeNext_open {k : Link} (open_ : ∀ r, k.inProgress = some r → r.answered = false) : k.placeNext = k := by
  rw [Link.placeNext]
  cases is : k.inProgress with
  | none => rfl
  | some r =>
    have notPlacing := open_ r is
    rw [Request.answered] at notPlacing
    cases phase : r.phase with
    | placing rest => simp [phase] at notPlacing
    | _ => simp only [phase]

/-- While more records of the Desk reply wait, the card image waits behind them (R195). -/
theorem State.placeRecord_more {s : State} (more : s.desk.placeNext.inProgress.elim false Request.answered = true) :
    s.placeRecord .desk = s.setLink .desk s.desk.placeNext := by
  unfold State.placeRecord
  have placing : (s.setLink .desk (s.link .desk).placeNext).deskPlacing = true := more
  dsimp only
  split
  · rw [if_pos placing]
    rfl
  · rfl

/-- Settles O58. -/
theorem requestsAreTakenAndLaterRepliesPlaced : Obligations.RequestsAreTakenAndLaterRepliesPlaced := by
  refine ⟨fun s l on => ?_, fun s l on place => ?_⟩
  · dsimp only
    intro lawful running none_ owns place
    have tag := Link.tagAt_zero lawful
    rw [exec_takeRequest_can on running none_ owns place]
    refine ⟨fun stray => ?_, fun n lead => ⟨fun long => ?_, fun fits => ⟨fun j offending => ?_, fun whole waits => ?_,
      fun whole owned => ⟨fun unknown => ?_, fun kind known => ?_⟩⟩⟩⟩
    · rw [State.takeHead_noLead stray, Link.sequenceError_faulted, Link.slotAfter_zero lawful, tag]
      rfl
    · rw [State.takeHead_lead lead, if_pos long, State.linkRefusal_eq, tag]
      rfl
    · rw [State.takeHead_lead lead, if_neg (Nat.not_lt.mpr fits), offending, Option.elim_some, Link.sequenceError_faulted, tag]
      rfl
    · rw [State.takeHead_waits lead fits whole waits]
    · rw [State.takeHead_complete lead fits whole owned, State.examine_unknown unknown, State.refuseRequest,
        State.linkRefusal_unknown unknown, tag]
      rfl
    · rw [State.takeHead_complete lead fits whole owned, State.examine_known known]
      refine ⟨fun barred => ?_, fun allowed count => ?_, fun allowed count => ?_⟩
      · rw [if_pos barred, State.refuseRequest, State.linkRefusal_eq, tag]
        rfl
      · rw [if_neg (by simp [allowed]), if_pos count, State.refuseRequest, State.linkRefusal_eq, tag]
        rfl
      · rw [if_neg (by simp [allowed]), if_neg (not_not_intro count), tag, sourceOf_eq]
        rfl
  · dsimp only
    rw [exec_placeReplyRecord_free on place]
    refine ⟨fun r a rest is phase free => ?_, fun r a image is phase desk held => ?_, fun still open_ => ?_⟩
    · rw [← Link.placeNext_placing is phase]
      by_cases waits : l = .desk ∧ ∃ image, s.group.phase = .imageHeld image
      · obtain ⟨desk, _⟩ := id waits
        subst desk
        refine congrArg _ (State.placeRecord_more ?_)
        rw [Link.placeNext_placing (k := s.desk) is phase, if_neg (free.resolve_left (not_not_intro waits))]
        rfl
      · rw [State.placeRecord_no_image s l fun desk image held => waits ⟨desk, image, held⟩]
    · subst desk
      have placed := Link.placeNext_placing (k := s.desk) is phase
      rw [State.placeRecord_image s image held (by rw [placed]; rfl), placed, State.placeImage]
      exact congrArg (fun replies => Host.Outcome.next (State.groupAfterStep
        { s with desk := { s.desk with replies := replies, inProgress := none }, group := { s.group with phase := .rest } }))
        (List.append_assoc s.desk.replies [a] [image])
    · rw [State.placeRecord_no_image s l fun desk image held => still ⟨desk, image, held⟩, Link.placeNext_open open_,
        State.setLink_link]

end Sys2Proof.Machine
end

section
/-! PROOFS. A cold start's pages, and what the recovery scan finds (O59). -/

namespace Sys2Proof.Machine

/-! #### The pages a cold start leaves (R147, R184) -/

/-- A page with its slots alone. -/
def Page.slotsOnly (x : Page) : Page := { slots := x.slots, fill := .erased, readable := [] }

/-- What a table reads after every record of a table is put, changed, into it. -/
theorem tableLook_foldl_put {α : Type} [DecidableEq α] {d : α} (f : α → α) {ps acc : Table α} {low : Nat}
    (wp : tableWfFrom d low ps = true) (wa : tableWf d acc = true) (n : Nat) :
    tableLook d (ps.foldl (fun t x => tablePut d t x.1 (f x.2)) acc) n =
      if n ∈ ps.map Prod.fst then f (tableLook d ps n) else tableLook d acc n := by
  induction ps generalizing acc low with
  | nil => simp
  | cons x ps ih =>
    obtain ⟨j, v⟩ := x
    simp only [tableWfFrom, Bool.and_eq_true] at wp
    obtain ⟨_, rest⟩ := wp
    rw [List.foldl_cons, ih rest (tablePut_wf _ _ _ _ wa), tableLook_put wa]
    by_cases here : n = j
    · have fresh : n ∉ ps.map Prod.fst := fun again => by
        obtain ⟨q, listed, same⟩ := List.mem_map.mp again
        exact absurd (le_of_mem_tableWfFrom rest listed) (by rw [same, here]; exact Nat.not_succ_le_self j)
      rw [if_neg fresh, if_pos here, if_pos (by simp [here]), here]
      exact congrArg f (if_pos rfl).symm
    · have later : tableLook d ((j, v) :: ps) n = tableLook d ps n := if_neg (Ne.symm here)
      simp only [later, List.map_cons, List.mem_cons, here, false_or, if_false]

theorem tableLook_unlisted {α : Type} [DecidableEq α] {d : α} {t : Table α} {n : Nat} (absent : n ∉ t.map Prod.fst) :
    tableLook d t n = d := by
  by_contra held
  exact absent (List.mem_map_of_mem (f := Prod.fst) (mem_of_tableLook d held))

theorem scanPages_look {pages : Table Page} (w : tableWf Page.blank pages = true) (p : Nat) :
    tableLook Page.blank (scanPages pages) p = (tableLook Page.blank pages p).slotsOnly := by
  refine (tableLook_foldl_put Page.slotsOnly w (acc := []) rfl p).trans ?_
  split
  · rfl
  · next absent =>
    rw [tableLook_unlisted absent]
    rfl

theorem State.cutPages_slots {s : State} (w : s.tablesWf) (slotRead : List Byte) (pageRead : List (Nat × List Byte)) (p : Nat) :
    ((s.cutPages slotRead pageRead).page p).slots =
      match s.journal.writer with
      | .programming =>
        if p = s.journal.write.page then tablePut erasedSlot (s.page p).slots s.journal.write.slot (asSlot slotRead)
        else (s.page p).slots
      | .erasing q _ => if p = q then slotsOf pageRead else (s.page p).slots
      | _ => (s.page p).slots := by
  unfold State.cutPages
  cases s.journal.writer with
  | programming =>
    dsimp only
    rw [State.page_setPage w.pagesWf]
    by_cases here : p = s.journal.write.page
    · rw [if_pos here, if_pos here, here]
      rfl
    · rw [if_neg here, if_neg here]
  | erasing q _ =>
    dsimp only
    rw [State.page_setPage w.pagesWf]
    split <;> rfl
  | _ => rfl

/-! #### The slots found (R166) -/

theorem mem_recordPrefix {p : Page} {fuel m n : Nat} :
    n ∈ recordPrefix p fuel m ↔ m ≤ n ∧ n < m + fuel ∧ ∀ i, m ≤ i → i ≤ n → slotIsRecord (p.slot i) = true := by
  induction fuel generalizing m with
  | zero => simp [recordPrefix]; omega
  | succ fuel ih =>
    rw [recordPrefix]
    by_cases record : slotIsRecord (p.slot m) = true
    · rw [if_pos record, List.mem_cons, ih]
      constructor
      · rintro (rfl | ⟨from_, within, all⟩)
        · exact ⟨le_rfl, by omega, fun i low high => Nat.le_antisymm high low ▸ record⟩
        · refine ⟨by omega, by omega, fun i low high => ?_⟩
          obtain rfl | above := Nat.eq_or_lt_of_le low
          · exact record
          · exact all i above high
      · rintro ⟨from_, within, all⟩
        obtain rfl | above := Nat.eq_or_lt_of_le from_
        · exact .inl rfl
        · exact .inr ⟨above, by omega, fun i low high => all i (by omega) high⟩
    · rw [if_neg record]
      exact ⟨fun none => absurd none List.not_mem_nil, fun ⟨from_, _, all⟩ => absurd (all m le_rfl from_) record⟩

/-- A record that the scan finds: on a page in use, a slot up to the first that is no record; on a retired page, a slot below its
held count that does not read erased (R166). -/
def State.holdsRecord (s : State) (e : RingPos) (n : Nat) : Prop :=
  e ∈ s.journal.map.ring ∧ n ∈ foundSlots (s.page e.page) e.held

theorem mem_foundSlots (p : Page) (held : Option Nat) (n : Nat) :
    n ∈ foundSlots p held ↔
      match held with
      | none => n < 64 ∧ ∀ m, m ≤ n → slotIsRecord (p.slot m) = true
      | some h => n < h ∧ p.slot n ≠ erasedSlot := by
  unfold foundSlots
  cases held with
  | none =>
    dsimp only
    rw [mem_recordPrefix]
    simp [Config.slotsPerPage]
  | some h => simp

theorem exists_mem_foundFrom {s : State} {l : List RingPos} {e : RingPos} {n : Nat} (listed : e ∈ l)
    (slot : n ∈ foundSlots (s.page e.page) e.held) (i : Nat) :
    ∃ x ∈ s.foundFrom i l, x.page = e.page ∧ x.slot = n ∧ x.seq = slotSequence ((s.page e.page).slot n) := by
  induction l generalizing i with
  | nil => cases listed
  | cons y l ih =>
    rw [State.foundFrom]
    cases listed with
    | head => exact ⟨_, List.mem_append_left _ (List.mem_map_of_mem slot), rfl, rfl, rfl⟩
    | tail _ later =>
      obtain ⟨x, found, facts⟩ := ih later (i + 1)
      exact ⟨x, List.mem_append_right _ found, facts⟩

/-! #### The scan's choice among copies (R166) -/

/-- The records found, in ring order. -/
def State.allFound (s : State) : List Found := s.foundFrom 0 s.journal.map.ring

/-- The records found, one copy of each number, those behind the newest first. -/
def State.keptFound (s : State) : List Found :=
  let newest := (s.allFound.map Found.seq).foldl max 0
  let top := (s.allFound.filter fun x => x.seq == newest).foldl (fun i x => max i x.idx) 0
  lastCopies ((s.allFound.filter fun x => decide (top < x.idx)) ++ (s.allFound.filter fun x => decide (x.idx ≤ top)))

theorem State.scan_none {s : State} (none_ : s.allFound = []) :
    s.scan = { newest := 0, oldest := none, readable := [], holder := none } := if_pos (List.isEmpty_iff.mpr none_)

theorem State.scan_some {s : State} (some_ : s.allFound ≠ []) :
    s.scan =
      let newest := (s.allFound.map Found.seq).foldl max 0
      let oldest := oldestFrom (s.keptFound.map Found.seq) s.keptFound.length newest
      { newest := newest, oldest := some oldest, readable := s.keptFound.filter fun x => decide (oldest ≤ x.seq)
        holder := s.keptFound.find? fun x => x.seq == newest } := if_neg (mt List.isEmpty_iff.mp some_)

theorem lastCopies_nodup (l : List Found) : ((lastCopies l).map Found.seq).Nodup := by
  induction l with
  | nil => exact List.nodup_nil
  | cons x l ih =>
    rw [lastCopies]
    split
    · exact ih
    · next last =>
      refine List.nodup_cons.mpr ⟨fun again => ?_, ih⟩
      obtain ⟨y, listed, same⟩ := List.mem_map.mp again
      exact last (List.any_eq_true.mpr ⟨y, mem_of_mem_lastCopies listed, beq_iff_eq.mpr same⟩)

theorem State.mem_rotated (s : State) (top : Nat) (x : Found) :
    x ∈ (s.allFound.filter fun x => decide (top < x.idx)) ++ (s.allFound.filter fun x => decide (x.idx ≤ top)) ↔ x ∈ s.allFound := by
  simp only [List.mem_append, List.mem_filter, decide_eq_true_eq]
  have := Nat.lt_or_ge top x.idx
  tauto

theorem State.mem_of_keptFound {s : State} {x : Found} (kept : x ∈ s.keptFound) : x ∈ s.allFound :=
  (s.mem_rotated _ x).mp (mem_of_mem_lastCopies kept)

theorem State.keptFound_seqs (s : State) (k : Nat) : k ∈ s.keptFound.map Found.seq ↔ k ∈ s.allFound.map Found.seq := by
  constructor
  · rintro listed
    obtain ⟨x, kept, rfl⟩ := List.mem_map.mp listed
    exact List.mem_map_of_mem (State.mem_of_keptFound kept)
  · rintro listed
    obtain ⟨x, found, rfl⟩ := List.mem_map.mp listed
    obtain ⟨y, kept, same⟩ := exists_lastCopy ((s.mem_rotated _ x).mpr found)
    exact List.mem_map.mpr ⟨y, kept, same⟩

/-! #### The oldest durable record (R166) -/

/-- Every number from the oldest up was found. -/
theorem mem_of_oldestFrom {seqs : List Nat} {fuel n k : Nat} (top : n ∈ seqs) (above : oldestFrom seqs fuel n ≤ k) (below : k ≤ n) :
    k ∈ seqs := by
  induction fuel generalizing n with
  | zero => exact Nat.le_antisymm below above ▸ top
  | succ fuel ih =>
    rw [oldestFrom] at above
    split at above
    · next down =>
      simp only [Bool.and_eq_true, List.contains_iff_mem, decide_eq_true_eq] at down
      obtain rfl | less := Nat.eq_or_lt_of_le below
      · exact top
      · exact ih down.1 above (by omega)
    · exact Nat.le_antisymm below above ▸ top

/-- The walk down stops at a number before which none was found, or has used up its steps. -/
theorem oldestFrom_stops (seqs : List Nat) (fuel n : Nat) :
    (1 < oldestFrom seqs fuel n → oldestFrom seqs fuel n - 1 ∉ seqs) ∨ oldestFrom seqs fuel n + fuel = n := by
  induction fuel generalizing n with
  | zero => exact .inr rfl
  | succ fuel ih =>
    rw [oldestFrom]
    split
    · next down =>
      simp only [Bool.and_eq_true, List.contains_iff_mem, decide_eq_true_eq] at down
      exact (ih (n - 1)).imp_right (by omega)
    · next stop =>
      refine .inl fun more listed => stop ?_
      simp [listed, more]

/-- As many steps as numbers were found are enough. -/
theorem oldestFrom_least {seqs : List Nat} {n : Nat} (top : n ∈ seqs) (more : 1 < oldestFrom seqs seqs.length n) :
    oldestFrom seqs seqs.length n - 1 ∉ seqs := by
  obtain stops | used := oldestFrom_stops seqs seqs.length n
  · exact stops more
  · have run : List.range' (oldestFrom seqs seqs.length n) (seqs.length + 1) ⊆ seqs := fun k listed => by
      obtain ⟨above, below⟩ := List.mem_range'_1.mp listed
      exact mem_of_oldestFrom top above (by omega)
    have length := (List.subperm_of_subset List.nodup_range' run).length_le
    rw [List.length_range'] at length
    omega

theorem State.newest_mem {s : State} (some_ : s.allFound ≠ []) :
    (s.allFound.map Found.seq).foldl max 0 ∈ s.keptFound.map Found.seq := by
  obtain ⟨x, found, newest⟩ := exists_newest some_
  exact (s.keptFound_seqs _).mpr (List.mem_map.mpr ⟨x, found, newest⟩)

/-- What the scan finds, once it finds a record (R166). -/
theorem State.scan_found {s : State} (some_ : s.allFound ≠ []) :
    (∀ x ∈ s.allFound, x.seq ≤ s.scan.newest) ∧
    ∃ low, s.scan.oldest = some low ∧ low ≤ s.scan.newest ∧ (1 < low → ∀ x ∈ s.allFound, x.seq ≠ low - 1) ∧
      (s.scan.readable.map Found.seq).Nodup ∧ (∀ k, k ∈ s.scan.readable.map Found.seq ↔ low ≤ k ∧ k ≤ s.scan.newest) ∧
      (∀ x ∈ s.scan.readable, x ∈ s.allFound) ∧ ∃ x ∈ s.scan.readable, s.scan.holder = some x ∧ x.seq = s.scan.newest := by
  have newest_mem := State.newest_mem some_
  rw [State.scan_some some_]
  dsimp only
  have newest : ∀ x ∈ s.allFound, x.seq ≤ (s.allFound.map Found.seq).foldl max 0 := fun x found =>
    le_foldl_max (List.mem_map_of_mem found) 0
  generalize (s.allFound.map Found.seq).foldl max 0 = top at newest newest_mem
  have length : s.keptFound.length = (s.keptFound.map Found.seq).length := by rw [List.length_map]
  rw [length]
  generalize oldest : oldestFrom (s.keptFound.map Found.seq) (s.keptFound.map Found.seq).length top = low
  have low_le : low ≤ top := oldest ▸ oldestFrom_le _ _ _
  have readable : ∀ k, k ∈ (s.keptFound.filter fun x => decide (low ≤ x.seq)).map Found.seq ↔
      low ≤ k ∧ k ∈ s.keptFound.map Found.seq := fun k => by
    simp only [List.mem_map, List.mem_filter, decide_eq_true_eq]
    exact ⟨fun ⟨x, ⟨kept, above⟩, is⟩ => ⟨is ▸ above, x, kept, is⟩, fun ⟨above, x, kept, is⟩ => ⟨x, ⟨kept, is ▸ above⟩, is⟩⟩
  refine ⟨newest, low, rfl, low_le, fun more x found before => ?_, ?_, fun k => ?_, fun x listed =>
    State.mem_of_keptFound (List.mem_of_mem_filter listed), ?_⟩
  · have absent := oldestFrom_least newest_mem (oldest.symm ▸ more)
    rw [oldest, ← before] at absent
    exact absent ((s.keptFound_seqs _).mpr (List.mem_map_of_mem found))
  · exact (List.filter_sublist.map Found.seq).nodup (lastCopies_nodup _)
  · rw [readable]
    refine and_congr_right fun above => ⟨fun kept => ?_, fun below => ?_⟩
    · obtain ⟨x, found, rfl⟩ := List.mem_map.mp ((s.keptFound_seqs k).mp kept)
      exact newest x found
    · exact mem_of_oldestFrom newest_mem (oldest.symm ▸ above) below
  · obtain ⟨y, kept, is⟩ := List.mem_map.mp newest_mem
    cases holder : s.keptFound.find? fun x => x.seq == top with
    | none => exact absurd (beq_iff_eq.mpr is) (List.find?_eq_none.mp holder y kept)
    | some x =>
      have seq : x.seq = top := beq_iff_eq.mp (List.find?_some (p := fun x : Found => x.seq == top) holder)
      exact ⟨x, List.mem_filter.mpr ⟨List.mem_of_find?_eq_some holder, decide_eq_true (seq.symm ▸ low_le)⟩, rfl, seq⟩

/-- The records found are those held on the ring. -/
theorem State.allFound_eq_nil {s : State} (none_ : ∀ e n, ¬ s.holdsRecord e n) : s.allFound = [] := by
  refine List.eq_nil_iff_forall_not_mem.mpr fun x found => ?_
  obtain ⟨e, listed, page, slot, _⟩ := mem_foundFrom found
  exact none_ e x.slot ⟨listed, page ▸ slot⟩

end Sys2Proof.Machine
end

section
/-! PROOFS. The recovery scan completes (O59). -/

namespace Sys2Proof.Machine

/-! #### The write position behind the newest record (R166) -/

theorem recordPrefix_eq_range' (p : Page) (fuel m : Nat) :
    recordPrefix p fuel m = List.range' m (recordPrefix p fuel m).length := by
  induction fuel generalizing m with
  | zero => rfl
  | succ fuel ih =>
    rw [recordPrefix]
    split
    · rw [List.length_cons, List.range'_succ, ← ih (m + 1)]
    · rfl

theorem mem_recordPrefix_iff_lt (p : Page) (fuel n : Nat) : n ∈ recordPrefix p fuel 0 ↔ n < (recordPrefix p fuel 0).length := by
  have range := recordPrefix_eq_range' p fuel 0
  constructor
  · intro listed
    rw [range] at listed
    simpa using (List.mem_range'_1.mp listed).2
  · intro below
    rw [range]
    exact List.mem_range'_1.mpr ⟨Nat.zero_le _, by simpa using below⟩

/-- A page on which only erased slots follow its records. -/
theorem restErased_iff {p : Page} (w : tableWf erasedSlot p.slots = true) {n : Nat} (last : n ∈ recordPrefix p 64 0) :
    restErased p = true ∧ (recordPrefix p 64 0).length = n + 1 ↔ ∀ m, n < m → p.slot m = erasedSlot := by
  have reached := (mem_recordPrefix_iff_lt p 64 n).mp last
  constructor
  · rintro ⟨rest, length⟩ m above
    by_contra written
    have listed := mem_of_tableLook (t := p.slots) (n := m) erasedSlot written
    have below := of_decide_eq_true (List.all_eq_true.mp rest _ listed)
    change m < (recordPrefix p 64 0).length at below
    omega
  · intro erased
    have unrecorded : slotIsRecord (p.slot (n + 1)) = false := by
      rw [erased (n + 1) (Nat.lt_succ_self n)]
      decide
    have stops : n + 1 ∉ recordPrefix p 64 0 := fun more => by
      have record := (mem_recordPrefix.mp more).2.2 (n + 1) (Nat.zero_le _) le_rfl
      rw [unrecorded] at record
      cases record
    have length : (recordPrefix p 64 0).length = n + 1 := by
      have := mt (mem_recordPrefix_iff_lt p 64 (n + 1)).mpr stops
      omega
    refine ⟨List.all_eq_true.mpr fun x listed => decide_eq_true ?_, length⟩
    change x.1 < (recordPrefix p 64 0).length
    obtain ⟨held, written⟩ := tableLook_of_mem w (n := x.1) (v := x.2) listed
    by_contra beyond
    exact written (held.symm.trans (erased x.1 (by omega)))

theorem PageMap.posOf_of_mem {m : PageMap} (distinct : (m.ring.map RingPos.page).Nodup) {e : RingPos} (listed : e ∈ m.ring) :
    m.posOf e.page = some e := by
  cases found : m.posOf e.page with
  | none => exact absurd (beq_self_eq_true e.page) (by simpa using List.find?_eq_none.mp found e listed)
  | some x =>
    have page : x.page = e.page := beq_iff_eq.mp (List.find?_some (p := fun y : RingPos => y.page == e.page) found)
    rw [List.inj_on_of_nodup_map distinct (List.mem_of_find?_eq_some found) listed page]

/-- The page of a record stays FILLING: it is in use, has a free slot and reads erased behind the record (R166). -/
def State.fillsBehind (s : State) (x : Found) : Prop :=
  (∃ e ∈ s.journal.map.ring, e.page = x.page ∧ e.held = none) ∧ x.slot + 1 < 64 ∧
    ∀ n, x.slot < n → (s.page x.page).slot n = erasedSlot

theorem State.scanWrite_pos {s : State} (distinct : (s.journal.map.ring.map RingPos.page).Nodup) {x : Found} {e : RingPos}
    (listed : e ∈ s.journal.map.ring) (page : e.page = x.page) :
    (s.scanWrite x).1 = { pos := e.pos, page := x.page, slot := x.slot + 1 } := by
  have pos := PageMap.posOf_of_mem distinct listed
  rw [page] at pos
  rw [State.scanWrite, pos]
  rfl

theorem State.scanWrite_filling {s : State} (w : s.tablesWf) (distinct : (s.journal.map.ring.map RingPos.page).Nodup) {x : Found}
    (found : x ∈ s.allFound) : (s.scanWrite x).2 = true ↔ s.fillsBehind x := by
  obtain ⟨e, listed, page, slot, _⟩ := mem_foundFrom found
  have pos := PageMap.posOf_of_mem distinct listed
  rw [page] at pos
  have alone : (∃ e' ∈ s.journal.map.ring, e'.page = x.page ∧ e'.held = none) ↔ e.held = none := by
    constructor
    · rintro ⟨e', listed', page', held⟩
      rw [List.inj_on_of_nodup_map distinct listed listed' (page.trans page'.symm)]
      exact held
    · exact fun held => ⟨e, listed, page, held⟩
  rw [State.fillsBehind, alone, State.scanWrite, pos]
  simp only [Option.getD_some, Bool.and_eq_true, decide_eq_true_eq, Option.isNone_iff_eq_none, and_assoc]
  refine and_congr_right fun held => and_congr_right fun _ => ?_
  rw [held] at slot
  exact restErased_iff (State.pageSlots_wf w.pagesWf x.page) slot

/-! #### The state once the pages are rebuilt (R166) -/

theorem State.rebuildPages_frame (s : State) (r : ScanResult) (filling : Option Nat) :
    s.rebuildPages r filling = { s with journal := { s.journal with pages := (s.rebuildPages r filling).journal.pages } } := by
  unfold State.rebuildPages
  generalize s.journal.map.ring = ring
  induction ring generalizing s with
  | nil => rfl
  | cons e ring ih => exact (ih (s.setPage e.page ((s.page e.page).rebuilt r filling e.page))).trans rfl

/-- The page that the scan leaves FILLING. -/
def State.scanFilling (s : State) (r : ScanResult) : Option Nat :=
  r.holder.bind fun x => if (s.scanWrite x).2 = true then some (s.scanWrite x).1.page else none

/-- The write position of the scan: behind the newest record, or where it stood. -/
def State.scanPos (s : State) (r : ScanResult) : WritePos := r.holder.elim s.journal.write fun x => (s.scanWrite x).1

/-- The pages and marks as the scan found them, before any page goes OUT. -/
def State.scanned (s : State) (r : ScanResult) : State := (s.rebuildPages r (s.scanFilling r)).placed r (s.scanPos r)

theorem State.scanned_frame (s : State) (r : ScanResult) :
    s.scanned r = { s with journal := { s.journal with
      pages := (s.scanned r).journal.pages, newest := r.newest, released := r.oldest.elim r.newest (fun n => n - 1)
      discarded := r.oldest.elim r.newest (fun n => n - 1), write := s.scanPos r } } := by
  unfold State.scanned State.placed
  rw [State.rebuildPages_frame]
  rfl

theorem State.scanned_page {s : State} (w : s.pagesWf) (r : ScanResult) (p : Nat) :
    (s.scanned r).page p =
      if p ∈ s.journal.map.ring.map RingPos.page then (s.page p).rebuilt r (s.scanFilling r) p else s.page p :=
  State.rebuildPages_page w r _ p

theorem State.scanPlaces_eq (s : State) (r : ScanResult) :
    s.scanPlaces r = if r.holder = none then (s.scanned r).outUnread.takeFirst else (s.scanned r).outUnread := by
  have write : (s.rebuildPages r none).journal.write = s.journal.write := by rw [State.rebuildPages_frame]
  unfold State.scanPlaces State.scanned State.scanFilling State.scanPos
  cases r.holder with
  | none =>
    rw [if_pos rfl, Option.elim_none, ← write]
    rfl
  | some x => rfl

theorem State.scanned_outUnread (s : State) (r : ScanResult) :
    (s.scanned r).outUnread = (s.scanned r).pagesOut
      ((s.journal.map.ring.filter fun e => e.held.isSome && ((s.scanned r).page e.page).readable.isEmpty).map RingPos.page) := by
  have map : (s.scanned r).journal.map = s.journal.map := by rw [State.scanned_frame]
  rw [← map]
  rfl

theorem mem_slotsOn_iff {p n : Nat} {xs : List Found} : n ∈ slotsOn p xs ↔ n < 64 ∧ ∃ x ∈ xs, x.page = p ∧ x.slot = n := by
  simp [slotsOn, Config.slotsPerPage]

theorem slotsOn_nodup (p : Nat) (xs : List Found) : (slotsOn p xs).Nodup := List.nodup_range.filter _

/-! #### The judgement of the ring (R166, R167) -/

/-- The journal state after the scan (R166, R167). -/
def State.judged (s : State) (newest : Nat) : State :=
  if s.journal.map.ring.length < 8 then s.failJournal .ringShort
  else if newest = 4294967295 then s.failJournal .sequenceEnd
  else { s with journal := { s.journal with state := .normal } }

theorem Rearranged.judged (s : State) (newest : Nat) : Rearranged s (s.judged newest) := by
  unfold State.judged
  split
  · exact .failJournal s _
  · split
    · exact .failJournal s _
    · exact .setState s .normal

theorem State.takeFirst_frame (s : State) :
    s.takeFirst = { s with journal := { s.journal with
      pages := s.takeFirst.journal.pages, write := s.takeFirst.journal.write } } := by
  unfold State.takeFirst
  split
  · rfl
  · split <;> rfl

theorem State.outUnread_rearranged (s : State) : Rearranged s s.outUnread := .pagesOut s _

/-- What the scan leaves outside the marks and the journal's pages, map, state, writer and tests. -/
theorem State.scanPlaces_frame (s : State) (r : ScanResult) :
    s.scanPlaces r = { s with
      journal := { s.journal with
        pages := (s.scanPlaces r).journal.pages, map := (s.scanPlaces r).journal.map, state := (s.scanPlaces r).journal.state
        writer := (s.scanPlaces r).journal.writer, high := (s.scanPlaces r).journal.high
        eraseAhead := (s.scanPlaces r).journal.eraseAhead, write := (s.scanPlaces r).journal.write
        newest := r.newest, released := r.oldest.elim r.newest (fun n => n - 1)
        discarded := r.oldest.elim r.newest (fun n => n - 1) }
      audit := { s.audit with notices := (s.scanPlaces r).audit.notices } } := by
  have outs := (s.scanned r).outUnread_rearranged.frame
  rw [s.scanned_frame r] at outs
  rw [State.scanPlaces_eq, State.scanned_frame]
  split
  · rw [State.takeFirst_frame, outs]
  · rw [outs]

theorem State.completeScan_eq (s : State) (r : ScanResult) :
    s.completeScan r = ((s.scanPlaces r).judged r.newest).highTest := by
  have newest : (s.scanPlaces r).journal.newest = r.newest := by rw [State.scanPlaces_frame]
  unfold State.completeScan State.judged
  rw [← newest]
  rfl

/-- The state once the scan is complete, before its RESTART record. -/
def State.scanDone (s : State) : State := ((s.scanPlaces s.scan).judged s.scan.newest).highTest

theorem State.scanDone_rearranged (s : State) : Rearranged (s.scanPlaces s.scan) s.scanDone :=
  (Rearranged.judged (s.scanPlaces s.scan) s.scan.newest).trans (.highTest _)

theorem State.scanDone_frame (s : State) :
    s.scanDone = { s with
      journal := { s.journal with
        pages := s.scanDone.journal.pages, map := s.scanDone.journal.map, state := s.scanDone.journal.state
        writer := s.scanDone.journal.writer, high := s.scanDone.journal.high, eraseAhead := s.scanDone.journal.eraseAhead
        write := s.scanDone.journal.write, newest := s.scan.newest
        released := s.scan.oldest.elim s.scan.newest (fun n => n - 1)
        discarded := s.scan.oldest.elim s.scan.newest (fun n => n - 1) }
      audit := { s.audit with notices := s.scanDone.audit.notices } } := by
  have frame := s.scanDone_rearranged.frame
  have write := s.scanDone_rearranged.write
  rw [s.scanPlaces_frame s.scan] at frame
  rw [write]
  exact frame

theorem exec_scanComplete_due {s : State} (on : s.powered = true) (recovering : s.journal.state = .recovering) :
    exec .scanComplete s = .next (s.scanDone.offering [s.recordNow .journalUnit (.restart (coldReport s s.scan))]) := by
  have clock : s.scanDone.clock = s.clock := by rw [State.scanDone_frame]
  have record : s.scanDone.recordNow .journalUnit (.restart (coldReport s s.scan)) =
      s.recordNow .journalUnit (.restart (coldReport s s.scan)) := by
    rw [State.recordNow, clock]
    rfl
  rw [← record, State.scanDone, ← State.completeScan_eq]
  exact congrArg Host.Outcome.next (if_pos (by simp [on, recovering]))

/-! #### Pages that go OUT leave a failed ring short (R158) -/

/-- A journal FAILED with RING_SHORT has fewer than 8 pages on its ring. -/
def State.shortWhenFailed (s : State) : Prop := s.journal.state = .failed .ringShort → s.journal.map.ring.length < 8

theorem State.highTest_map (s : State) : s.highTest.journal.map = s.journal.map := by
  rw [State.highTest_eq]
  split
  · split <;> rfl
  · rfl

theorem State.failJournal_map (s : State) (c : FailCause) : (s.failJournal c).journal.map = s.journal.map := by
  unfold State.failJournal
  split <;> rfl

theorem State.failJournal_state (s : State) (c : FailCause) :
    (s.failJournal c).journal.state = if s.journal.state = .failed .ringShort then .failed .ringShort else .failed c := by
  unfold State.failJournal
  by_cases short : s.journal.state = .failed .ringShort
  · rw [if_pos (.inl short), if_pos short, short]
  · rw [if_neg short]
    split
    · next same => exact same.resolve_left short
    · rfl

theorem State.pageOut_short {s : State} (h : s.shortWhenFailed) (p : Nat) : (s.pageOut p).shortWhenFailed := by
  cases pos : s.journal.map.posOf p with
  | none =>
    rw [State.pageOut, pos]
    exact h
  | some e =>
    cases spares : s.journal.map.spares with
    | cons spare rest =>
      have kept : ∀ ring : List RingPos, ring.length = s.journal.map.ring.length →
          s.journal.state = .failed .ringShort → ring.length < 8 := fun ring same failed => same ▸ h failed
      rw [State.pageOut_spare pos spares]
      dsimp only
      split
      · exact kept _ (List.length_map _)
      · exact kept _ (List.length_map _)
    | nil =>
      rw [State.pageOut_noSpare pos spares]
      dsimp only
      have fewer := List.length_filter_le (fun x : RingPos => x.page != p) s.journal.map.ring
      split
      · next short =>
        intro _
        rw [State.failJournal_map, State.highTest_map]
        exact short
      · intro failed
        rw [State.highTest_state] at failed
        rw [State.highTest_map]
        exact lt_of_le_of_lt fewer (h failed)

theorem State.pagesOut_short {s : State} (h : s.shortWhenFailed) (ps : List Nat) : (s.pagesOut ps).shortWhenFailed := by
  unfold State.pagesOut
  induction ps generalizing s with
  | nil => exact h
  | cons p ps ih => exact ih (State.pageOut_short h p)

theorem State.scanPlaces_short {s : State} (recovering : s.journal.state = .recovering) (r : ScanResult) :
    (s.scanPlaces r).shortWhenFailed := by
  have start : (s.scanned r).shortWhenFailed := fun failed => by
    rw [State.scanned_frame] at failed
    rw [recovering] at failed
    cases failed
  have outs : (s.scanned r).outUnread.shortWhenFailed := State.pagesOut_short start _
  rw [State.scanPlaces_eq]
  split
  · rw [State.takeFirst_frame]
    exact outs
  · exact outs

theorem State.judged_state {s : State} (h : s.shortWhenFailed) (newest : Nat) :
    (s.judged newest).journal.state =
      if s.journal.map.ring.length < 8 then .failed .ringShort else if newest = 4294967295 then .failed .sequenceEnd else .normal := by
  unfold State.judged
  split
  · rw [State.failJournal_state]
    exact ite_self _
  · next long =>
    split
    · rw [State.failJournal_state, if_neg (mt h long)]
    · rfl

theorem State.judged_map (s : State) (newest : Nat) : (s.judged newest).journal.map = s.journal.map := by
  unfold State.judged
  split
  · exact State.failJournal_map _ _
  · split
    · exact State.failJournal_map _ _
    · rfl

/-! #### The statement -/

theorem State.coldStart_page {s : State} (w : s.tablesWf) (slotRead : List Byte) (pageRead : List (Nat × List Byte)) (p : Nat) :
    tableLook Page.blank (scanPages (s.cutPages slotRead pageRead).journal.pages) p =
      ((s.cutPages slotRead pageRead).page p).slotsOnly :=
  scanPages_look (State.cutPages_wf w.pagesWf slotRead pageRead).1 p

theorem State.takeFirst_nil {s : State} (ring : s.journal.map.ring = []) : s.takeFirst = s := by
  rw [State.takeFirst, ring]

theorem State.takeFirst_cons {s : State} {e : RingPos} {rest : List RingPos} (ring : s.journal.map.ring = e :: rest) :
    s.takeFirst =
      let u : State := { s with journal := { s.journal with write := { pos := e.pos, page := e.page, slot := 0 } } }
      if e.held = none ∧ (s.page e.page).slots = [] then
        u.setPage e.page { s.page e.page with fill := .filling, readable := [] }
      else u := by
  rw [State.takeFirst, ring]
  simp only [Bool.and_eq_true, Option.isNone_iff_eq_none, List.isEmpty_iff]
  rfl

/-- Where the write position stands when the pages with nothing readable are OUT: at a record found, or at the first page. -/
theorem State.takeFirst_placed (holder : Option Found) (outs : State) :
    (if holder = none then outs.takeFirst else outs) =
      match holder, outs.journal.map.ring with
      | none, e :: _ =>
        let u : State := { outs with journal := { outs.journal with write := { pos := e.pos, page := e.page, slot := 0 } } }
        if e.held = none ∧ (outs.page e.page).slots = [] then
          u.setPage e.page { outs.page e.page with fill := .filling, readable := [] }
        else u
      | _, _ => outs := by
  cases holder with
  | some x => rw [if_neg (Option.some_ne_none x)]
  | none =>
    cases ring : outs.journal.map.ring with
    | nil => exact State.takeFirst_nil ring
    | cons e rest => exact State.takeFirst_cons ring

theorem State.scanned_fill {s : State} (w : s.tablesWf) (distinct : (s.journal.map.ring.map RingPos.page).Nodup) {p : Nat}
    (found : ∀ x, s.scan.holder = some x → x ∈ s.allFound) :
    s.scanFilling s.scan = some p ↔ ∃ x, s.scan.holder = some x ∧ x.page = p ∧ s.fillsBehind x := by
  unfold State.scanFilling
  cases holder : s.scan.holder with
  | none => simp
  | some x =>
    have fills := State.scanWrite_filling w distinct (found x holder)
    simp only [Option.bind_some, Option.ite_none_right_eq_some, fills, Option.some.injEq]
    constructor
    · rintro ⟨behind, page⟩
      exact ⟨x, rfl, page, behind⟩
    · rintro ⟨y, rfl, page, behind⟩
      exact ⟨behind, page⟩

/-- The newest record that the scan finds is one of the records found. -/
theorem State.scan_holder_found {s : State} {x : Found} (holder : s.scan.holder = some x) : x ∈ s.allFound := by
  by_cases none_ : s.allFound = []
  · rw [State.scan_none none_] at holder
    cases holder
  · obtain ⟨_, _, _, _, _, _, _, all, y, readable, holder', _⟩ := State.scan_found none_
    obtain rfl := Option.some.inj (holder'.symm.trans holder)
    exact all y readable

theorem State.scan_clauses (s : State) :
    ((∀ e n, ¬ s.holdsRecord e n) → s.scan = { newest := 0, oldest := none, readable := [], holder := none }) ∧
    ((∃ e n, s.holdsRecord e n) →
      (∀ e n, s.holdsRecord e n → slotSequence ((s.page e.page).slot n) ≤ s.scan.newest) ∧
      ∃ low, s.scan.oldest = some low ∧ low ≤ s.scan.newest ∧
        (1 < low → ∀ e n, s.holdsRecord e n → slotSequence ((s.page e.page).slot n) ≠ low - 1) ∧
        (s.scan.readable.map Found.seq).Nodup ∧
        (∀ k, k ∈ s.scan.readable.map Found.seq ↔ low ≤ k ∧ k ≤ s.scan.newest) ∧
        (∀ x ∈ s.scan.readable, ∃ e, s.holdsRecord e x.slot ∧ e.page = x.page ∧ slotSequence ((s.page e.page).slot x.slot) = x.seq) ∧
        ∃ x ∈ s.scan.readable, s.scan.holder = some x ∧ x.seq = s.scan.newest) := by
  refine ⟨fun none_ => State.scan_none (State.allFound_eq_nil none_), fun ⟨e, n, listed, slot⟩ => ?_⟩
  have copy : ∀ e n, s.holdsRecord e n → ∃ x ∈ s.allFound, x.seq = slotSequence ((s.page e.page).slot n) := fun e n ⟨listed, slot⟩ => by
    obtain ⟨x, found, _, _, seq⟩ := exists_mem_foundFrom listed slot 0
    exact ⟨x, found, seq⟩
  obtain ⟨x, found, _⟩ := copy e n ⟨listed, slot⟩
  obtain ⟨newest, low, oldest, low_le, least, distinct, seqs, all, holder⟩ := State.scan_found (List.ne_nil_of_mem found)
  refine ⟨fun e n held => ?_, low, oldest, low_le, fun more e n held => ?_, distinct, seqs, fun x readable => ?_, holder⟩
  · obtain ⟨x, found, seq⟩ := copy e n held
    exact seq ▸ newest x found
  · obtain ⟨x, found, seq⟩ := copy e n held
    exact seq ▸ least more x found
  · obtain ⟨e, listed, page, slot, seq⟩ := mem_foundFrom (all x readable)
    exact ⟨e, ⟨listed, page ▸ slot⟩, page, by rw [page, seq]⟩

/-- Settles O59: the pages of a cold start, the records found, the pages and marks placed, the RESTART record. -/
theorem coldStartAndScanRestoreThePart : Obligations.ColdStartAndScanRestoreThePart := by
  refine ⟨fun s slotRead pageRead w => ⟨_, rfl, rfl, fun p => ?_⟩, fun s => ?_, fun s w on recovering distinct => ?_,
    fun s on recovering => ?_⟩
  · exact (State.coldStart_page w slotRead pageRead p).trans
      (congrArg (fun slots => ({ slots := slots, fill := .erased, readable := [] } : Page)) (State.cutPages_slots w ..))
  · intro r ring found seq
    have same : ∀ e n, found e n ↔ s.holdsRecord e n := fun e n => and_congr_right fun _ => (mem_foundSlots _ _ _).symm
    simp only [same]
    exact s.scan_clauses
  · have page := State.scanned_page w.pagesWf s.scan
    have filling := fun p => State.scanned_fill w distinct (p := p) fun x => State.scan_holder_found
    refine ⟨s.scanned s.scan, s.scanned_frame _, fun p absent => (page p).trans (if_neg absent), fun e listed => ?_,
      fun x e holder listed same => ?_, fun none_ => ?_, coldReport s s.scan, ?_⟩
    · have here := (page e.page).trans (if_pos (List.mem_map_of_mem listed))
      dsimp only
      rw [here]
      refine ⟨rfl, slotsOn_nodup _ _, fun n => mem_slotsOn_iff, fun isWrite => if_pos ((filling e.page).mpr isWrite),
        fun isNot => (if_neg (mt (filling e.page).mp isNot)).trans ?_⟩
      simp only [List.isEmpty_iff]
    · change s.scanPos s.scan = _
      rw [State.scanPos, holder]
      exact State.scanWrite_pos distinct listed same
    · change s.scanPos s.scan = _
      rw [State.scanPos, none_]
      rfl
    · rw [exec_scanComplete_due on recovering]
      refine congrArg (fun p : State => Host.Outcome.next ((p.judged s.scan.newest).highTest.offering
        [s.recordNow .journalUnit (.restart (coldReport s s.scan))])) ?_
      rw [State.scanPlaces_eq, State.scanned_outUnread]
      exact State.takeFirst_placed _ _
  · have frame := s.scanDone_frame
    have short := State.judged_state (State.scanPlaces_short recovering s.scan) s.scan.newest
    refine ⟨_, exec_scanComplete_due on recovering, ?_, ?_, ?_, ?_, ?_, ?_, coldReport s s.scan, ?_, rfl, rfl, rfl, rfl, rfl, rfl⟩
    · rw [frame]
      rfl
    · rw [frame]
      rfl
    · rw [frame]
      rfl
    · rw [frame]
      rfl
    · rw [frame]
      rfl
    · change s.scanDone.journal.state = if s.scanDone.journal.map.ring.length < 8 then _ else _
      rw [State.scanDone, State.highTest_state, State.highTest_map, State.judged_map]
      exact short
    · rw [frame]
      rfl

end Sys2Proof.Machine
end

section
/-! PROOFS. Power loss and the warm start (O60). -/

namespace Sys2Proof.Machine

/-! #### What completing an operation does not read

An operation taken at the Credential Manager or in the page array reads neither the evaluator's operation nor the Desk link: it
does the same where these two are others. -/

/-- The state with another operation at the Access Evaluator and another Desk link. -/
def State.graft (s : State) (o : Option EvalOp) (k : Link) : State := { s with eval := { s.eval with op := o }, desk := k }

/-- What a check-out writes behind its visits to the listed keys, from where the tally then stands (R31 to R33). -/
def checkOutLeaves (room minute second stayEnd : Nat) (t : Tally) (p : State × Nat × Nat) : State × Nat × Bool × Nat × Nat :=
  let r := p.1.room room
  let s := (p.1.setRoom room (r.departed stayEnd)).offerAt .credentialManager minute second
    (.stayClose room r.label (r.stay.elim 0 Stay.checkIn) stayEnd t.tally t.saturated p.2.1 p.2.2 .checkOut)
  ({ s with cred := { s.cred with op := none } }, t.tally, t.saturated, p.2.1, p.2.2)

theorem State.checkOutRoom_eq (s : State) (room minute second stayEnd : Nat) :
    s.checkOutRoom room minute second stayEnd =
      checkOutLeaves room minute second stayEnd ((s.setTally room { s.tally room with isOpen := false }).tally room)
        ((s.room room).keyList.foldl (checkOutVisit room minute second)
          (s.setTally room { s.tally room with isOpen := false }, 0, 0)) := rfl

section
variable (s : State) (o : Option EvalOp) (k : Link)

theorem State.closeSession_graft (door : Nat) (cause : CloseCause) :
    (s.graft o k).closeSession door cause = (s.closeSession door cause).graft o k := by
  by_cases absent : s.session door = none
  · rw [State.closeSession_none absent, State.closeSession_none (s := s.graft o k) absent]
  · rw [State.closeSession_open absent, State.closeSession_open (s := s.graft o k) absent]
    rfl

theorem State.closeRoomSession_graft (room : Nat) (cause : CloseCause) :
    (s.graft o k).closeRoomSession room cause = (s.closeRoomSession room cause).graft o k := by
  have tally : (s.graft o k).tally room = s.tally room := rfl
  rw [State.closeRoomSession, State.closeRoomSession, tally]
  cases (s.tally room).door with
  | none => rfl
  | some d => exact s.closeSession_graft o k d cause

theorem State.closeTally_graft (room : Nat) (cause : CloseCause) :
    (s.graft o k).closeTally room cause = (s.closeTally room cause).graft o k := by
  rw [State.closeTally_eq, State.closeTally_eq, State.closeRoomSession_graft]
  rfl

theorem State.commitCheckIn_graft (op : CheckInOp) : (s.graft o k).commitCheckIn op = (s.commitCheckIn op).graft o k := by
  have rooms := List.foldl_hom (fun t : State => t.graft o k) (g₁ := fun t r => t.occupy op.minute op.stayEnd r)
    (g₂ := fun t r => t.occupy op.minute op.stayEnd r) (l := op.rooms) (init := { s with cred := { s.cred with op := none } })
    fun _ _ => rfl
  unfold State.commitCheckIn
  dsimp only at rooms ⊢
  cases op.origin with
  | desk => exact rooms
  | group e => exact congrArg (fun t : State => t.setEntry e { t.entry e with checkedIn := true }) rooms

theorem State.checkInOpen_graft (op : CheckInOp) : (s.graft o k).checkInOpen op = (s.checkInOpen op).graft o k := by
  match todo : op.todo with
  | [] => rw [State.checkInOpen, State.checkInOpen, todo]
  | [r] =>
    rw [State.checkInOpen_last todo, State.checkInOpen_last todo]
    exact (s.tallyOpened op r).commitCheckIn_graft o k op
  | r :: r' :: rest =>
    rw [State.checkInOpen_more todo, State.checkInOpen_more todo]
    rfl

theorem State.checkInClose_graft (op : CheckInOp) : (s.graft o k).checkInClose op = (s.checkInClose op).graft o k := by
  cases todo : op.todo with
  | nil => rw [State.checkInClose, State.checkInClose, todo]
  | cons r rest =>
    rw [State.checkInClose, State.checkInClose, todo]
    dsimp only
    rw [State.closeTally_graft]
    rfl

theorem checkOutVisit_graft (room minute second : Nat) (a : State × Nat × Nat) (n : Nat) :
    checkOutVisit room minute second (a.1.graft o k, a.2) n =
      ((checkOutVisit room minute second a n).1.graft o k, (checkOutVisit room minute second a n).2) := by
  have key : (a.1.graft o k).key n = a.1.key n := rfl
  unfold checkOutVisit
  dsimp only
  rw [key]
  cases a.1.key n with
  | none => rfl
  | some x =>
    dsimp only
    split <;> rfl

theorem State.checkOutRoom_graft (room minute second stayEnd : Nat) :
    (s.graft o k).checkOutRoom room minute second stayEnd =
      ((s.checkOutRoom room minute second stayEnd).1.graft o k, (s.checkOutRoom room minute second stayEnd).2) := by
  have visits := List.foldl_hom (fun a : State × Nat × Nat => (a.1.graft o k, a.2)) (g₁ := checkOutVisit room minute second)
    (g₂ := checkOutVisit room minute second) (l := (s.room room).keyList)
    (init := (s.setTally room { s.tally room with isOpen := false }, 0, 0)) (checkOutVisit_graft o k room minute second)
  rw [State.checkOutRoom_eq, State.checkOutRoom_eq]
  exact congrArg (checkOutLeaves room minute second stayEnd ((s.setTally room { s.tally room with isOpen := false }).tally room)) visits

theorem State.finishCmOnce_graft : (s.graft o k).finishCmOnce = s.finishCmOnce.graft o k := by
  have same : (s.graft o k).cred.op = s.cred.op := rfl
  rw [State.finishCmOnce, State.finishCmOnce, same]
  match s.cred.op with
  | none => rfl
  | some (.checkIn op) =>
    dsimp only
    rw [State.checkInClose_graft, State.checkInOpen_graft]
    split <;> rfl
  | some (.checkOut room minute second stayEnd) =>
    dsimp only
    rw [State.checkOutClose_eq, State.checkOutClose_eq, State.closeRoomSession_graft, State.checkOutRoom_graft]

theorem State.finishCm_graft : (s.graft o k).finishCm = s.finishCm.graft o k :=
  List.foldl_hom (fun t : State => t.graft o k) fun t _ => t.finishCmOnce_graft o k

/-! #### The program in the page array (R168) -/

theorem State.failJournal_graft (c : FailCause) : (s.graft o k).failJournal c = (s.failJournal c).graft o k :=
  (apply_ite (fun t : State => t.graft o k) (s.journal.state = .failed .ringShort ∨ s.journal.state = .failed c) s
    ((s.setJournal { s.journal with state := .failed c }).raise .journalFailed)).symm

theorem State.highTest_graft : (s.graft o k).highTest = s.highTest.graft o k := by
  have same : (s.graft o k).journal = s.journal := rfl
  rw [State.highTest_eq, State.highTest_eq, same]
  split
  · split <;> rfl
  · rfl

theorem State.sequenceTest_graft : (s.graft o k).sequenceTest = s.sequenceTest.graft o k := by
  have same : (s.graft o k).journal = s.journal := rfl
  rw [State.sequenceTest_eq, State.sequenceTest_eq, same]
  split
  · exact s.failJournal_graft o k .sequenceEnd
  · rfl

theorem State.eraseAheadTest_graft : (s.graft o k).eraseAheadTest = s.eraseAheadTest.graft o k := by
  have same : (s.graft o k).turnTarget = s.turnTarget := rfl
  rw [State.eraseAheadTest, State.eraseAheadTest, same]
  cases s.turnTarget with
  | none => rfl
  | some e =>
    exact (apply_ite (fun t : State => t.graft o k) ((s.page e.page).fill = .full ∧
      (s.page e.page).within s.journal.released = true ∧ s.journal.writer.erasingPage ≠ some e.page)
      (s.setJournal { s.journal with eraseAhead := some e.page }) s).symm

theorem State.recordDurable_graft (contents : List Byte) :
    (s.graft o k).recordDurable contents = (s.recordDurable contents).graft o k := by
  have recorded : (s.graft o k).recorded contents = (s.recorded contents).graft o k := rfl
  have same : (s.graft o k).journal = s.journal := rfl
  rw [State.recordDurable_eq, State.recordDurable_eq, recorded, same, State.eraseAheadTest_graft,
    ← apply_ite (fun t : State => t.graft o k), State.highTest_graft, State.sequenceTest_graft]

theorem State.resolveProgram_graft (contents : List Byte) :
    (s.graft o k).resolveProgram contents = (s.resolveProgram contents).graft o k := by
  have same : (s.graft o k).journal = s.journal := rfl
  rw [State.resolveProgram, State.resolveProgram, same]
  split
  · split
    · exact s.recordDurable_graft o k contents
    · rfl
  · rfl

end

/-! #### What a warm start leaves (R184) -/

theorem State.finishCm_idle {s : State} (idle : s.cred.op = none) : s.finishCm = s := by
  rw [State.finishCm_eq]
  exact State.finishCmOnce_iterate_none idle 8

theorem State.finishCm_op (s : State) : s.finishCm.eval.op = s.eval.op := by
  have same : s.finishCm = s.finishCm.graft s.eval.op s.desk := s.finishCm_graft s.eval.op s.desk
  rw [same]
  rfl

theorem State.resolveProgram_op (s : State) (contents : List Byte) : (s.resolveProgram contents).eval.op = s.eval.op := by
  have same : s.resolveProgram contents = (s.resolveProgram contents).graft s.eval.op s.desk :=
    s.resolveProgram_graft s.eval.op s.desk contents
  rw [same]
  rfl

theorem State.resolveProgram_idle {s : State} (idle : s.journal.writer ≠ .programming) (contents : List Byte) :
    s.resolveProgram contents = s := by
  unfold State.resolveProgram
  split
  · next programming _ => exact absurd programming idle
  · rfl

theorem State.finishTaken_op (s : State) (slotRead : List Byte) : (s.finishTaken slotRead).eval.op = none :=
  State.resolveProgram_op _ _

theorem State.warmDoors_frame (s : State) :
    s.warmDoors =
      { s with eval := { s.eval with
        doors := s.eval.doors.foldl (fun t p => tablePut Door.blank t p.1 p.2.warm) s.eval.doors } } :=
  List.foldl_hom (fun doors : Table Door => ({ s with eval := { s.eval with doors := doors } } : State))
    (l := s.eval.doors) (init := s.eval.doors) fun _ _ => rfl

/-- Every door after a warm start, one without a record of its own too (R97). -/
theorem State.warmDoors_door {s : State} (w : tableWf Door.blank s.eval.doors = true) (n : Nat) :
    s.warmDoors.door n = (s.door n).warm := by
  rw [State.warmDoors_frame]
  refine (tableLook_foldl_put Door.warm w w n).trans ?_
  split
  · rfl
  · next absent =>
    rw [State.door, tableLook_unlisted absent]
    rfl

theorem Group.warm_eq (g : Group) :
    g.warm = if g.state = .running ∨ g.state = .halting then { g with state := .stopped, stop := some .warmStart, abort := false, phase := .rest }
      else { g with phase := .rest } := by
  simp only [Group.warm, Group.active_iff]

theorem State.warmTables_frame (s : State) :
    s.warmTables =
      { s with
        settings := { s.settings with fence := false }
        clock := { s.clock with sweep := { position := none, pendingPass := false, passes := 0 } }
        cred := { s.cred with allowance := 0, waiting := [] }
        eval := { s.eval with doors := s.warmDoors.eval.doors }
        mini := { s.mini with tariffLock := false, sessions := [], idleDue := 0 }
        group :=
          if s.group.state = .running ∨ s.group.state = .halting then
            { s.group with state := .stopped, stop := some .warmStart, abort := false, phase := .rest }
          else { s.group with phase := .rest }
        desk := .started .desk, lock := .started .lock, audit := .started .audit } := by
  rw [← Group.warm_eq, State.warmTables, State.warmDoors_frame]

theorem State.warmTables_graft (s : State) (k : Link) : ({ s with desk := k } : State).warmTables = s.warmTables := by
  unfold State.warmTables
  rw [State.warmDoors_frame, State.warmDoors_frame]

theorem exec_warmStart_taken {s : State} {cause : WarmCause} (starts : s.powered = true ∨ cause = .power) (slotRead : List Byte) :
    exec (.warmStart cause slotRead) s = .next ((s.finishTaken slotRead).warmTables.offerNow .journalUnit
      (.restart (warmReport cause s (s.finishTaken slotRead)))) := by
  refine congrArg Host.Outcome.next (if_neg ?_)
  rcases starts with on | rfl
  · simp [on]
  · simp

/-- Two states of which a warm start reports the same as found. -/
structure FoundAlike (s t : State) : Prop where
  powered : t.powered = s.powered
  fence : t.settings.fence = s.settings.fence
  lock : t.mini.tariffLock = s.mini.tariffLock
  staging : t.journal.staging = s.journal.staging

theorem FoundAlike.trans {s t u : State} (h : FoundAlike s t) (g : FoundAlike t u) : FoundAlike s u :=
  ⟨g.powered.trans h.powered, g.fence.trans h.fence, g.lock.trans h.lock, g.staging.trans h.staging⟩

/-- A warm start is a function of what it completes, the Desk link apart, and of what its report says of the state found (R185). -/
theorem exec_warmStart_congr {s t : State} (cause : WarmCause) {slotRead : List Byte} (on : s.powered = true)
    (found : FoundAlike s t) {k : Link} (taken : t.finishTaken slotRead = { s.finishTaken slotRead with desk := k }) :
    exec (.warmStart cause slotRead) s = exec (.warmStart cause slotRead) t := by
  have report : warmReport cause t { s.finishTaken slotRead with desk := k } = warmReport cause s (s.finishTaken slotRead) := by
    simp only [warmReport, found.fence, found.lock, found.staging]
    rfl
  have tables := (s.finishTaken slotRead).warmTables_graft k
  rw [exec_warmStart_taken (.inl on), exec_warmStart_taken (.inl (found.powered.trans on)), taken, report]
  exact congrArg (fun u : State => Host.Outcome.next (u.offerNow .journalUnit
    (.restart (warmReport cause s (s.finishTaken slotRead))))) tables.symm

theorem State.finishTaken_on {s : State} (on : s.powered = true) (slotRead : List Byte) :
    s.finishTaken slotRead = s.finishCm.finishEval.resolveProgram (asSlot slotRead) := by
  have power : { s with powered := true } = s := by rw [← on]
  rw [State.finishTaken, power]

/-! #### A DOOR_SET and the Desk link (R71, R72) -/

/-- A state that differs from another in its Desk link alone. -/
def DeskOnly (s t : State) : Prop := ∃ k, t = { s with desk := k }

theorem DeskOnly.refl (s : State) : DeskOnly s s := ⟨s.desk, rfl⟩

theorem DeskOnly.trans {s t u : State} (h : DeskOnly s t) (g : DeskOnly t u) : DeskOnly s u := by
  obtain ⟨_, rfl⟩ := h
  obtain ⟨k, rfl⟩ := g
  exact ⟨k, rfl⟩

theorem DeskOnly.symm {s t : State} (h : DeskOnly s t) : DeskOnly t s := by
  obtain ⟨_, rfl⟩ := h
  exact ⟨s.desk, rfl⟩

theorem DeskOnly.answer (s : State) (st : Status) (fs : List Field) : DeskOnly s (s.answer .desk st fs) := by
  unfold State.answer
  split
  · exact .refl s
  · exact ⟨_, rfl⟩

/-- What a DOOR_SET does beside its reply is the same whatever the Desk link holds. -/
theorem DeskOnly.answers {s t : State} (h : DeskOnly s t) (st : Status) (fs : List Field) :
    DeskOnly (s.answer .desk st fs) (t.answer .desk st fs) :=
  ((DeskOnly.answer s st fs).symm.trans h).trans (.answer t st fs)

theorem DeskOnly.found {s t : State} (h : DeskOnly s t) : FoundAlike s t := by
  obtain ⟨k, rfl⟩ := h
  exact ⟨rfl, rfl, rfl, rfl⟩

theorem DeskOnly.cred {s t : State} (h : DeskOnly s t) : t.cred = s.cred := by
  obtain ⟨k, rfl⟩ := h
  rfl

theorem DeskOnly.evalDone {s t : State} (h : DeskOnly s t) : DeskOnly s.evalDone t.evalDone := by
  obtain ⟨k, rfl⟩ := h
  exact ⟨k, rfl⟩

theorem DeskOnly.doorSetDone {s t : State} (h : DeskOnly s t) (d : DoorSet) (closed : Bool) :
    DeskOnly (s.doorSetDone d closed) (t.doorSetDone d closed) := h.evalDone.answers _ _

theorem DeskOnly.assignDoor {s t : State} (h : DeskOnly s t) (d : DoorSet) (room : Nat) :
    DeskOnly (s.assignDoor d room) (t.assignDoor d room) := by
  obtain ⟨k, rfl⟩ := h
  exact DeskOnly.doorSetDone ⟨k, rfl⟩ d false

theorem DeskOnly.releaseDoor {s t : State} (h : DeskOnly s t) (d : DoorSet) (room : Nat) :
    DeskOnly (s.releaseDoor d room) (t.releaseDoor d room) := by
  obtain ⟨k, rfl⟩ := h
  have same : ({ s with desk := k } : State).session d.door = s.session d.door := rfl
  rw [State.releaseDoor, State.releaseDoor, same]
  split
  · exact DeskOnly.answers (s := s.evalDone) ⟨k, rfl⟩ .doorBusy []
  · cases d.place with
    | minibar r => exact ⟨k, rfl⟩
    | _ => exact DeskOnly.doorSetDone (s := (s.setTally room { s.tally room with door := none }).writeDoor d) ⟨k, rfl⟩ d false

theorem DeskOnly.of_graft {s : State} {o : Option EvalOp} (same : s.eval.op = o) (k : Link) : DeskOnly s (s.graft o k) := by
  subst same
  exact ⟨k, rfl⟩

theorem DeskOnly.closeDoorSession {s t : State} (h : DeskOnly s t) (d : DoorSet) :
    DeskOnly (s.closeDoorSession d) (t.closeDoorSession d) := by
  obtain ⟨k, rfl⟩ := h
  have same : (s.closeSession d.door .doorDisabled).eval.op = s.eval.op := by rw [State.closeSession_spec]
  exact DeskOnly.doorSetDone (s.closeSession_graft s.eval.op k d.door .doorDisabled ▸ .of_graft same k) d (s.session d.door).isSome

theorem DeskOnly.finishDoorOnce {s t : State} (h : DeskOnly s t) : DeskOnly s.finishDoorOnce t.finishDoorOnce := by
  have same : t.eval.op = s.eval.op := by
    obtain ⟨k, rfl⟩ := h
    rfl
  rw [State.finishDoorOnce, State.finishDoorOnce, same]
  split
  · exact h.releaseDoor _ _
  · exact h.assignDoor _ _
  · exact h.closeDoorSession _
  · exact h

theorem DeskOnly.finishEval {s t : State} (h : DeskOnly s t) : DeskOnly s.finishEval t.finishEval :=
  h.finishDoorOnce.finishDoorOnce.evalDone

theorem DeskOnly.resolveProgram {s t : State} (h : DeskOnly s t) (contents : List Byte) :
    DeskOnly (s.resolveProgram contents) (t.resolveProgram contents) := by
  obtain ⟨k, rfl⟩ := h
  exact s.resolveProgram_graft s.eval.op k contents ▸ .of_graft (s.resolveProgram_op contents) k

/-! #### The operations that a warm start completes (R39, R101, R124) -/

/-- A warm start completes alike what is alike once the Credential Manager's operation is complete, the Desk link apart. -/
theorem exec_warmStart_deskOnly {s t : State} (cause : WarmCause) (slotRead : List Byte) (on : s.powered = true)
    (found : FoundAlike s t) (taken : DeskOnly s.finishCm.finishEval t.finishCm.finishEval) :
    exec (.warmStart cause slotRead) s = exec (.warmStart cause slotRead) t := by
  obtain ⟨k, whole⟩ := taken.resolveProgram (asSlot slotRead)
  refine exec_warmStart_congr cause on found (k := k) ?_
  rw [State.finishTaken_on on, State.finishTaken_on (found.powered.trans on)]
  exact whole

theorem State.checkInClose_found (s : State) (op : CheckInOp) : FoundAlike s (s.checkInClose op) := by
  cases todo : op.todo with
  | nil => rw [State.checkInClose, todo]; exact ⟨rfl, rfl, rfl, rfl⟩
  | cons r rest =>
    rw [State.checkInClose, todo]
    dsimp only
    rw [State.closeTally_spec]
    exact ⟨rfl, rfl, rfl, rfl⟩

theorem State.finishCm_checkInClose {s : State} {op : CheckInOp} (doing : s.cred.op = some (.checkIn op)) (closing : op.closing = true)
    (four : op.todo.length ≤ 4) : (s.checkInClose op).finishCm = s.finishCm := by
  cases todo : op.todo with
  | nil => rw [State.checkInClose, todo]
  | cons r rest =>
    have done : (State.finishCmOnce^[8] s).cred.op = none :=
      State.finishCmOnce_iterate_done 8 doing (by simp [todo]) (by rw [closing, if_pos rfl]; omega)
    rw [State.finishCm_eq, State.finishCm_eq, ← State.finishCmOnce_closing doing closing, ← Function.iterate_succ_apply,
      Function.iterate_succ_apply', State.finishCmOnce_none done]

theorem exec_tallyClose_idle {s : State} (idle : ∀ op, s.cred.op = some (.checkIn op) → op.closing = false)
    (stays : ∀ room minute second stayEnd, s.cred.op ≠ some (.checkOut room minute second stayEnd)) :
    exec .tallyClose s = .next s := by
  change execTallyClose s = _
  unfold execTallyClose
  split
  · next op doing => simp [idle op doing]
  · next doing => exact absurd doing (stays _ _ _ _)
  · rfl

theorem State.checkOutClose_found (s : State) (room minute second stayEnd : Nat) :
    FoundAlike s (s.checkOutClose room minute second stayEnd).1 := by
  have left : onlyHotel (s.closeRoomSession room .checkOut) (s.checkOutClose room minute second stayEnd).1 :=
    State.checkOutRoom_frame _ room minute second stayEnd
  rw [left, State.closeRoomSession_eq]
  exact ⟨rfl, rfl, rfl, rfl⟩

/-- A tally-close taken, or left to the warm start that comes next. -/
theorem warmStart_tallyClose {s t : State} (cause : WarmCause) (slotRead : List Byte) (on : s.powered = true)
    (four : ∀ op, s.cred.op = some (.checkIn op) → op.todo.length ≤ 4) (taken : exec .tallyClose s = .next t) :
    exec (.warmStart cause slotRead) s = exec (.warmStart cause slotRead) t := by
  have idle : exec .tallyClose s = .next s → exec (.warmStart cause slotRead) s = exec (.warmStart cause slotRead) t :=
    fun stays => by rw [Host.Outcome.next.inj (stays.symm.trans taken)]
  match doing : s.cred.op with
  | none => exact idle (exec_tallyClose_idle (fun op doing' => by simp [doing] at doing') fun _ _ _ _ doing' => by simp [doing] at doing')
  | some (.checkIn op) =>
    cases closing : op.closing with
    | false =>
      exact idle (exec_tallyClose_idle (fun op' doing' => by simp_all) fun _ _ _ _ doing' => by simp [doing] at doing')
    | true =>
      obtain rfl := Host.Outcome.next.inj ((exec_tallyClose_checkIn on doing closing).symm.trans taken)
      refine exec_warmStart_deskOnly cause slotRead on (s.checkInClose_found op) ?_
      rw [State.finishCm_checkInClose doing closing (four op doing)]
      exact .refl _
  | some (.checkOut room minute second stayEnd) =>
    have found := s.checkOutClose_found room minute second stayEnd
    have done : (s.checkOutClose room minute second stayEnd).1.cred.op = none := rfl
    have first : s.finishCmOnce = (s.checkOutClose room minute second stayEnd).1 := by rw [State.finishCmOnce, doing]
    rcases result : s.checkOutClose room minute second stayEnd with ⟨u, final, saturated, dead, kept⟩
    rw [result] at found done first
    obtain rfl := Host.Outcome.next.inj ((exec_tallyClose_checkOut on doing result).symm.trans taken)
    have answered := DeskOnly.answer u .ok
      [.num 2 room, .num 3 final, .flag saturated, .num 4 stayEnd, .num 1 dead, .num 1 kept]
    have whole : s.finishCm = u := by
      rw [State.finishCm_eq, Function.iterate_succ_apply, first]
      exact State.finishCmOnce_iterate_none done 7
    refine exec_warmStart_deskOnly cause slotRead on (found.trans answered.found) ?_
    rw [whole, State.finishCm_idle ((congrArg Credentials.op answered.cred).trans done)]
    exact answered.finishEval

theorem State.doorSetDone_op (s : State) (d : DoorSet) (closed : Bool) : (s.doorSetDone d closed).eval.op = none := by
  obtain ⟨k, same⟩ : DeskOnly s.evalDone (s.doorSetDone d closed) := .answer _ _ _
  rw [same]
  rfl

theorem State.doorSetDone_found (s : State) (d : DoorSet) (closed : Bool) : FoundAlike s (s.doorSetDone d closed) := by
  obtain ⟨k, same⟩ : DeskOnly s.evalDone (s.doorSetDone d closed) := .answer _ _ _
  rw [same]
  exact ⟨rfl, rfl, rfl, rfl⟩

theorem State.doorSetDone_cred (s : State) (d : DoorSet) (closed : Bool) : (s.doorSetDone d closed).cred = s.cred := by
  obtain ⟨k, same⟩ : DeskOnly s.evalDone (s.doorSetDone d closed) := .answer _ _ _
  rw [same]
  rfl

/-- One hand-over of a DOOR_SET changes nothing of what a warm start finds, and leaves the Credential Manager as it is. -/
theorem State.finishDoorOnce_found (s : State) : FoundAlike s s.finishDoorOnce ∧ s.finishDoorOnce.cred = s.cred := by
  unfold State.finishDoorOnce
  split
  · next d room _ =>
    by_cases free : s.session d.door = none
    · cases place : d.place with
      | minibar r =>
        rw [State.releaseDoor_assigns free place]
        exact ⟨⟨rfl, rfl, rfl, rfl⟩, rfl⟩
      | _ =>
        rw [State.releaseDoor_completes free (by simp [place])]
        exact ⟨.trans (t := (s.setTally room { s.tally room with door := none }).writeDoor d) ⟨rfl, rfl, rfl, rfl⟩
          (State.doorSetDone_found ..), State.doorSetDone_cred ..⟩
    · have answered := DeskOnly.answer s.evalDone .doorBusy []
      rw [State.releaseDoor_busy free]
      exact ⟨.trans (t := s.evalDone) ⟨rfl, rfl, rfl, rfl⟩ answered.found, answered.cred⟩
  · next d room _ =>
    exact ⟨.trans (t := s.setTally room { s.tally room with door := some d.door }) ⟨rfl, rfl, rfl, rfl⟩
      (State.doorSetDone_found ..), State.doorSetDone_cred ..⟩
  · next d _ =>
    have closed : FoundAlike s (s.closeSession d.door .doorDisabled) ∧ (s.closeSession d.door .doorDisabled).cred = s.cred := by
      rw [State.closeSession_spec]
      exact ⟨⟨rfl, rfl, rfl, rfl⟩, rfl⟩
    exact ⟨closed.1.trans (State.doorSetDone_found ..), (State.doorSetDone_cred ..).trans closed.2⟩
  · exact ⟨⟨rfl, rfl, rfl, rfl⟩, rfl⟩

theorem State.finishDoorOnce_idle {s : State} (idle : s.eval.op = none) : s.finishDoorOnce = s := by
  rw [State.finishDoorOnce, idle]

theorem State.finishDoorOnce_assign {s : State} {d : DoorSet} {room : Nat} (waiting : s.eval.op = some (.doorAssign d room)) :
    s.finishDoorOnce.eval.op = none := by
  rw [State.finishDoorOnce, waiting]
  exact State.doorSetDone_op ..

/-- What a hand-over of a DOOR_SET leaves in progress: nothing, or the assignment to the new room. -/
theorem State.finishDoorOnce_op (s : State) :
    s.finishDoorOnce = s ∨ s.finishDoorOnce.eval.op = none ∨ ∃ d room, s.finishDoorOnce.eval.op = some (.doorAssign d room) := by
  unfold State.finishDoorOnce
  split
  · next d room _ =>
    by_cases free : s.session d.door = none
    · cases place : d.place with
      | minibar r => exact .inr (.inr ⟨d, r, by rw [State.releaseDoor_assigns free place]; rfl⟩)
      | _ => exact .inr (.inl (by rw [State.releaseDoor_completes free (by simp [place])]; exact State.doorSetDone_op ..))
    · exact .inr (.inl (by rw [State.releaseDoor_busy free, State.answer_eval]; rfl))
  · exact .inr (.inl (State.doorSetDone_op ..))
  · exact .inr (.inl (State.doorSetDone_op ..))
  · exact .inl rfl

/-- Two hand-overs complete every DOOR_SET. -/
theorem State.finishDoorOnce_settled (s : State) : s.finishDoorOnce.finishDoorOnce.finishDoorOnce = s.finishDoorOnce.finishDoorOnce := by
  rcases s.finishDoorOnce_op with same | idle | ⟨d, room, waiting⟩
  · rw [same, same, same]
  · rw [State.finishDoorOnce_idle idle, State.finishDoorOnce_idle idle]
  · rw [State.finishDoorOnce_idle (State.finishDoorOnce_assign waiting)]

/-- A hand-over of a DOOR_SET taken, or left to the warm start that comes next. -/
theorem warmStart_finishDoorOnce {s : State} (cause : WarmCause) (slotRead : List Byte) (on : s.powered = true)
    (free : s.cred.op = none) : exec (.warmStart cause slotRead) s = exec (.warmStart cause slotRead) s.finishDoorOnce := by
  obtain ⟨found, cred⟩ := s.finishDoorOnce_found
  refine exec_warmStart_deskOnly cause slotRead on found ?_
  rw [State.finishCm_idle free, State.finishCm_idle ((congrArg Credentials.op cred).trans free), State.finishEval, State.finishEval,
    State.finishDoorOnce_settled]
  exact .refl _

theorem exec_doorHandOver (s : State) (on : s.powered = true) :
    ∀ i ∈ [Instr.minibarRelease, .minibarDoorAssignment, .doorSetSessionClose],
      exec i s = .next s.finishDoorOnce ∨ exec i s = .next s := by
  intro i listed
  simp only [List.mem_cons, List.not_mem_nil, or_false] at listed
  rcases listed with rfl | rfl | rfl
  · change execMinibarRelease s = _ ∨ execMinibarRelease s = _
    unfold execMinibarRelease
    split
    · next d room waiting => exact .inl (by rw [if_pos on, State.finishDoorOnce, waiting])
    · exact .inr rfl
  · change execMinibarDoorAssignment s = _ ∨ execMinibarDoorAssignment s = _
    unfold execMinibarDoorAssignment
    split
    · next d room waiting => exact .inl (by rw [if_pos on, State.finishDoorOnce, waiting])
    · exact .inr rfl
  · change execDoorSetSessionClose s = _ ∨ execDoorSetSessionClose s = _
    unfold execDoorSetSessionClose
    split
    · next d waiting => exact .inl (by rw [if_pos on, State.finishDoorOnce, waiting])
    · exact .inr rfl

/-- The operations of the evaluator that a warm start drops (R101). -/
def EvalOp.dropped (o : EvalOp) : Prop :=
  (∃ c, o = .present c) ∨ (∃ c room kind m x, o = .sessionOpen c room kind m x) ∨ ∃ d room on, o = .privacy d room on

theorem State.finishDoorOnce_dropped {s : State} {o : EvalOp} (doing : s.eval.op = some o) (dropped : o.dropped) :
    s.finishDoorOnce = s := by
  rcases dropped with ⟨c, rfl⟩ | ⟨c, room, kind, m, x, rfl⟩ | ⟨d, room, on, rfl⟩ <;> rw [State.finishDoorOnce, doing]

/-- An operation of the evaluator that is dropped counts for nothing at the warm start. -/
theorem warmStart_dropped {s : State} (cause : WarmCause) (slotRead : List Byte) (on : s.powered = true) {o : EvalOp}
    (doing : s.eval.op = some o) (dropped : o.dropped) :
    exec (.warmStart cause slotRead) s = exec (.warmStart cause slotRead) { s with eval := { s.eval with op := none } } := by
  have taken : ({ s with eval := { s.eval with op := none } } : State).finishCm = s.finishCm.graft none s.desk :=
    s.finishCm_graft none s.desk
  have whole := State.finishDoorOnce_dropped (s.finishCm_op.trans doing) dropped
  have idle := State.finishDoorOnce_idle (s := s.finishCm.graft none s.desk) rfl
  refine exec_warmStart_deskOnly cause slotRead on ⟨rfl, rfl, rfl, rfl⟩ ?_
  rw [taken, State.finishEval, State.finishEval, whole, whole, idle, idle]
  exact ⟨s.desk, rfl⟩

/-! #### The program taken (R168) -/

theorem State.finishEval_idle {s : State} (idle : s.eval.op = none) : s.finishEval = s := by
  rw [State.finishEval, State.finishDoorOnce_idle idle, State.finishDoorOnce_idle idle, State.evalDone, ← idle]

/-- A warm start that finds no operation taken completes none. -/
theorem State.finishTaken_idle {s : State} (free : s.cred.op = none) (idle : s.eval.op = none)
    (writer : s.journal.writer ≠ .programming) (slotRead : List Byte) : s.finishTaken slotRead = { s with powered := true } := by
  have cm : ({ s with powered := true } : State).finishCm = { s with powered := true } := State.finishCm_idle free
  have eval : ({ s with powered := true } : State).finishEval = { s with powered := true } := State.finishEval_idle idle
  rw [State.finishTaken, cm, eval]
  exact State.resolveProgram_idle (s := { s with powered := true }) writer _

theorem State.finishTaken_program {s : State} (on : s.powered = true) (free : s.cred.op = none) (idle : s.eval.op = none)
    {slotRead : List Byte} (full : slotRead.length = 32) : s.finishTaken slotRead = s.resolveProgram slotRead := by
  rw [State.finishTaken_on on, State.finishCm_idle free, State.finishEval_idle idle, asSlot_of_length full]

theorem State.resolveProgram_verified {s : State} {r : Rec} {rest : List Rec} (programming : s.journal.writer = .programming)
    (staging : s.journal.staging = r :: rest) {contents : List Byte} (verified : contents = recordImage (s.journal.newest + 1) r) :
    s.resolveProgram contents = s.recordDurable contents := by
  rw [State.resolveProgram, programming, staging]
  exact if_pos verified

theorem State.resolveProgram_failed {s : State} {r : Rec} {rest : List Rec} (programming : s.journal.writer = .programming)
    (staging : s.journal.staging = r :: rest) {contents : List Byte} (failed : contents ≠ recordImage (s.journal.newest + 1) r) :
    s.resolveProgram contents =
      State.setPage { s with journal := { s.journal with writer := .idle } } s.journal.write.page
        { s.page s.journal.write.page with
          slots := tablePut erasedSlot (s.page s.journal.write.page).slots s.journal.write.slot contents, fill := .full } := by
  rw [State.resolveProgram, programming, staging]
  exact if_neg failed

/-! #### The statement -/

theorem exec_secondEvent_unpowered {s : State} (off : s.powered = false) (runs : s.clock.isSet = true) :
    exec .secondEvent s = .next { s with clock := s.clock.tick } := by
  change execSecondEvent s = _
  simp only [execSecondEvent, runs, off, if_true, Bool.false_eq_true, if_false]

theorem Clock.tick_inside {c : Clock} (below : c.minute < 4294967295) :
    c.tick = if c.second < 59 then { c with second := c.second + 1 } else { c with second := 0, minute := c.minute + 1 } := by
  have next : min (c.minute + 1) Config.maxMinute = c.minute + 1 := Nat.min_eq_left below
  rw [Clock.tick, next]

theorem Clock.tick_last {c : Clock} (last : c.minute = 4294967295) :
    c.tick = { c with second := if c.second < 59 then c.second + 1 else 0 } := by
  have next : min (c.minute + 1) Config.maxMinute = c.minute := by
    rw [last]
    rfl
  rw [Clock.tick, next]
  split <;> rfl

theorem exec_secondEvent_stopped {s : State} (stopped : s.clock.isSet = false) : exec .secondEvent s = .next s := by
  change execSecondEvent s = _
  simp only [execSecondEvent, stopped, Bool.false_eq_true, if_false]

theorem exec_warmStart_unpowered {s : State} (off : s.powered = false) (slotRead : List Byte) :
    exec (.warmStart .pin slotRead) s = .next s := congrArg Host.Outcome.next (if_pos (by rw [off]; rfl))

/-- Settles O60: what a warm start completes, then what it keeps and returns to its start values. -/
theorem powerLossAndWarmStartKeepTheRetainedDomain : Obligations.PowerLossAndWarmStartKeepTheRetainedDomain := by
  refine ⟨fun s cause slotRead on => ⟨fun four t taken => ?_, fun free i listed t taken => ?_, fun op doing dropped => ?_,
    fun r rest free idle programming staging full => ⟨fun verified => ?_, fun failed => ?_⟩⟩,
    fun s => ⟨rfl, fun off runs below => ?_, fun off runs last => ?_, fun off stopped => exec_secondEvent_stopped stopped,
      fun slotRead off => exec_warmStart_unpowered off slotRead, fun cause slotRead starts w => ⟨fun free idle writer => ?_, ?_⟩⟩⟩
  · exact warmStart_tallyClose cause slotRead on four taken
  · rcases exec_doorHandOver s on i listed with once | stays
    · rw [Host.Outcome.next.inj (taken.symm.trans once)]
      exact warmStart_finishDoorOnce cause slotRead on free
    · rw [Host.Outcome.next.inj (taken.symm.trans stays)]
  · exact warmStart_dropped cause slotRead on doing dropped
  · rw [exec_programComplete_due on programming full, State.programDone_verified staging verified,
      State.finishTaken_program on free idle full, State.resolveProgram_verified programming staging verified]
  · rw [State.finishTaken_program on free idle full]
    exact State.resolveProgram_failed programming staging failed
  · rw [exec_secondEvent_unpowered off runs, Clock.tick_inside below]
  · rw [exec_secondEvent_unpowered off runs, Clock.tick_last last]
  · exact State.finishTaken_idle free idle writer slotRead
  · have doors : tableWf Door.blank (s.finishTaken slotRead).eval.doors = true :=
      (Moves.keeps (fun _ _ => Move.keeps_tables) (Moves.finishTaken s slotRead) w).doors
    refine ⟨_, warmReport cause s (s.finishTaken slotRead), exec_warmStart_taken starts slotRead, ?_, fun n => State.warmDoors_door doors n, ?_, rfl, rfl, rfl, rfl, ?_⟩
    · rw [State.warmTables_frame]
      rfl
    · rw [State.warmTables_frame]
      exact s.finishTaken_op slotRead
    · simp only [warmReport, Group.active_iff]

end Sys2Proof.Machine
end
